-- ==== Sys2Proof/Word.lean ====
section
/-! DEFINITION. The word types of the Steoth Uliori model and the type of its sparse files.
Widths are those of 02_number_formats.md and 05_tile_sequencer.md. -/

namespace Sys2Proof

/-- One byte of a memory. -/
abbrev Byte := BitVec 8

/-- A general register, a tile register or a host register (R136, R176, R344). -/
abbrev Word := BitVec 64

/-- A sparse file: the entries that differ from the file's default, keys strictly rising.
Every large file of the device (a scratchpad, a register bank, the tiles of the die) is held so;
`Machine.SMap.get` reads it and `Machine.SMap.set` writes it. -/
abbrev SMap (α : Type) := List (Nat × α)

/-- A byte memory: address and byte pairs, an unlisted address reading as zero (R125, R327). -/
abbrev Memory := List Host.Cell

/-- Number of tile sites on the die (R17). -/
abbrev siteCount : Nat := 480

/-- Number of regions on the die (R16). -/
abbrev regionCount : Nat := 20

end Sys2Proof
end

