-- ==== Sys2Proof/Machine/Bits.lean ====
section
/-! DEFINITION. Bit fields, little-endian byte strings and the check codes of R188, R256 and R293. -/

namespace Sys2Proof.Machine

/-- Bits `lo + w - 1` to `lo` of a number. -/
def bitsOf (x lo w : Nat) : Nat := (x >>> lo) % 2 ^ w

/-- One bit of a number. -/
def bitOf (x i : Nat) : Bool := decide ((x >>> i) % 2 = 1)

/-- A flag as a number. -/
def flagNat (b : Bool) : Nat := if b then 1 else 0

/-- The value placed at bit `lo`, cut to `w` bits. -/
def fieldAt (v lo w : Nat) : Nat := (v % 2 ^ w) <<< lo

/-- A byte of a number. -/
def byteOf (x i : Nat) : Byte := BitVec.ofNat 8 (x >>> (8 * i))

/-- The `n` low bytes of a number, least significant first (R33, R140). -/
def leBytes (x : Nat) : Nat → List Byte
  | 0 => []
  | n + 1 => BitVec.ofNat 8 x :: leBytes (x >>> 8) n

/-- The number that a little-endian byte string spells. -/
def leNat : List Byte → Nat
  | [] => 0
  | b :: bs => b.toNat + 256 * leNat bs

/-- A number read as two's complement of `w` bits. -/
def signedOf (x w : Nat) : Int :=
  if x % 2 ^ w < 2 ^ (w - 1) then Int.ofNat (x % 2 ^ w) else Int.ofNat (x % 2 ^ w) - Int.ofNat (2 ^ w)

/-- The two's complement of `w` bits of an integer. -/
def twosOf (v : Int) (w : Nat) : Nat := (v % Int.ofNat (2 ^ w)).toNat

/-- A saturating increment of a count that holds at most `top`. -/
def satAdd (x n top : Nat) : Nat := min (x + n) top

/-- Number of units of `d` that hold `n`, rounded up. -/
def ceilDiv (n d : Nat) : Nat := (n + d - 1) / d

/-- `n` zero bytes. -/
def zeroBytes (n : Nat) : List Byte := List.replicate n 0

/-- One bit of a reflected cyclic code. -/
def crcBit (poly crc : Nat) : Nat := if crc % 2 = 1 then (crc >>> 1) ^^^ poly else crc >>> 1

/-- `n` bits of a reflected cyclic code. -/
def crcBits (poly : Nat) : Nat → Nat → Nat
  | 0, crc => crc
  | n + 1, crc => crcBits poly n (crcBit poly crc)

/-- A reflected cyclic code run over bytes in ascending order. -/
def crcRun (poly : Nat) : Nat → List Byte → Nat
  | crc, [] => crc
  | crc, b :: bs => crcRun poly (crcBits poly 8 (crc ^^^ b.toNat)) bs

/-- CRC-32C of R293. -/
def crc32c (bs : List Byte) : Nat := crcRun 0x82F63B78 0xFFFFFFFF bs ^^^ 0xFFFFFFFF

/-- CRC-64 of R293. -/
def crc64 (bs : List Byte) : Nat :=
  crcRun 0xC96C5795D7870F42 0xFFFFFFFFFFFFFFFF bs ^^^ 0xFFFFFFFFFFFFFFFF

/-- One bit of a code taken most significant bit first, in a register of `w` bits. -/
def crcBitMsb (w poly crc : Nat) : Nat :=
  if bitOf crc (w - 1) then ((crc <<< 1) ^^^ poly) % 2 ^ w else (crc <<< 1) % 2 ^ w

/-- `n` bits of a code taken most significant bit first. -/
def crcBitsMsb (w poly : Nat) : Nat → Nat → Nat
  | 0, crc => crc
  | n + 1, crc => crcBitsMsb w poly n (crcBitMsb w poly crc)

/-- A code taken most significant bit first over bytes in ascending order. -/
def crcRunMsb (w poly : Nat) : Nat → List Byte → Nat
  | crc, [] => crc
  | crc, b :: bs => crcRunMsb w poly (crcBitsMsb w poly 8 (crc ^^^ (b.toNat <<< (w - 8)))) bs

end Sys2Proof.Machine
end

