-- ==== Sys2Proof/Syntax.lean ====
section
/-! DEFINITION. The commands of the block and their operands.
The opcode table gives no operand bits, so the operands are this model's own (log entry 2):
register numbers, field values and packets as the named rules lay them out, and for an event the
physical facts the event reports. -/

namespace Sys2Proof

/-- Fields of WLOAD (R148). -/
structure WloadFields where
  ga : BitVec 5
  gb : BitVec 5
  fmt : BitVec 4
  kcount : BitVec 9
  ncount : BitVec 8
  deriving DecidableEq, Repr, Inhabited

/-- Fields of STREAM (R148). -/
structure StreamFields where
  ga : BitVec 5
  gb : BitVec 5
  fmt : BitVec 4
  half : Bool
  acc : Bool
  slot : BitVec 7
  count : BitVec 13
  deriving DecidableEq, Repr, Inhabited

/-- Fields of DRAIN (R148). -/
structure DrainFields where
  ga : BitVec 5
  slot : BitVec 7
  ofmt : BitVec 4
  round : Bool
  half : Bool
  sbon : Bool
  act : BitVec 3
  red : BitVec 2
  rows : BitVec 13
  cols : BitVec 8
  cont : Bool
  k : BitVec 5
  deriving DecidableEq, Repr, Inhabited

/-- Fields of VEC but for VOP, which the constructor names (R149). -/
structure VecFields where
  ga : BitVec 5
  sfmt : BitVec 4
  dfmt : BitVec 4
  round : Bool
  cf : Bool
  s2s : Bool
  count : BitVec 13
  word : BitVec 5
  cola : Bool
  cold : Bool
  deriving DecidableEq, Repr, Inhabited

/-- Fields of MOVE but for DIR, which the constructor names (R157). -/
structure MoveFields where
  ga : BitVec 5
  red : BitVec 2
  cola : Bool
  dcc : BitVec 12
  lcc : BitVec 12
  word : BitVec 5
  deriving DecidableEq, Repr, Inhabited

/-- Fields of MOVEC (R157). -/
structure MovecFields where
  ga : BitVec 5
  circ : BitVec 8
  red : BitVec 2
  cola : Bool
  dcc : BitVec 12
  lcc : BitVec 12
  word : BitVec 5
  deriving DecidableEq, Repr, Inhabited

/-- Fields of SEND (R161). -/
structure SendFields where
  gd : BitVec 5
  ga : BitVec 5
  gb : BitVec 5
  ny : Bool
  len : BitVec 11
  deriving DecidableEq, Repr, Inhabited

/-- Fields of RECV (R161). -/
structure RecvFields where
  gd : BitVec 5
  ga : BitVec 5
  gb : BitVec 5
  wait : Bool
  discard : Bool
  deriving DecidableEq, Repr, Inhabited

/-- A packet on the network: the header of R186, its payload, its trailer bytes (R296, R298), and
whether a flit of it carries a parity error (R299). -/
structure Packet where
  typ : BitVec 8
  fab : Bool
  circ : Bool
  last : Bool
  nack : Bool
  rgen : BitVec 4
  dport : BitVec 3
  dsite : BitVec 9
  ssite : BitVec 9
  fdest : BitVec 15
  fsrc : BitVec 15
  seq : BitVec 24
  ctx : BitVec 3
  part : BitVec 5
  dcc : BitVec 12
  len : BitVec 14
  scc : BitVec 12
  addr : BitVec 48
  aux : BitVec 32
  hcrc : BitVec 16
  payload : List Byte
  trailer : List Byte
  parityError : Bool
  ctrl : Bool
  rsvd : BitVec 240
  deriving DecidableEq, Repr, Inhabited

/-- A tide beacon as received (R279), times in 1/65,536 of a count. `fraction` is that of the receiver's own arrival time
t4, whose whole counts its tide count gives (R280). -/
structure BeaconData where
  tTx : Int
  echoTx : Int
  echoRx : Int
  fraction : Nat
  depth : Nat
  senderLocked : Bool
  senderRoot : Bool
  rootAddr : BitVec 15
  deriving DecidableEq, Repr, Inhabited

/-- A link flit as received (R256) with what the FEC decoder found (R255): for each codeword whose decoding ended with it,
the symbols corrected, none for an uncorrectable one; and whether any codeword that carries the flit was uncorrectable.
`upper` says which of the die's two routers it left by at the sending device, that of lanes 8 to 15 or of lanes 0 to 7
(R22, R267). -/
structure LinkFlit where
  data : List Byte
  tag : BitVec 16
  lseq : BitVec 16
  lcrc : BitVec 32
  upper : Bool
  codewords : List (Option Nat)
  uncorrectable : Bool
  deriving DecidableEq, Repr, Inhabited

/-- A link control flit (R256, R258): its flit tag, whether its LCRC is good, and its contents. Credits are given as
running totals modulo 2^16 since training (log entry 115): of the two link virtual channels, and of circuit entries by
index. -/
structure LinkControl where
  tag : BitVec 16
  lcrcOk : Bool
  ack : BitVec 16
  replay : Option (BitVec 16)
  credits : List (BitVec 16)
  sched : List (Nat × BitVec 16)
  deriving DecidableEq, Repr, Inhabited

/-- What a link's training found: the lanes passing in each of the five modes of R253, in table
order, and the one-way delay in units of 0.25 ns (R254). -/
structure TrainResult where
  passes : List Bool
  delay : BitVec 16
  deriving DecidableEq, Repr, Inhabited

/-- An in-service retraining (R260): whether it came from a loss of codeword lock, whether the retraining from step 2
succeeded, and otherwise the result of the retraining from step 1. -/
structure RetrainResult where
  lockLost : Bool
  quick : Bool
  full : TrainResult
  deriving DecidableEq, Repr, Inhabited

/-- Measurements of one region over a tide interval (R374, R376): the power of its VLOG and its VMEM in mW, and whether
the critical-path slack fell below its characterised value. -/
structure RegionMark where
  region : Nat
  vlogPower : Nat
  vmemPower : Nat
  slackLow : Bool
  deriving DecidableEq, Repr, Inhabited

/-- What the power block and the monitors measured over the interval that a tide mark ends
(R371, R376, R377, R385, R393, R394). Power in mW, voltage in mV, current in units of 0.1 A, energy in fJ: the static
energy of the device overhead, the measured rails and the conversion loss. -/
structure MarkData where
  regions : List RegionMark
  vin : Nat
  iin : Nat
  pin : Nat
  memIfPower : Nat
  linkPower : Nat
  drops : List (Nat × Nat)
  currents : List (Nat × Nat)
  stackTemps : List (Nat × Nat)
  overhead : Nat
  railEnergy : Nat
  lossEnergy : Nat
  deriving DecidableEq, Repr, Inhabited

/-- The three thresholds of R379. -/
inductive DroopLevel where
  | reservoir
  | half
  | full
  deriving DecidableEq, Repr, Inhabited

/-- The measured part of a telemetry record (R390): mean rail currents in mA, input voltage in mV and
input current in mA. -/
structure TelemetryData where
  currents : List Nat
  vin : Nat
  iin : Nat
  deriving DecidableEq, Repr, Inhabited

/-- A host-to-device transaction (R399). -/
structure HostTx where
  module : Nat
  addr : Nat
  part : BitVec 8
  ctx : BitVec 8
  tag : BitVec 16
  sideband : Bool
  deriving DecidableEq, Repr, Inhabited

/-- Header fields of a command packet after its opcode and length (R429). -/
structure CmdHdr where
  tag : BitVec 16
  flags : BitVec 8
  part : BitVec 8
  ctx : BitVec 8
  deriving DecidableEq, Repr, Inhabited

/-- The host bytes a command reads: still to come by a device read, failed, or read (R399). -/
inductive HostData where
  | later
  | failed
  | bytes (b : List Byte)
  deriving DecidableEq, Repr, Inhabited

/-- The grant block of R440. -/
structure GrantBlock where
  c0 : Nat
  c1 : Nat
  r0 : Nat
  r1 : Nat
  flags : Nat
  level : Nat
  firstBand : Nat
  bandCount : Nat
  runs : List (Nat × Nat)
  deriving DecidableEq, Repr, Inhabited

/-- Parameters of COPY_IN and COPY_OUT (R441). -/
structure CopyParams where
  host : Nat
  dev : Nat
  len : Nat
  encrypted : Bool
  nonce : List Byte
  tag : List Byte
  deriving DecidableEq, Repr, Inhabited

/-- The scopes of slack water (R208). -/
inductive Scope where
  | device
  | part (p : Nat)
  | ctx (p c : Nat)
  deriving DecidableEq, Repr, Inhabited

/-- Parameters of WRITE_ROUTES (R443). -/
structure RouteParams where
  self : BitVec 15
  root : BitVec 15
  sxM1 : Nat
  syM1 : Nat
  szM1 : Nat
  flags : Nat
  dirX : Word
  dirY : Word
  dirZ : Word
  deriving DecidableEq, Repr, Inhabited

/-- A circuit record of R421. -/
structure CircuitRec where
  site : Nat
  entry : Nat
  value : Word
  slots : Word
  deriving DecidableEq, Repr, Inhabited

/-- What a stress test finds (R318): the tested tiles that fail, with how often. -/
structure StressResult where
  fails : List (Nat × Nat)
  deriving DecidableEq, Repr, Inhabited

/-- What DARK found (R470, R455, R491): the vendor key hashes, the harbour master memory, and lid-mesh
segments out of range with their resistance in percent of nominal. -/
structure DarkResult where
  keysMatch : Bool
  memoryOk : Bool
  mesh : List (Nat × Nat)
  temps : List (Nat × Int)
  deriving DecidableEq, Repr, Inhabited

/-- What CLOCKS_NET found (R455). -/
structure ClocksNetResult where
  refOk : Bool
  meshOk : Bool
  oscFailed : List Nat
  deadRouters : List Nat
  deriving DecidableEq, Repr, Inhabited

/-- What MEMORIES found (R455): tiles whose SRAM repair is exhausted, regions whose supply does not
regulate, whether VLNK holds, stacks that fail training, and lanes repaired. -/
structure MemoriesResult where
  sramFailed : List Nat
  regionsDown : List Nat
  vlnkOk : Bool
  stacksFailed : List Nat
  repaired : List (Nat × Nat)
  deriving DecidableEq, Repr, Inhabited

/-- What COMPUTE found (R455): tiles with more than one faulty array column, tiles that fail the
self-test, and the regions' ageing offsets in units of 5 mV. -/
structure ComputeResult where
  columnsFailed : List Nat
  testFailed : List Nat
  ageing : List (Nat × Nat)
  deriving DecidableEq, Repr, Inhabited

/-- I3C common command codes the target accepts (R524); every other write is ignored. -/
inductive I3cCommand where
  | setDynamicAddress (a : BitVec 7)
  | resetDynamicAddress
  | enableInterrupts (on : Bool)
  | otherWrite
  deriving DecidableEq, Repr, Inhabited

/-- The board-side measurements of the management record (R525). -/
structure BoardData where
  vin : Nat
  iin : Nat
  pin : Nat
  inlet : Int
  outlet : Int
  seconds : Nat
  deriving DecidableEq, Repr, Inhabited

/-- One UCIe module's mainband training result (R397, R398). -/
structure ModuleTrain where
  ok : Bool
  speed : BitVec 2
  repaired : BitVec 8
  deriving DecidableEq, Repr, Inhabited

/-- Register operations of OP 0x01 (R143). -/
inductive AluOp where
  | add | sub | and_ | or_ | xor_ | sll | srl | sra | slt | sltu | mul | mulhu | divu | remu | min_ | max_
  deriving DecidableEq, Repr, Inhabited

/-- Immediate operations (R144). -/
inductive ImmOp where
  | addi | andi | ori | xori | slti | sltiu | slli | srli | srai
  deriving DecidableEq, Repr, Inhabited

/-- Loads (R145). -/
inductive LoadOp where
  | lb | lbu | lh | lhu | lw | lwu | ld
  deriving DecidableEq, Repr, Inhabited

/-- Stores (R145). -/
inductive StoreOp where
  | sb | sh | sw | sd
  deriving DecidableEq, Repr, Inhabited

/-- Branch conditions (R146). -/
inductive BranchOp where
  | beq | bne | blt | bge | bltu | bgeu
  deriving DecidableEq, Repr, Inhabited

/-- Vector operations (R151). -/
inductive VecOp where
  | movb | cvt | add | sub | mul | fma | max_ | min_ | abs | neg
  | exp2 | log2 | rsqrt | recip | exp | rsum | rmax | rmin | rsumsq
  deriving DecidableEq, Repr, Inhabited

/-- An instruction of a tile program, as the sequencer decodes it (R140 to R169). -/
inductive TInstr where
  | alu (op : AluOp) (gd ga gb : BitVec 5)
  | imm (op : ImmOp) (gd ga : BitVec 5) (v : BitVec 14)
  | li (gd : BitVec 5) (v : BitVec 32)
  | lih (gd : BitVec 5) (v : BitVec 32)
  | load (op : LoadOp) (gd ga : BitVec 5) (v : BitVec 14)
  | store (op : StoreOp) (ga gb : BitVec 5) (v : BitVec 14)
  | branch (op : BranchOp) (ga gb : BitVec 5) (off : BitVec 14)
  | jal (gd : BitVec 5) (off : BitVec 19)
  | jalr (gd ga : BitVec 5) (v : BitVec 14)
  | hret
  | wload (f : WloadFields)
  | stream (f : StreamFields)
  | drain (f : DrainFields)
  | vec (op : VecOp) (f : VecFields)
  | move (fetch : Bool) (f : MoveFields)
  | movec (f : MovecFields)
  | send (f : SendFields)
  | recv (f : RecvFields)
  | waitc (gd ga : BitVec 5) (cnt : BitVec 12) (consume : Bool)
  | tidewait (ga : BitVec 5) (mark : Bool)
  | fence
  | pilot (lead : BitVec 8) (cls : BitVec 3) (dur : BitVec 12)
  | step (tag : BitVec 16)
  | halt (code : BitVec 16)
  deriving DecidableEq, Repr, Inhabited

/-- The commands of the block, one constructor for each row of the opcode table (01 to 18 of spec/).
A tile instruction names the tile that issues it; a packet row names the site it acts at;
a host command carries its header and its parameters by name. -/
inductive Instr where
  /-- ADD (R143): Register operation writing ga + gb into gd. -/
  | add (t : Nat) (gd ga gb : BitVec 5)
  /-- SUB (R143): Register operation writing ga − gb into gd. -/
  | sub (t : Nat) (gd ga gb : BitVec 5)
  /-- AND (R143): Register operation writing the bitwise and of ga and gb into gd. -/
  | andR (t : Nat) (gd ga gb : BitVec 5)
  /-- OR (R143): Register operation writing the bitwise or of ga and gb into gd. -/
  | orR (t : Nat) (gd ga gb : BitVec 5)
  /-- XOR (R143): Register operation writing the exclusive or of ga and gb into gd. -/
  | xorR (t : Nat) (gd ga gb : BitVec 5)
  /-- SLL (R143): Shift ga left by gb[5:0] into gd. -/
  | sll (t : Nat) (gd ga gb : BitVec 5)
  /-- SRL (R143): Shift ga right, zero filled, by gb[5:0] into gd. -/
  | srl (t : Nat) (gd ga gb : BitVec 5)
  /-- SRA (R143): Shift ga right, sign filled, by gb[5:0] into gd. -/
  | sra (t : Nat) (gd ga gb : BitVec 5)
  /-- SLT (R143): Signed compare of ga and gb, writing 1 or 0 into gd. -/
  | slt (t : Nat) (gd ga gb : BitVec 5)
  /-- SLTU (R143): Unsigned compare of ga and gb, writing 1 or 0 into gd. -/
  | sltu (t : Nat) (gd ga gb : BitVec 5)
  /-- MUL (R143): Writes the low 64 bits of ga × gb into gd. -/
  | mul (t : Nat) (gd ga gb : BitVec 5)
  /-- MULHU (R143): Writes the high 64 bits of the unsigned product into gd. -/
  | mulhu (t : Nat) (gd ga gb : BitVec 5)
  /-- DIVU (R143): Unsigned division over 34 cycles; all ones when gb is zero. -/
  | divu (t : Nat) (gd ga gb : BitVec 5)
  /-- REMU (R143): Unsigned remainder over 34 cycles; ga when gb is zero. -/
  | remu (t : Nat) (gd ga gb : BitVec 5)
  /-- MIN (R143): Writes the signed minimum of ga and gb into gd. -/
  | minS (t : Nat) (gd ga gb : BitVec 5)
  /-- MAX (R143): Writes the signed maximum of ga and gb into gd. -/
  | maxS (t : Nat) (gd ga gb : BitVec 5)
  /-- ADDI (R144): Adds a sign-extended IMM14 to ga. -/
  | addi (t : Nat) (gd ga : BitVec 5) (imm : BitVec 14)
  /-- ANDI (R144): Ands ga with a sign-extended IMM14. -/
  | andi (t : Nat) (gd ga : BitVec 5) (imm : BitVec 14)
  /-- ORI (R144): Ors ga with a sign-extended IMM14. -/
  | ori (t : Nat) (gd ga : BitVec 5) (imm : BitVec 14)
  /-- XORI (R144): Exclusive-ors ga with a sign-extended IMM14. -/
  | xori (t : Nat) (gd ga : BitVec 5) (imm : BitVec 14)
  /-- SLTI (R144): Signed compare of ga with IMM14. -/
  | slti (t : Nat) (gd ga : BitVec 5) (imm : BitVec 14)
  /-- SLTIU (R144): Unsigned compare of ga with IMM14. -/
  | sltiu (t : Nat) (gd ga : BitVec 5) (imm : BitVec 14)
  /-- SLLI (R144): Shift left by IMM14[5:0]. -/
  | slli (t : Nat) (gd ga : BitVec 5) (imm : BitVec 14)
  /-- SRLI (R144): Logical shift right by IMM14[5:0]. -/
  | srli (t : Nat) (gd ga : BitVec 5) (imm : BitVec 14)
  /-- SRAI (R144): Arithmetic shift right by IMM14[5:0]. -/
  | srai (t : Nat) (gd ga : BitVec 5) (imm : BitVec 14)
  /-- LI (R144): Writes IMM32, sign-extended, into gd. -/
  | li (t : Nat) (gd : BitVec 5) (imm : BitVec 32)
  /-- LIH (R144): Writes IMM32 into gd[63:32] and keeps gd[31:0]. -/
  | lih (t : Nat) (gd : BitVec 5) (imm : BitVec 32)
  /-- LB (R145): Sign-extending byte load from scratchpad. -/
  | lb (t : Nat) (gd ga : BitVec 5) (imm : BitVec 14)
  /-- LBU (R145): Zero-extending byte load from scratchpad. -/
  | lbu (t : Nat) (gd ga : BitVec 5) (imm : BitVec 14)
  /-- LH (R145): Sign-extending halfword load. -/
  | lh (t : Nat) (gd ga : BitVec 5) (imm : BitVec 14)
  /-- LHU (R145): Zero-extending halfword load. -/
  | lhu (t : Nat) (gd ga : BitVec 5) (imm : BitVec 14)
  /-- LW (R145): Sign-extending word load. -/
  | lw (t : Nat) (gd ga : BitVec 5) (imm : BitVec 14)
  /-- LWU (R145): Zero-extending word load. -/
  | lwu (t : Nat) (gd ga : BitVec 5) (imm : BitVec 14)
  /-- LD (R145): Doubleword load from scratchpad or tile registers. -/
  | ld (t : Nat) (gd ga : BitVec 5) (imm : BitVec 14)
  /-- SB (R145): Byte store, pending until its narrow access is granted. -/
  | sb (t : Nat) (ga gb : BitVec 5) (imm : BitVec 14)
  /-- SH (R145): Halfword store. -/
  | sh (t : Nat) (ga gb : BitVec 5) (imm : BitVec 14)
  /-- SW (R145): Word store. -/
  | sw (t : Nat) (ga gb : BitVec 5) (imm : BitVec 14)
  /-- SD (R145): Doubleword store to scratchpad or tile registers. -/
  | sd (t : Nat) (ga gb : BitVec 5) (imm : BitVec 14)
  /-- PENDING_STORE_WRITE (R116): A pending sequencer store is written when its narrow access is granted. -/
  | pendingStoreWrite (t : Nat)
  /-- BEQ (R146): Branch when ga equals gb. -/
  | beq (t : Nat) (ga gb : BitVec 5) (off : BitVec 14)
  /-- BNE (R146): Branch when ga differs from gb. -/
  | bne (t : Nat) (ga gb : BitVec 5) (off : BitVec 14)
  /-- BLT (R146): Branch when ga < gb signed. -/
  | blt (t : Nat) (ga gb : BitVec 5) (off : BitVec 14)
  /-- BGE (R146): Branch when ga ≥ gb signed. -/
  | bge (t : Nat) (ga gb : BitVec 5) (off : BitVec 14)
  /-- BLTU (R146): Branch when ga < gb unsigned. -/
  | bltu (t : Nat) (ga gb : BitVec 5) (off : BitVec 14)
  /-- BGEU (R146): Branch when ga ≥ gb unsigned. -/
  | bgeu (t : Nat) (ga gb : BitVec 5) (off : BitVec 14)
  /-- JAL (R146): Writes pc + 4 to gd and jumps by OFF19. -/
  | jal (t : Nat) (gd : BitVec 5) (off : BitVec 19)
  /-- JALR (R146): Writes pc + 4 to gd and jumps to ga + IMM14. -/
  | jalr (t : Nat) (gd ga : BitVec 5) (imm : BitVec 14)
  /-- HRET (R172): Releases the head message if not taken, leaves handler mode and resumes at TS_HANDLER_PC. -/
  | hret (t : Nat)
  /-- WLOAD (R73): Loads a stationary operand into the array, with the checksum column at levels 1 to 3. -/
  | wload (t : Nat) (f : WloadFields)
  /-- STREAM (R79): Streams rows through the loaded operand into accumulator slots in INIT or ACC mode. -/
  | stream (t : Nat) (f : StreamFields)
  /-- STREAM_ROW_WRITE (R75): A streamed row's pass sums are written to its slot row after the array latency. -/
  | streamRowWrite (t : Nat)
  /-- DRAIN (R85): Converts slot rows through scale, bias, activation, reduction and format conversion into scratchpad rows. -/
  | drain (t : Nat) (f : DrainFields)
  /-- DRAIN_ROW_OUTPUT (R89): The drain unit writes an output row or reduction record some cycles after reading a slot row. -/
  | drainRowOutput (t : Nat)
  /-- VEC_MOVB (R154): Copies 256-byte accesses by rows or column walks. -/
  | vecMovb (t : Nat) (f : VecFields)
  /-- VEC_CVT (R151): Converts s1 into the destination format. -/
  | vecCvt (t : Nat) (f : VecFields)
  /-- VEC_ADD (R151): Elementwise s1 + s2. -/
  | vecAdd (t : Nat) (f : VecFields)
  /-- VEC_SUB (R151): Elementwise s1 − s2. -/
  | vecSub (t : Nat) (f : VecFields)
  /-- VEC_MUL (R151): Elementwise s1 × s2. -/
  | vecMul (t : Nat) (f : VecFields)
  /-- VEC_FMA (R151): Elementwise fused multiply-add into the destination. -/
  | vecFma (t : Nat) (f : VecFields)
  /-- VEC_MAX (R151): Elementwise maximum. -/
  | vecMax (t : Nat) (f : VecFields)
  /-- VEC_MIN (R151): Elementwise minimum. -/
  | vecMin (t : Nat) (f : VecFields)
  /-- VEC_ABS (R151): Elementwise absolute value. -/
  | vecAbs (t : Nat) (f : VecFields)
  /-- VEC_NEG (R151): Elementwise negation. -/
  | vecNeg (t : Nat) (f : VecFields)
  /-- VEC_EXP2 (R152): Elementwise base-2 exponential. -/
  | vecExp2 (t : Nat) (f : VecFields)
  /-- VEC_LOG2 (R152): Elementwise base-2 logarithm. -/
  | vecLog2 (t : Nat) (f : VecFields)
  /-- VEC_RSQRT (R152): Elementwise reciprocal square root. -/
  | vecRsqrt (t : Nat) (f : VecFields)
  /-- VEC_RECIP (R152): Elementwise reciprocal. -/
  | vecRecip (t : Nat) (f : VecFields)
  /-- VEC_EXP (R151): Elementwise natural exponential via EXP2. -/
  | vecExp (t : Nat) (f : VecFields)
  /-- VEC_RSUM (R153): Reduces all elements to their sum by lanes and a pairwise tree. -/
  | vecRsum (t : Nat) (f : VecFields)
  /-- VEC_RMAX (R153): Reduces all elements to their maximum. -/
  | vecRmax (t : Nat) (f : VecFields)
  /-- VEC_RMIN (R153): Reduces all elements to their minimum. -/
  | vecRmin (t : Nat) (f : VecFields)
  /-- VEC_RSUMSQ (R153): Reduces all elements to their sum of squares. -/
  | vecRsumsq (t : Nat) (f : VecFields)
  /-- MOVE_PUSH (R159): Pushes local rows to a tile, HBM or another device, optionally with reduce-on-receive. -/
  | movePush (t : Nat) (f : MoveFields)
  /-- MOVE_FETCH (R159): Fetches remote rows into the local scratchpad by READ packets. -/
  | moveFetch (t : Nat) (f : MoveFields)
  /-- MOVEC (R206): Injects rows into a circuit entry for delivery at every destination. -/
  | movec (t : Nat) (f : MovecFields)
  /-- SEND (R223): Sends a message on a channel through the checks, credit wait and injection of the channel engine. -/
  | send (t : Nat) (f : SendFields)
  /-- SEND_OUTCOME (R162): The channel engine reports the SEND outcome into gd after the last flit leaves. -/
  | sendOutcome (t : Nat)
  /-- PARKED_SEND_ACCEPT (R229): A parked yielding SEND is accepted in the first cycle its stream holds the credits. -/
  | parkedSendAccept (t : Nat)
  /-- FULL_TIMEOUT (R227): The send timer reaches TIMEOUT before acceptance and the SEND ends FULL_TIMEOUT. -/
  | fullTimeout (t : Nat)
  /-- RECV (R163): Takes, copies or discards the head message of a queue, or completes empty. -/
  | recv (t : Nat) (f : RecvFields)
  /-- RECV_WAIT_END (R163): A waiting RECV takes the message that reaches the head of its queue. -/
  | recvWaitEnd (t : Nat)
  /-- WAITC (R164): Waits on a completion counter reaching an expected value. -/
  | waitc (t : Nat) (gd ga : BitVec 5) (cnt : BitVec 12) (consume : Bool)
  /-- WAITC_COMPLETE (R164): COUNT + FAILED reaches the expected value; FAILED is returned and optionally consumed. -/
  | waitcComplete (t : Nat)
  /-- TIDEWAIT (R165): Waits for a tide count or the next tide mark. -/
  | tidewait (t : Nat) (ga : BitVec 5) (mark : Bool)
  /-- TIDEWAIT_COMPLETE (R165): The tile first sees the completing tide count and the next instruction issues. -/
  | tidewaitComplete (t : Nat)
  /-- FENCE (R166): Waits until every earlier instruction has completed and stores are written. -/
  | fence (t : Nat)
  /-- FENCE_COMPLETE (R166): All earlier work is complete and the FENCE ends. -/
  | fenceComplete (t : Nat)
  /-- PILOT (R167): Declares a heavy phase and sends a PILOT control packet. -/
  | pilot (t : Nat) (lead : BitVec 8) (cls : BitVec 3) (dur : BitVec 12)
  /-- STEP (R168): Waits as FENCE does and until every check is decided. -/
  | step (t : Nat) (tag : BitVec 16)
  /-- STEP_COMMIT (R168): Commits the step: empties the read set, writes TS_STEP_TAG and records the replay point. -/
  | stepCommit (t : Nat)
  /-- HALT (R169): Waits as FENCE does and then stops the sequencer. -/
  | halt (t : Nat) (code : BitVec 16)
  /-- HALT_STOP (R169): The sequencer stops and reports CODE to the harbour master. -/
  | haltStop (t : Nat)
  /-- ISSUE_AFTER_HOLD (R131): An instruction held at issue issues once its registers, ranges, queue space and waits allow. -/
  | issueAfterHold (t : Nat)
  /-- HANDLER_DISPATCH (R171): A dispatch request is accepted at a dispatch point and the handler starts. -/
  | handlerDispatch (t : Nat)
  /-- REPLAY (R315): After issued work completes, the replay point is restored and the open step runs again. -/
  | replay (t : Nat)
  /-- CHECK_COPY (R306): A selected STREAM's check copy is pushed to the check partner once its area is free. -/
  | checkCopy (t : Nat)
  /-- CHECK_PASS (R307): The partner runs the recomputation pass when its check copy is complete. -/
  | checkPass (t : Nat)
  /-- ROUTER_PACKET_ARRIVAL (R190): A packet's first flit reaches a router, is header-checked and routed. -/
  | routerPacketArrival (site : Nat) (inPort : Nat) (p : Packet)
  /-- CIRCUIT_FLIT (R204): A circuit flit is ready at a router and leaves in its next owned slot. -/
  | circuitFlit (site : Nat) (n : Nat)
  /-- WRITE (R297): A WRITE packet is staged, checked and written at the destination tile. -/
  | write (site : Nat) (p : Packet)
  /-- WRITE_ADD32 (R310): A binary32 reduce-on-receive packet is added and its tally checked. -/
  | writeAdd32 (site : Nat) (p : Packet)
  /-- WRITE_ADD16 (R310): A bfloat16 reduce-on-receive packet is added and its tally checked. -/
  | writeAdd16 (site : Nat) (p : Packet)
  /-- READ (R194): A READ packet at a tile or memory is answered by READ_DATA. -/
  | read (site : Nat) (p : Packet)
  /-- READ_DATA (R194): Fetched rows arrive and increment the requester's counter. -/
  | readData (site : Nat) (p : Packet)
  /-- ACK (R194): An acknowledgement adds rows to COUNT or FAILED of the source counter. -/
  | ack (site : Nat) (p : Packet)
  /-- ACK_TIMEOUT (R195): An outstanding free packet unanswered after 2^ACK_TIMEOUT cycles is finished as failed. -/
  | ackTimeout (t : Nat)
  /-- MESSAGE (R230): A MESSAGE packet reaches the channel engine and is checked, ordered and written to its queue. -/
  | message (site : Nat) (p : Packet)
  /-- GAP_SKIPPED (R232): A held message waits 2^ACK_TIMEOUT cycles and the gap is given up. -/
  | gapSkipped (t : Nat) (chan : Nat) (sender : Nat)
  /-- CREDIT (R236): A CREDIT packet returns slots to a stream or reports a refusal. -/
  | credit (site : Nat) (p : Packet)
  /-- LOST (R237): A stream's oldest unanswered message times out and its slots are reclaimed. -/
  | lost (t : Nat) (chan : Nat)
  /-- CHANNEL_ENTRY_READ (R243): A channel-cache miss read of an entry from HBM completes or ends FAULTED. -/
  | channelEntryRead (t : Nat) (chan : Nat)
  /-- HOST (R401): A HOST packet reaches a tile window or HBM and is served or refused. -/
  | host (site : Nat) (p : Packet)
  /-- MGMT (R401): An MGMT packet reads or writes a router register. -/
  | mgmt (site : Nat) (p : Packet)
  /-- STOP (R209): A STOP control packet makes a tile's engines stop injecting at the next packet boundary. -/
  | stop (t : Nat)
  /-- RESUME_PACKET (R209): A RESUME control packet lets injection continue. -/
  | resumePacket (t : Nat)
  /-- PILOT_PACKET (R382): The power block receives a pilot hint and merges it into its heavy phases. -/
  | pilotPacket (p : Packet)
  /-- BEACON (R280): A tide beacon arrives; delay and offset are computed and the tide count steered or set. -/
  | beacon (link : Nat) (b : BeaconData)
  /-- LINK_FLIT (R259): A link flit is received, checked and delivered, or discarded with a replay request. -/
  | linkFlit (link : Nat) (f : LinkFlit)
  /-- LINK_CONTROL_FLIT (R258): A link control flit delivers acknowledgements, replay requests and credits. -/
  | linkControlFlit (link : Nat) (c : LinkControl)
  /-- LINK_TRAINING (R254): A fitted link trains through its steps and chooses a mode or becomes FAILED. -/
  | linkTraining (link : Nat) (r : TrainResult)
  /-- LINK_RETRAIN (R260): A link retrains in service after repeated failed replays or lost codeword lock. -/
  | linkRetrain (link : Nat) (r : RetrainResult)
  /-- PEER_ADDRESS_EXCHANGE (R262): A link learns its peer's fabric address and may become MISWIRED. -/
  | peerAddressExchange (link : Nat) (peer : BitVec 15)
  /-- TIDE_LOST (R283): Four successive parent beacons are missed and the device holds its correction. -/
  | tideLost
  /-- STEP_COLLECTOR_RECORD (R288): When every tile has reported a STEP_SEQ the collector forms and exports the device record. -/
  | stepCollectorRecord (stepSeq : Nat)
  /-- STEP_COLLECTOR_TIMEOUT (R288): The collector forms an INCOMPLETE record after its timeout. -/
  | stepCollectorTimeout (stepSeq : Nat)
  /-- RECORD_EXPORT_TIMEOUT (R289): An exported record not acknowledged in time is counted LOST. -/
  | recordExportTimeout (port : Nat)
  /-- HBM_WRITE (R332): The controller checks and writes a packet, updating the check shelf. -/
  | hbmWrite (site : Nat) (p : Packet)
  /-- HBM_READ (R335): The controller reads, corrects and forms READ_DATA from a block. -/
  | hbmRead (site : Nat) (p : Packet)
  /-- PATROL_SCRUB (R337): Patrol scrub reads and corrects a transfer of a granted band. -/
  | patrolScrub (stack : Nat) (transfer : Nat)
  /-- TIDE_MARK (R357): At every 4,096 tide counts regions restart frames, latch slip and the harbour master evaluates the die frequency. -/
  | tideMark (m : MarkData)
  /-- RISE_CANCELLED (R362): At T − 400 a rise whose VLOG has not reached its setting is cancelled. -/
  | riseCancelled (late : List Nat)
  /-- QUIESCENT_START (R363): At tide count T every region gates its tile and router clocks for retuning. -/
  | quiescentStart
  /-- REFCLK_LOST (R351): Loss of the root reference is device-fatal and the device enters HALTED. -/
  | refclkLost
  /-- OSC_FAILED (R350): A region oscillator fails and the region takes its clock from the coupling network. -/
  | oscFailed (region : Nat)
  /-- DROOP_DETECTOR_TRIP (R379): A droop detector crossing fires reservoirs or stretches periods. -/
  | droopDetectorTrip (region : Nat) (level : DroopLevel)
  /-- SENSOR_READING (R387): Every 1,024 tide counts the temperature sensors are read and thermal controls act. -/
  | sensorReading (temps : List (Nat × Int))
  /-- VLOG_SWITCH_OFF (R388): A region at 110 °C pauses its partition and, after issued work completes, its VLOG goes off. -/
  | vlogSwitchOff (region : Nat)
  /-- RAIL_SHORT (R385): A VLOG or VMEM short turns the rail off and is partition-fatal. -/
  | railShort (rail : Nat)
  /-- PHASE_FAILED (R385): A regulator phase is disabled and the rail limit falls. -/
  | phaseFailed (rail : Nat) (phase : Nat)
  /-- VHIO_FAULT (R385): A VHIO rail fails and every stack of its edge group leaves service. -/
  | vhioFault (edge : Nat)
  /-- SUPPLY_FATAL (R385): A VLNK fault or input collapse switches all rails off. -/
  | supplyFatal (unit : Nat)
  /-- INPUT_DIP (R515): The 50 V input dips; the cap is lowered or the dip is ridden through. -/
  | inputDip (mV : Nat) (ns : Nat)
  /-- TELEMETRY_WINDOW (R390): Every 100,000 tide counts a telemetry record is written to the host ring or dropped. -/
  | telemetryWindow (w : TelemetryData)
  /-- MODEL_DRIFT (R394): Every second the modelled energy is compared with the measured rails. -/
  | modelDrift (measured : Nat)
  /-- QUANTUM_EXPIRY (R414): The running context's quantum expires and a switch begins when another is READY. -/
  | quantumExpiry (p : Nat)
  /-- CONTEXT_SWITCH (R415): A switch stops issue, drains the partition and saves and restores contexts. -/
  | contextSwitch (p : Nat)
  /-- CONTEXT_SWITCHED (R415): The incoming context resumes and a CONTEXT_SWITCHED event is written. -/
  | contextSwitched (p : Nat)
  /-- HARBOUR_MASTER_WATCHDOG (R506): The sideband timer runs 10 ms without restart and the device halts silently. -/
  | harbourMasterWatchdog
  /-- COMMAND_WRITE (R402): A command packet written to the command window enters intake or completes BUSY. -/
  | commandWrite (module : Nat) (sideband : Bool) (bytes : List Byte)
  /-- INTAKE_TAKE (R403): The harbour master takes a packet from intake, checks it and answers. -/
  | intakeTake
  /-- RECORD_WRITE (R405): A waiting reply or event record is written when the ring has room. -/
  | recordWrite
  /-- MESSAGE_INTERRUPT (R406): A message interrupt is sent after the moderation interval. -/
  | messageInterrupt
  /-- HOST_WRITE (R400): A host write transaction to device space is applied or dropped. -/
  | hostWrite (x : HostTx) (data : List Byte)
  /-- HOST_READ (R400): A host read transaction returns data and a status. -/
  | hostRead (x : HostTx) (len : Nat)
  /-- HOST_TRANSACTION_TIMEOUT (R400): A host transaction without answer completes TIMEOUT. -/
  | hostTransactionTimeout (tag : Nat)
  /-- DEVICE_READ_COMPLETION (R399): A device read of host memory completes for an image fetch or COPY_IN. -/
  | deviceReadCompletion (addr : Nat) (ok : Bool) (data : List Byte)
  /-- UCIE_MODULE_LOST (R398): A module fails retraining and leaves service. -/
  | ucieModuleLost (m : Nat)
  /-- UCI_BOOT_PTR_WRITE (R451): A write of the boot pointer in IDENT or HALTED starts LOADING or is refused. -/
  | uciBootPtrWrite (v : Word)
  /-- UCI_RING_BASE_WRITE (R427): A write of the ring base enables the ring and resets PRODUCER and PHASE. -/
  | uciRingBaseWrite (v : Word)
  /-- UCI_RING_PTR_WRITE (R404): The host advances CONSUMER past records read. -/
  | uciRingPtrWrite (v : Word)
  /-- PWR_TELEM_PTR_WRITE (R390): The host advances the telemetry CONSUMER. -/
  | pwrTelemPtrWrite (v : Word)
  /-- PWR_VMIN_READ (R391): A read returns the rail's minimum and rearms the latch. -/
  | pwrVminRead (i : Nat)
  /-- TS_COMPLETION_WRITE (R176): A write to a completion counter takes effect before a same-cycle increment. -/
  | tsCompletionWrite (t : Nat) (n : Nat) (v : Word)
  /-- REGISTER_WRITE (R510): A write to any other register field by its class, with W1C clears and range checks. -/
  | registerWrite (addr : Nat) (v : Word)
  /-- IDENTIFY (R438): Returns identity, firmware version and device hash. -/
  | identify (h : CmdHdr)
  /-- STATUS (R438): Returns phase, bin, tile count and flags. -/
  | status (h : CmdHdr)
  /-- READ_FLOORPLAN (R438): Writes the 480 site records to a host buffer. -/
  | readFloorplan (h : CmdHdr) (buf : Nat) (len : Nat)
  /-- READ_FAULTLOG (R438): Writes fault-log entries to a host buffer. -/
  | readFaultlog (h : CmdHdr) (buf : Nat) (len : Nat) (first count : Nat)
  /-- ECHO (R438): Returns its parameter bytes unchanged. -/
  | echo (h : CmdHdr) (bytes : List Byte)
  /-- SET_CONFIG (R439): Sets configuration items, all or none. -/
  | setConfig (h : CmdHdr) (items : List (Nat × Nat))
  /-- GET_CONFIG (R439): Returns configuration item values. -/
  | getConfig (h : CmdHdr) (codes : List Nat)
  /-- INSTALL_LICENCE (R464): Reads, verifies and installs a licence. -/
  | installLicence (h : CmdHdr) (addr len : Nat) (d : HostData)
  /-- LIST_LICENCES (R439): Returns the licences held and levels applied. -/
  | listLicences (h : CmdHdr)
  /-- CREATE_PARTITION (R411): Creates a partition of regions with its grant, check level and keys. -/
  | createPartition (h : CmdHdr) (g : GrantBlock)
  /-- DESTROY_PARTITION (R426): Resets and destroys a partition, zeroing its grant and keys. -/
  | destroyPartition (h : CmdHdr)
  /-- RESET_PARTITION (R425): Ends contexts, drains and resets every tile of a partition. -/
  | resetPartition (h : CmdHdr)
  /-- CREATE_CONTEXT (R412): Creates a context with a tenant identifier. -/
  | createContext (h : CmdHdr) (tenant : Word)
  /-- DESTROY_CONTEXT (R426): Clears a context's circuits and moored areas. -/
  | destroyContext (h : CmdHdr)
  /-- SWITCH_CONTEXT (R413): Switches a named READY context onto the tiles. -/
  | switchContext (h : CmdHdr)
  /-- SET_QUANTUM (R414): Sets the partition's quantum. -/
  | setQuantum (h : CmdHdr) (ms : Nat)
  /-- COPY_IN (R441): Copies host data into HBM or a tile scratchpad, optionally encrypted. -/
  | copyIn (h : CmdHdr) (c : CopyParams)
  /-- COPY_OUT (R441): Copies device data to host memory, optionally encrypted. -/
  | copyOut (h : CmdHdr) (c : CopyParams)
  /-- FILL (R441): Fills a target range with a repeated pattern. -/
  | fill (h : CmdHdr) (dev len : Nat) (pattern : Word)
  /-- SET_INTERLEAVE (R326): Changes a partition's grant and mapping mode, zeroing it. -/
  | setInterleave (h : CmdHdr) (g : GrantBlock)
  /-- SALVAGE (R441): Copies a shorted region's scratchpad and context records to HBM. -/
  | salvage (h : CmdHdr) (region : Nat) (dev : Nat)
  /-- ZEROING_COMPLETE (R327): Band zeroing ends and the command that started it completes. -/
  | zeroingComplete (p : Nat)
  /-- LAUNCH (R422): Checks and loads a stowage plan into a context. -/
  | launch (h : CmdHdr) (plan : Nat) (arg : Word) (start : Word)
  /-- LAUNCH_START (R423): Loading ends and the context becomes RUNNING or READY, issuing at START. -/
  | launchStart (p : Nat) (c : Nat)
  /-- LAUNCH_COMPLETION (R424): Every tile has halted or the context ended, and the COMPLETION is written. -/
  | launchCompletion (p : Nat) (c : Nat)
  /-- PAUSE (R442): Pauses a context at the next dispatch point. -/
  | pause (h : CmdHdr)
  /-- RESUME (R442): Resumes a paused context. -/
  | resume (h : CmdHdr)
  /-- ABORT (R442): Ends a context with ending ABORTED. -/
  | abort (h : CmdHdr)
  /-- SET_CHANNEL_TABLE (R214): Installs or removes the partition's channel table. -/
  | setChannelTable (h : CmdHdr) (base count : Nat)
  /-- INVALIDATE_CHANNELS (R244): Checks and applies changed channel entries on every tile. -/
  | invalidateChannels (h : CmdHdr) (first count : Nat)
  /-- DRAIN_COMMAND (R209): Begins the slack-water procedure for a scope. -/
  | drainCommand (h : CmdHdr) (scope : Nat) (ms : Nat)
  /-- SLACK_WATER (R209): The scope drains and the DRAIN completes OK. -/
  | slackWater (k : Scope)
  /-- DRAIN_TIMEOUT (R210): A DRAIN fails to reach slack water within its timeout. -/
  | drainTimeout (k : Scope)
  /-- RELEASE (R209): Ends slack water, sends RESUME and applies a new route generation. -/
  | release (h : CmdHdr) (scope : Nat)
  /-- WRITE_ROUTES (R263): Writes fabric address, ring sizes, tide root and direction tables. -/
  | writeRoutes (h : CmdHdr) (r : RouteParams)
  /-- WRITE_CIRCUITS (R207): Writes circuit entries under slack water, all or none. -/
  | writeCircuits (h : CmdHdr) (recs : List CircuitRec)
  /-- FABRIC_STATUS (R443): Returns fabric, tide and link registers. -/
  | fabricStatus (h : CmdHdr)
  /-- SET_PAIR (R286): Enables redundant-pair mode and sets the side and export bases. -/
  | setPair (h : CmdHdr) (flags : Nat) (baseA baseB : Nat)
  /-- SET_CAP (R375): Sets the host power cap. -/
  | setCap (h : CmdHdr) (watts : Nat)
  /-- SET_OPPOINT (R380): Sets the frequency ceiling and hinted mode. -/
  | setOppoint (h : CmdHdr) (bin : Nat) (hinted : Nat)
  /-- PILOT_COMMAND (R381): Declares a heavy phase for a partition from the host. -/
  | pilotCommand (h : CmdHdr) (lead cls dur : Nat)
  /-- SET_TELEMETRY (R390): Sets the telemetry streaming mode and ring. -/
  | setTelemetry (h : CmdHdr) (mode ring records interval : Nat)
  /-- READ_ENERGY (R394): Returns device and per-context energy. -/
  | readEnergy (h : CmdHdr) (mask : BitVec 160)
  /-- SET_CHECK_LEVEL (R302): Sets the partition's check level for later launches. -/
  | setCheckLevel (h : CmdHdr) (level : Nat)
  /-- RUN_STRESS_TEST (R318): Runs the heated, overclocked self-test of named regions. -/
  | runStressTest (h : CmdHdr) (mask : Nat) (target : Nat) (r : StressResult)
  /-- READ_TALLY_LOG (R311): Returns a tile's tally log entries. -/
  | readTallyLog (h : CmdHdr) (site : Nat)
  /-- ATTEST (R475): Forms and signs an attestation report into a host buffer. -/
  | attest (h : CmdHdr) (nonce : List Byte) (buf len : Nat)
  /-- LOAD_KEY (R478): Unwraps a key envelope and installs the HBM or transfer key. -/
  | loadKey (h : CmdHdr) (kind : Nat) (addr len : Nat) (d : HostData)
  /-- ERASE_KEYS (R446): Destroys HBM and transfer keys of named partitions. -/
  | eraseKeys (h : CmdHdr)
  /-- SET_ALARM_POLICY (R485): Sets an alarm source's response at or above its floor. -/
  | setAlarmPolicy (h : CmdHdr) (source response : Nat)
  /-- READ_ALARMS (R490): Returns every alarm record and releases ALARM_N after NOTE or HALT. -/
  | readAlarms (h : CmdHdr)
  /-- SET_DEBUG_MODE (R447): Turns debug mode on or off for a context. -/
  | setDebugMode (h : CmdHdr) (mode : Nat)
  /-- PEEK_QUEUE (R447): Returns a queue's registers and, in debug mode, its head bytes. -/
  | peekQueue (h : CmdHdr) (site queue buf : Nat)
  /-- READ_ACCUMULATOR (R447): Copies accumulator slots to a host buffer in debug mode. -/
  | readAccumulator (h : CmdHdr) (site first count buf len : Nat)
  /-- TRACE (R447): Starts or stops trace recording for a context. -/
  | trace (h : CmdHdr) (mode kinds buf len : Nat)
  /-- RETIRE_TILE (R461): Retires a tile and ends the contexts using it. -/
  | retireTile (h : CmdHdr) (site : Nat)
  /-- SET_SERVICE_FMAX (R447): Lowers a tile's service maximum bin. -/
  | setServiceFmax (h : CmdHdr) (site bin : Nat)
  /-- ROUTER_FAILED (R504): A router fails in service; its tile is retired and partitions fault. -/
  | routerFailed (site : Nat)
  /-- FAULT_HANDLING (R500): The firmware takes the highest-severity waiting entry and performs its action. -/
  | faultHandling
  /-- LID_MESH (R485): A lid-mesh segment leaves its window and the alarm response applies. -/
  | lidMesh (segment : Nat) (percent : Nat)
  /-- VOLTAGE_GLITCH (R485): A rail glitch triggers the alarm response. -/
  | voltageGlitch (rail : Nat) (mV : Nat)
  /-- CLOCK_GLITCH (R485): A clock period out of range triggers the alarm response. -/
  | clockGlitch (which : Nat) (ps : Nat)
  /-- TEMPERATURE (R485): An Isaid sensor out of range triggers the alarm response. -/
  | temperature (sensor : Nat) (celsius : Int)
  /-- DEBUG_PORT (R485): Activity on the test access port triggers the alarm response. -/
  | debugPort
  /-- INPUT_APPLIED (R520): The 50 V input reaches 45 V and the module power controller starts. -/
  | inputApplied
  /-- INPUT_REMOVED (R521): The input is removed and rails go off in order. -/
  | inputRemoved
  /-- RESET_N_ASSERT (R519): RESET_N held low turns off die rails and resets the die. -/
  | resetNAssert (ns : Nat)
  /-- RESET_N_RELEASE (R519): RESET_N release sequences rails up and begins DARK. -/
  | resetNRelease
  /-- DARK_COMPLETE (R449): Rails, fuses and ROM test finish and the sideband comes up in IDENT. -/
  | darkComplete (d : DarkResult)
  /-- IMAGE_FETCH_COMPLETE (R453): The fetched image is checked and identity derived, or the device halts. -/
  | imageFetchComplete
  /-- CLOCKS_NET_COMPLETE (R455): Mesh lock and router tests end and bypasses are set. -/
  | clocksNetComplete (d : ClocksNetResult)
  /-- MEMORIES_COMPLETE (R455): SRAM repair, HBM training and band zeroing end. -/
  | memoriesComplete (d : MemoriesResult)
  /-- LINKS_COMPLETE (R455): Every fitted link has trained or failed. -/
  | linksComplete
  /-- COMPUTE_COMPLETE (R457): Tile self-test ends, the floor plan is published and the device is READY. -/
  | computeComplete (d : ComputeResult)
  /-- I3C_PRIVATE_READ (R525): Returns bytes of the management record. -/
  | i3cPrivateRead (offset len : Nat)
  /-- I3C_COMMON_COMMAND (R524): Sets the target's address or enables its interrupts. -/
  | i3cCommonCommand (c : I3cCommand)
  /-- MANAGEMENT_RECORD_REFRESH (R525): Every 10 ms the management record is refreshed and an in-band interrupt raised on change. -/
  | managementRecordRefresh (m : BoardData)
  /-- CABLE_INSERTION (R532): A cable inserted in a cage makes the link retrain. -/
  | cableInsertion (link : Nat)
  /-- MAINBAND_TRAINING_COMPLETE (R398): The UCIe mainband training begun at the start of LOADING ends, leaving each module UP or OUT_OF_SERVICE, or halting the device with NO_UCIE. -/
  | mainbandTrainingComplete (modules : List ModuleTrain)
  /-- UCIE_RETRAINING (R398): A UCIe module whose link-level retry fails enters RETRAINING and then returns to UP or leaves service. -/
  | ucieRetraining (m : Nat) (ok : Bool) (speed : Nat)
  /-- HBM_PHY_FAILURE (R338): A stack's PHY fails in operation, the stack becomes FAILED and partitions with bands on it take partition-fatal faults. -/
  | hbmPhyFailure (stack : Nat)
  /-- RESERVOIR_RECHARGED (R379): A fired reservoir bank finishes recharging within 10 µs and is armed again. -/
  | reservoirRecharged (region : Nat) (banks : Nat)
  /-- SCRATCHPAD_ZEROING_COMPLETE (R425): The zeroing of R125 on a tile ends, the tile leaves reset as good and idle, and waiting reset or ERASE work proceeds. -/
  | scratchpadZeroingComplete (t : Nat)
  deriving DecidableEq, Repr

end Sys2Proof
end

