-- ==== Sys2Proof/Decode.lean ====
section
/-! DEFINITION. The decoder of tile programs (R140 to R169), its encoder, and the table decoder, which
answers none because no row of the opcode table gives bits. -/

namespace Sys2Proof
open Machine

/-- Operation of an FN of OP 0x01 (R143). -/
def aluOfFn (fn : Nat) : Option AluOp :=
  match fn with
  | 0x0 => some .add | 0x1 => some .sub | 0x2 => some .and_ | 0x3 => some .or_ | 0x4 => some .xor_
  | 0x5 => some .sll | 0x6 => some .srl | 0x7 => some .sra | 0x8 => some .slt | 0x9 => some .sltu
  | 0xA => some .mul | 0xB => some .mulhu | 0xC => some .divu | 0xD => some .remu | 0xE => some .min_
  | 0xF => some .max_ | _ => none

/-- FN of an operation (R143). -/
def fnOfAlu : AluOp → Nat
  | .add => 0x0 | .sub => 0x1 | .and_ => 0x2 | .or_ => 0x3 | .xor_ => 0x4 | .sll => 0x5 | .srl => 0x6
  | .sra => 0x7 | .slt => 0x8 | .sltu => 0x9 | .mul => 0xA | .mulhu => 0xB | .divu => 0xC | .remu => 0xD
  | .min_ => 0xE | .max_ => 0xF

/-- Operation of an immediate opcode (R142). -/
def immOfOp (op : Nat) : Option ImmOp :=
  match op with
  | 0x02 => some .addi | 0x03 => some .andi | 0x04 => some .ori | 0x05 => some .xori | 0x06 => some .slti
  | 0x07 => some .sltiu | 0x08 => some .slli | 0x09 => some .srli | 0x0A => some .srai | _ => none

/-- Opcode of an immediate operation (R142). -/
def opOfImm : ImmOp → Nat
  | .addi => 0x02 | .andi => 0x03 | .ori => 0x04 | .xori => 0x05 | .slti => 0x06 | .sltiu => 0x07
  | .slli => 0x08 | .srli => 0x09 | .srai => 0x0A

/-- Whether an immediate operation is a shift (R144). -/
def immIsShift : ImmOp → Bool
  | .slli | .srli | .srai => true
  | _ => false

/-- Operation of a load opcode (R142). -/
def loadOfOp (op : Nat) : Option LoadOp :=
  match op with
  | 0x10 => some .lb | 0x11 => some .lbu | 0x12 => some .lh | 0x13 => some .lhu | 0x14 => some .lw
  | 0x15 => some .lwu | 0x16 => some .ld | _ => none

/-- Opcode of a load (R142). -/
def opOfLoad : LoadOp → Nat
  | .lb => 0x10 | .lbu => 0x11 | .lh => 0x12 | .lhu => 0x13 | .lw => 0x14 | .lwu => 0x15 | .ld => 0x16

/-- Operation of a store opcode (R142). -/
def storeOfOp (op : Nat) : Option StoreOp :=
  match op with
  | 0x18 => some .sb | 0x19 => some .sh | 0x1A => some .sw | 0x1B => some .sd | _ => none

/-- Opcode of a store (R142). -/
def opOfStore : StoreOp → Nat
  | .sb => 0x18 | .sh => 0x19 | .sw => 0x1A | .sd => 0x1B

/-- Condition of a branch opcode (R142). -/
def branchOfOp (op : Nat) : Option BranchOp :=
  match op with
  | 0x20 => some .beq | 0x21 => some .bne | 0x22 => some .blt | 0x23 => some .bge | 0x24 => some .bltu
  | 0x25 => some .bgeu | _ => none

/-- Opcode of a branch (R142). -/
def opOfBranch : BranchOp → Nat
  | .beq => 0x20 | .bne => 0x21 | .blt => 0x22 | .bge => 0x23 | .bltu => 0x24 | .bgeu => 0x25

/-- Operation of a VOP (R151). -/
def vecOfVop (v : Nat) : Option VecOp :=
  match v with
  | 0x00 => some .movb | 0x01 => some .cvt | 0x02 => some .add | 0x03 => some .sub | 0x04 => some .mul
  | 0x05 => some .fma | 0x06 => some .max_ | 0x07 => some .min_ | 0x08 => some .abs | 0x09 => some .neg
  | 0x10 => some .exp2 | 0x11 => some .log2 | 0x12 => some .rsqrt | 0x13 => some .recip | 0x14 => some .exp
  | 0x20 => some .rsum | 0x21 => some .rmax | 0x22 => some .rmin | 0x23 => some .rsumsq | _ => none

/-- VOP of an operation (R151). -/
def vopOfVec : VecOp → Nat
  | .movb => 0x00 | .cvt => 0x01 | .add => 0x02 | .sub => 0x03 | .mul => 0x04 | .fma => 0x05
  | .max_ => 0x06 | .min_ => 0x07 | .abs => 0x08 | .neg => 0x09 | .exp2 => 0x10 | .log2 => 0x11
  | .rsqrt => 0x12 | .recip => 0x13 | .exp => 0x14 | .rsum => 0x20 | .rmax => 0x21 | .rmin => 0x22
  | .rsumsq => 0x23

/-- Whether a major opcode is long (R142). -/
def opIsLong (op : Nat) : Bool :=
  [0x0B, 0x0C, 0x30, 0x31, 0x32, 0x34, 0x38, 0x39, 0x3C].contains op

/-- A bit field of an instruction as a bit vector. -/
def fld (w lo n : Nat) : BitVec n := BitVec.ofNat n (bitsOf w lo n)

/-- Decode an instruction of a tile program (R140 to R169): `w` holds the word, and the second word in
bits [63:32] when bit [7] is 1. None is an illegal instruction. -/
def decodeT (w : Nat) : Option TInstr :=
  let op := bitsOf w 0 7
  let gd : BitVec 5 := fld w 8 5
  let ga : BitVec 5 := fld w 13 5
  let gb : BitVec 5 := fld w 18 5
  let imm : BitVec 14 := fld w 18 14
  let zero (lo n : Nat) (i : TInstr) : Option TInstr := if bitsOf w lo n = 0 then some i else none
  if bitOf w 7 ≠ opIsLong op then none
  else if op = 0x01 then (aluOfFn (bitsOf w 23 9)).map (fun a => .alu a gd ga gb)
  else if 0x02 ≤ op ∧ op ≤ 0x0A then
    match immOfOp op with
    | none => none
    | some o => if immIsShift o ∧ bitsOf w 24 8 ≠ 0 then none else some (.imm o gd ga imm)
  else if op = 0x0B then zero 13 19 (.li gd (fld w 32 32))
  else if op = 0x0C then zero 13 19 (.lih gd (fld w 32 32))
  else if 0x10 ≤ op ∧ op ≤ 0x16 then (loadOfOp op).map (fun o => .load o gd ga imm)
  else if 0x18 ≤ op ∧ op ≤ 0x1B then (storeOfOp op).map (fun o => .store o ga gd imm)
  else if 0x20 ≤ op ∧ op ≤ 0x25 then (branchOfOp op).map (fun o => .branch o gd ga imm)
  else if op = 0x26 then some (.jal gd (fld w 13 19))
  else if op = 0x27 then some (.jalr gd ga imm)
  else if op = 0x28 then zero 8 24 .hret
  else if op = 0x30 then
    if bitsOf w 22 10 = 0 then zero 49 15 (.wload
      { ga := gd, gb := ga, fmt := fld w 18 4, kcount := fld w 32 9, ncount := fld w 41 8 }) else none
  else if op = 0x31 then
    if bitsOf w 31 1 = 0 then zero 45 19 (.stream
      { ga := gd, gb := ga, fmt := fld w 18 4, half := bitOf w 22, acc := bitOf w 23, slot := fld w 24 7,
        count := fld w 32 13 }) else none
  else if op = 0x32 then
    zero 59 5 (.drain
      { ga := gd, slot := fld w 13 7, ofmt := fld w 20 4, round := bitOf w 24, half := bitOf w 25,
        sbon := bitOf w 26, act := fld w 27 3, red := fld w 30 2, rows := fld w 32 13, cols := fld w 45 8,
        cont := bitOf w 53, k := fld w 54 5 })
  else if op = 0x34 then
    match vecOfVop (bitsOf w 13 7) with
    | none => none
    | some v => if bitsOf w 31 1 = 0 then zero 52 12 (.vec v
        { ga := gd, sfmt := fld w 20 4, dfmt := fld w 24 4, round := bitOf w 28, cf := bitOf w 29,
          s2s := bitOf w 30, count := fld w 32 13, word := fld w 45 5, cola := bitOf w 50,
          cold := bitOf w 51 }) else none
  else if op = 0x38 then
    if bitsOf w 14 1 = 0 ∧ bitsOf w 15 2 ≠ 3 ∧ bitsOf w 18 14 = 0 then zero 61 3 (.move (bitOf w 13)
      { ga := gd, red := fld w 15 2, cola := bitOf w 17, dcc := fld w 32 12, lcc := fld w 44 12,
        word := fld w 56 5 }) else none
  else if op = 0x39 then
    if bitsOf w 21 2 ≠ 3 ∧ bitsOf w 24 8 = 0 then zero 61 3 (.movec
      { ga := gd, circ := fld w 13 8, red := fld w 21 2, cola := bitOf w 23, dcc := fld w 32 12,
        lcc := fld w 44 12, word := fld w 56 5 }) else none
  else if op = 0x3C then
    if bitsOf w 24 8 = 0 then zero 43 21 (.send
      { gd := gd, ga := ga, gb := gb, ny := bitOf w 23, len := fld w 32 11 }) else none
  else if op = 0x3D then zero 25 7 (.recv
      { gd := gd, ga := ga, gb := gb, wait := bitOf w 23, discard := bitOf w 24 })
  else if op = 0x40 then zero 31 1 (.waitc gd ga (fld w 18 12) (bitOf w 30))
  else if op = 0x41 then zero 14 18 (.tidewait gd (bitOf w 13))
  else if op = 0x42 then zero 8 24 .fence
  else if op = 0x43 then zero 31 1 (.pilot (fld w 8 8) (fld w 16 3) (fld w 19 12))
  else if op = 0x44 then zero 24 8 (.step (fld w 8 16))
  else if op = 0x45 then zero 24 8 (.halt (fld w 8 16))
  else none

/-- The word or words of an instruction (R141 to R169). -/
def encodeT : TInstr → Nat
  | .alu o gd ga gb => 0x01 + gd.toNat * 2 ^ 8 + ga.toNat * 2 ^ 13 + gb.toNat * 2 ^ 18 + fnOfAlu o * 2 ^ 23
  | .imm o gd ga v => opOfImm o + gd.toNat * 2 ^ 8 + ga.toNat * 2 ^ 13 + v.toNat * 2 ^ 18
  | .li gd v => 0x8B + gd.toNat * 2 ^ 8 + v.toNat * 2 ^ 32
  | .lih gd v => 0x8C + gd.toNat * 2 ^ 8 + v.toNat * 2 ^ 32
  | .load o gd ga v => opOfLoad o + gd.toNat * 2 ^ 8 + ga.toNat * 2 ^ 13 + v.toNat * 2 ^ 18
  | .store o ga gb v => opOfStore o + gb.toNat * 2 ^ 8 + ga.toNat * 2 ^ 13 + v.toNat * 2 ^ 18
  | .branch o ga gb v => opOfBranch o + ga.toNat * 2 ^ 8 + gb.toNat * 2 ^ 13 + v.toNat * 2 ^ 18
  | .jal gd v => 0x26 + gd.toNat * 2 ^ 8 + v.toNat * 2 ^ 13
  | .jalr gd ga v => 0x27 + gd.toNat * 2 ^ 8 + ga.toNat * 2 ^ 13 + v.toNat * 2 ^ 18
  | .hret => 0x28
  | .wload f => 0xB0 + f.ga.toNat * 2 ^ 8 + f.gb.toNat * 2 ^ 13 + f.fmt.toNat * 2 ^ 18
      + f.kcount.toNat * 2 ^ 32 + f.ncount.toNat * 2 ^ 41
  | .stream f => 0xB1 + f.ga.toNat * 2 ^ 8 + f.gb.toNat * 2 ^ 13 + f.fmt.toNat * 2 ^ 18
      + flagNat f.half * 2 ^ 22 + flagNat f.acc * 2 ^ 23 + f.slot.toNat * 2 ^ 24 + f.count.toNat * 2 ^ 32
  | .drain f => 0xB2 + f.ga.toNat * 2 ^ 8 + f.slot.toNat * 2 ^ 13 + f.ofmt.toNat * 2 ^ 20
      + flagNat f.round * 2 ^ 24 + flagNat f.half * 2 ^ 25 + flagNat f.sbon * 2 ^ 26 + f.act.toNat * 2 ^ 27
      + f.red.toNat * 2 ^ 30 + f.rows.toNat * 2 ^ 32 + f.cols.toNat * 2 ^ 45 + flagNat f.cont * 2 ^ 53
      + f.k.toNat * 2 ^ 54
  | .vec o f => 0xB4 + f.ga.toNat * 2 ^ 8 + vopOfVec o * 2 ^ 13 + f.sfmt.toNat * 2 ^ 20
      + f.dfmt.toNat * 2 ^ 24 + flagNat f.round * 2 ^ 28 + flagNat f.cf * 2 ^ 29 + flagNat f.s2s * 2 ^ 30
      + f.count.toNat * 2 ^ 32 + f.word.toNat * 2 ^ 45 + flagNat f.cola * 2 ^ 50 + flagNat f.cold * 2 ^ 51
  | .move fetch f => 0xB8 + f.ga.toNat * 2 ^ 8 + flagNat fetch * 2 ^ 13 + f.red.toNat * 2 ^ 15
      + flagNat f.cola * 2 ^ 17 + f.dcc.toNat * 2 ^ 32 + f.lcc.toNat * 2 ^ 44 + f.word.toNat * 2 ^ 56
  | .movec f => 0xB9 + f.ga.toNat * 2 ^ 8 + f.circ.toNat * 2 ^ 13 + f.red.toNat * 2 ^ 21
      + flagNat f.cola * 2 ^ 23 + f.dcc.toNat * 2 ^ 32 + f.lcc.toNat * 2 ^ 44 + f.word.toNat * 2 ^ 56
  | .send f => 0xBC + f.gd.toNat * 2 ^ 8 + f.ga.toNat * 2 ^ 13 + f.gb.toNat * 2 ^ 18
      + flagNat f.ny * 2 ^ 23 + f.len.toNat * 2 ^ 32
  | .recv f => 0x3D + f.gd.toNat * 2 ^ 8 + f.ga.toNat * 2 ^ 13 + f.gb.toNat * 2 ^ 18
      + flagNat f.wait * 2 ^ 23 + flagNat f.discard * 2 ^ 24
  | .waitc gd ga cnt c => 0x40 + gd.toNat * 2 ^ 8 + ga.toNat * 2 ^ 13 + cnt.toNat * 2 ^ 18
      + flagNat c * 2 ^ 30
  | .tidewait ga m => 0x41 + ga.toNat * 2 ^ 8 + flagNat m * 2 ^ 13
  | .fence => 0x42
  | .pilot lead cls dur => 0x43 + lead.toNat * 2 ^ 8 + cls.toNat * 2 ^ 16 + dur.toNat * 2 ^ 19
  | .step tag => 0x44 + tag.toNat * 2 ^ 8
  | .halt code => 0x45 + code.toNat * 2 ^ 8

/-- Length in bytes of an instruction (R140). -/
def lengthT (i : TInstr) : Nat := if bitOf (encodeT i) 7 then 8 else 4

/-- The command that a word of the opcode table spells: none, since the table gives no row bits
(log entry 1). -/
def decodeTableWord (_nbits _w : Nat) : Option Instr := none

end Sys2Proof
end

