-- ==== Sys2Proof/Machine/SMap.lean ====
section
/-! DEFINITION. Sparse files in one canonical form: keys strictly rising and no entry equal to the
default, so that equal files are equal data. -/

namespace Sys2Proof.Machine

/-- The value at key `k`; `d` where nothing is listed. -/
def SMap.get {α : Type} (d : α) : SMap α → Nat → α
  | [], _ => d
  | (k', v) :: m, k => if k = k' then v else SMap.get d m k

/-- Put `v` at key `k` of a rising list; an entry for `k` is replaced. -/
def SMap.put {α : Type} (k : Nat) (v : α) : SMap α → SMap α
  | [] => [(k, v)]
  | (k', v') :: m =>
    if k < k' then (k, v) :: (k', v') :: m
    else if k = k' then (k, v) :: m
    else (k', v') :: SMap.put k v m

/-- Remove every entry of key `k`. -/
def SMap.drop {α : Type} (k : Nat) : SMap α → SMap α
  | [] => []
  | (k', v') :: m => if k = k' then SMap.drop k m else (k', v') :: SMap.drop k m

/-- Write `v` at key `k`, keeping the canonical form for default `d`. -/
def SMap.set {α : Type} [DecidableEq α] (d : α) (m : SMap α) (k : Nat) (v : α) : SMap α :=
  if v = d then SMap.drop k m else SMap.put k v m

/-- Keys strictly rising, all at least `lo`, and no value equal to `d`. -/
def SMap.wfFrom {α : Type} [DecidableEq α] (d : α) : Nat → SMap α → Bool
  | _, [] => true
  | lo, (k, v) :: m => decide (lo ≤ k) && decide (v ≠ d) && SMap.wfFrom d (k + 1) m

/-- The canonical form of a file with default `d`. -/
def SMap.wf {α : Type} [DecidableEq α] (d : α) (m : SMap α) : Bool := SMap.wfFrom d 0 m

/-- Change the entry of `k` by `f`. -/
def SMap.mod {α : Type} [DecidableEq α] (d : α) (m : SMap α) (k : Nat) (f : α → α) : SMap α :=
  SMap.set d m k (f (SMap.get d m k))

/-- Keep the entries whose key passes `p`. -/
def SMap.keep {α : Type} (p : Nat → Bool) : SMap α → SMap α
  | [] => []
  | (k, v) :: m => if p k then (k, v) :: SMap.keep p m else SMap.keep p m

/-- Change every listed entry by `f`, dropping what becomes the default. -/
def SMap.mapAll {α : Type} [DecidableEq α] (d : α) (f : Nat → α → α) : SMap α → SMap α
  | [] => []
  | (k, v) :: m =>
    let v' := f k v
    if v' = d then SMap.mapAll d f m else (k, v') :: SMap.mapAll d f m

/-- The canonical form of a byte memory (an unlisted byte reads as zero). -/
abbrev Memory.wf (m : Memory) : Bool := SMap.wf (0 : Byte) m

/-- Read one byte of a memory. -/
def Memory.read (m : Memory) (a : Nat) : Byte := SMap.get 0 m a

/-- Write one byte of a memory. -/
def Memory.write (m : Memory) (a : Nat) (b : Byte) : Memory := SMap.set 0 m a b

/-- Read `n` bytes from address `a` on, in ascending order. -/
def Memory.readBytes (m : Memory) (a : Nat) : Nat → List Byte
  | 0 => []
  | n + 1 => Memory.read m a :: Memory.readBytes m (a + 1) n

/-- Write a list of bytes from address `a` on. -/
def Memory.writeBytes (m : Memory) (a : Nat) : List Byte → Memory
  | [] => m
  | b :: bs => Memory.writeBytes (Memory.write m a b) (a + 1) bs

/-- Zero the bytes of addresses `lo` up to but not including `hi` (R125, R327). -/
def Memory.zero (m : Memory) (lo hi : Nat) : Memory :=
  SMap.keep (fun k => decide (k < lo) || decide (hi ≤ k)) m

end Sys2Proof.Machine
end

