-- ==== Sys2Proof/Machine/TileState.lean ====
section
/-! DEFINITION. The state of one tile: sequencer, engines, scratchpad, integrity and channels
(chapters 03 to 05, 07 and 09 of spec/). -/

namespace Sys2Proof.Machine

/-- A fault as its block reports it to the fault collector (R498, R499); an absent site, partition or
context is none. -/
structure FaultNote where
  sev : Nat
  code : Nat
  part : Option Nat
  ctx : Option Nat
  site : Option Nat
  site2 : Option Nat
  unitKind : Nat
  unit : Nat
  d0 : Nat
  d1 : Nat
  deriving DecidableEq, Repr, Inhabited

/-- A completion counter TS_COMPLETION[n] (R176). -/
structure Comp where
  failed : BitVec 16
  count : BitVec 32
  deriving DecidableEq, Repr, Inhabited

/-- A completion counter with all fields zero (R137). -/
def Comp.zero : Comp := ⟨0, 0⟩

/-- A moored-area descriptor TS_MOOR[n] (R121, R123). -/
structure Moor where
  valid : Bool
  code : Bool
  ctx : BitVec 3
  count : BitVec 12
  first : BitVec 12
  deriving DecidableEq, Repr, Inhabited

/-- A descriptor that is not in use. -/
def Moor.none : Moor := ⟨false, false, 0, 0, 0⟩

/-- The state of a side-storage entry (R126). -/
inductive SideSt where
  | none
  | valid
  | stale
  deriving DecidableEq, Repr, Inhabited

/-- A side-storage entry of one tensor block (R126). -/
structure Side where
  crc : BitVec 32
  st : SideSt
  deriving DecidableEq, Repr, Inhabited

/-- No check value is held. -/
def Side.empty : Side := ⟨0, .none⟩

/-- The state of an accumulator slot row within the open step (R313). -/
inductive SlotRow where
  | untouched
  | clean (ncount : Nat)
  | readBefore
  deriving DecidableEq, Repr, Inhabited

/-- A loaded stationary operand as the weight hold keeps it (R95): formats, counts, the operand's bytes
column by column (R69), its scale bytes, and at check levels 1 to 3 the checksum cells of R84 and R300. -/
structure WHold where
  fmt : Nat
  kcount : Nat
  ncount : Nat
  cols : List (List Byte)
  scales : List (List Byte)
  checked : Bool
  c : List (BitVec 32)
  a : List (BitVec 32)
  deriving DecidableEq, Repr, Inhabited

/-- A scoreboard range (R110). -/
structure Range where
  first : Nat
  last : Nat
  write : Bool
  deriving DecidableEq, Repr, Inhabited

/-- A STREAM that has issued: its remaining rows as the feed read them (R70, R71), the operand it meets
(R75), and for a selected STREAM the check partner it is copied to (R306). -/
structure StreamOp where
  fmt : Nat
  accMode : Bool
  slot : Nat
  count : Nat
  next : Nat
  half : Bool
  rows : List (List Byte)
  scales : List (List Byte)
  w : WHold
  ranges : List Range
  passNo : BitVec 32
  deriving DecidableEq, Repr, Inhabited

/-- A DRAIN that has issued (R85 to R93); scale and bias are captured at issue, the seed and the row
counter under R60. -/
structure DrainOp where
  slot : Nat
  rows : Nat
  cols : Nat
  next : Nat
  ofmt : Nat
  half : Bool
  stoch : Option (Word × Word)
  act : Nat
  red : Nat
  cont : Bool
  k : Nat
  dst : Nat
  dscale : Nat
  raddr : Nat
  colbase : BitVec 32
  sb : Option (List (BitVec 32) × List (BitVec 32))
  sbRange : List Range
  ranges : List Range
  cover : SMap Nat
  deriving DecidableEq, Repr, Inhabited

/-- A WLOAD that has issued and has not loaded yet: the operand as it read it, and its ranges (R76, R95). -/
structure WloadOp where
  w : WHold
  ranges : List Range
  deriving DecidableEq, Repr, Inhabited

/-- An issued array-engine instruction that is not complete (R76). -/
inductive ArrayOp where
  | wload (o : WloadOp)
  | stream (o : StreamOp)
  | drain (o : DrainOp)
  deriving DecidableEq, Repr, Inhabited

/-- An entry of TS_TALLY_LOG (R320), and the tally of a contribution (R309). -/
structure Tally where
  tide : BitVec 64
  crc : BitVec 64
  sum : BitVec 64
  absSum : BitVec 64
  count : BitVec 32
  seqno : BitVec 32
  valid : Bool
  red : BitVec 2
  viaCircuit : Bool
  dsite : BitVec 9
  circuit : BitVec 8
  dcc : BitVec 12
  fab : Bool
  fdest : BitVec 15
  deriving DecidableEq, Repr, Inhabited

/-- An entry that holds no contribution. -/
def Tally.empty : Tally := ⟨0, 0, 0, 0, 0, 0, false, 0, false, 0, 0, 0, false, 0⟩

/-- A MOVE or MOVEC that has issued: packets still to inject, the rows of a fetch still to arrive, its
ranges and the tally it will log (R132, R157, R309). -/
structure MoveOp where
  waiting : List Packet
  tally : Option Tally
  readRanges : List Range
  writeRanges : List Range
  rowsDue : Nat
  localRow : Nat
  cola : Bool
  word : Nat
  red : Nat
  fetch : Bool
  ident : Nat
  deriving DecidableEq, Repr, Inhabited

/-- What a free packet outstanding under R195 belongs to: a MOVE, the check copy of a pass (R306), or the read of a
channel table entry (R243). -/
inductive OutUse where
  | move
  | copy (passNo : BitVec 32)
  | entry (chan : BitVec 16)
  deriving DecidableEq, Repr, Inhabited

/-- A free packet outstanding under R195. -/
structure Outstanding where
  pkt : Packet
  rows : Nat
  sentAt : BitVec 64
  ident : Nat
  use : OutUse
  timeout : Nat
  deriving DecidableEq, Repr, Inhabited

/-- A sequencer store that is pending (R116). -/
structure PendingStore where
  addr : Nat
  bytes : List Byte
  deriving DecidableEq, Repr, Inhabited

/-- WAIT_KIND of TS_SEQ_STATUS (R177); `partner` is the hold of R306 at issue, shown as a scoreboard hold. -/
inductive WaitKind where
  | waitc
  | tidewait
  | send
  | recv
  | scoreboard
  | queueFull
  | fence
  | partner
  deriving DecidableEq, Repr, Inhabited

/-- The instruction at pc that has been attempted and is held or waits (R131, R170). `mark` is the tide
mark that a TIDEWAIT with MARK waits for (R165). -/
structure Held where
  ins : TInstr
  kind : WaitKind
  mark : BitVec 64
  deriving DecidableEq, Repr, Inhabited

/-- MODE of TS_SEQ_STATUS but for paused, which `paused` holds (R177). -/
inductive TMode where
  | idle
  | running
  | halted
  | exception
  deriving DecidableEq, Repr, Inhabited

/-- The replay point that a STEP records (R168, R315). -/
structure ReplayPoint where
  gregs : SMap Word
  hbank : SMap Word
  pc : Word
  srCount : BitVec 64
  mask : BitVec 16
  passes : BitVec 32
  handler : Bool
  deriving DecidableEq, Repr, Inhabited

/-- The packets of a check copy that a check area has taken (R306): its sender, the packet numbers, the number of the
last packet once that has come, and the last packet, which the verdict answers (R308). -/
structure CheckIn where
  origin : Nat
  got : List Nat
  last : Option Packet
  deriving DecidableEq, Repr, Inhabited

/-- A check pass as its origin sends it and its partner reads it (R305, R306): its STREAM and the row digests. -/
structure CheckJob where
  origin : Nat
  passNo : BitVec 32
  w : WHold
  fmt : Nat
  half : Bool
  rows : List (List Byte)
  scales : List (List Byte)
  digests : List (BitVec 32)
  deriving DecidableEq, Repr, Inhabited

/-- A selected STREAM of the origin whose verdict is awaited (R306, R308). -/
structure CheckOut where
  passNo : BitVec 32
  copied : Bool
  job : CheckJob
  deriving DecidableEq, Repr, Inhabited

/-- A channel table entry (R215). `good` is that CHK matches. -/
structure ChEntry where
  version : BitVec 16
  state : BitVec 2
  kind : BitVec 2
  ctrl : Bool
  ctx : BitVec 3
  part : BitVec 5
  rsite : BitVec 9
  rqueue : BitVec 4
  circ : BitVec 8
  maxlen : BitVec 11
  credits : BitVec 8
  fanout : BitVec 6
  timeout : BitVec 32
  handler : BitVec 27
  rccEn : Bool
  rcc : BitVec 12
  sccEn : Bool
  scc : BitVec 12
  sx0 : BitVec 8
  sy0 : BitVec 8
  sx1 : BitVec 8
  sy1 : BitVec 8
  good : Bool
  deriving DecidableEq, Repr, Inhabited

/-- A line of the channel cache CH_CACHE[i] (R241, R250); `used` orders the lines by use. -/
structure CacheLine where
  index : BitVec 16
  entry : ChEntry
  used : Nat
  deriving DecidableEq, Repr, Inhabited

/-- An accepted message not yet answered (R225, R236, R237); `returned` lists the receivers that have
returned its slots. It keeps what it needs of the entry's copy that it was accepted with (R246): the number of its
receivers, and the counter of its failure. -/
structure OutMsg where
  seq : BitVec 24
  slots : Nat
  sentAt : BitVec 64
  timeout : Nat
  returned : List Nat
  fanout : Nat
  scc : Option (BitVec 12)
  deriving DecidableEq, Repr, Inhabited

/-- The sending state of a stream (R224, R242). -/
structure SendStream where
  next : BitVec 24
  out : List OutMsg
  deriving DecidableEq, Repr, Inhabited

/-- A stream on which nothing has been sent. -/
def SendStream.new : SendStream := ⟨0, []⟩

/-- A message in a receive queue (R222). -/
structure QMsg where
  chan : BitVec 16
  sender : BitVec 9
  seq : BitVec 24
  len : Nat
  slots : Nat
  deriving DecidableEq, Repr, Inhabited

/-- A receive queue CH_QUEUE[q]: the first slot of the head message, and the messages in order (R219). -/
structure Queue where
  head : Nat
  msgs : List QMsg
  deriving DecidableEq, Repr, Inhabited

/-- An empty queue. -/
def Queue.empty : Queue := ⟨0, []⟩

/-- A message held in the reorder window (R231, R232). -/
structure HeldMsg where
  pkt : Packet
  since : BitVec 64
  timeout : Nat
  deriving DecidableEq, Repr, Inhabited

/-- The route of a stream's entry: receiver, queue, kind, circuit and sender rectangle, on which the stream's numbers
hang (R234). -/
structure Route where
  rsite : BitVec 9
  rqueue : BitVec 4
  kind : BitVec 2
  circ : BitVec 8
  rect : BitVec 8 × BitVec 8 × BitVec 8 × BitVec 8
  deriving DecidableEq, Repr, Inhabited

/-- Where a SEND stands (R223). -/
inductive SendPhase where
  | miss
  | credits
  | injecting (p : Packet)
  | done (code : Nat)
  deriving DecidableEq, Repr, Inhabited

/-- A SEND in the channel engine (R223, R227, R229): the register for the outcome, the channel, the source
row, the length, whether it yields, the send timer's start and the cycles it did not count, and the circuit of the
copy that it was accepted with (R246). -/
structure SendCur where
  gd : BitVec 5
  fromHandler : Bool
  chan : BitVec 16
  row : Nat
  len : Nat
  ny : Bool
  phase : SendPhase
  start : BitVec 64
  excluded : BitVec 64
  circ : BitVec 8
  deriving DecidableEq, Repr, Inhabited

/-- The channel engine of a tile (chapter 07). -/
structure Chan where
  cache : List CacheLine
  useClock : Nat
  queues : SMap Queue
  streams : SMap SendStream
  expected : SMap (BitVec 24)
  /-- The routes for which the streams' numbers hold, by channel (R234). -/
  routes : SMap (Option Route)
  window : List HeldMsg
  misses : List (BitVec 16)
  waiting : List Packet
  cur : Option SendCur
  parked : Option SendCur
  /-- The active cycles at which the tile's scope left normal service, until its RELEASE (R209, R227). -/
  draining : Option (BitVec 64)
  invalidating : Bool
  gapSkipped : Bool
  reorderFull : Bool
  refetch : Bool
  entryBad : Bool
  sent : BitVec 32
  closed : BitVec 8
  timeouts : BitVec 8
  refused : BitVec 8
  lost : BitVec 8
  received : BitVec 32
  dropped : BitVec 8
  stale : BitVec 8
  reordered : BitVec 8
  gaps : BitVec 8
  deriving DecidableEq, Repr, Inhabited

/-- The channel state that LAUNCH and reset leave (R247, R249). -/
def Chan.clear : Chan :=
  { cache := [], useClock := 0, queues := [], streams := [], expected := [], routes := [], window := [],
    misses := [], waiting := [], cur := none, parked := none, draining := none, invalidating := false, gapSkipped := false,
    reorderFull := false, refetch := false, entryBad := false, sent := 0, closed := 0, timeouts := 0,
    refused := 0, lost := 0, received := 0, dropped := 0, stale := 0, reordered := 0, gaps := 0 }

/-- A line of the instruction cache (R138): whether it holds code, of which address, and the 64 bytes. -/
structure ILine where
  valid : Bool
  base : Nat
  code : List Byte
  deriving DecidableEq, Repr, Inhabited

/-- A line that holds nothing. -/
def ILine.none : ILine := ⟨false, 0, []⟩

/-- An exception that has been raised while earlier instructions still run (R173): cause and detail, with the pc of
the instruction that did not issue, and whether the tile itself raised it and tells the harbour master. -/
structure ExcDue where
  cause : Nat
  detail : Nat
  pc : Word
  own : Bool
  deriving DecidableEq, Repr, Inhabited

/-- The sequencer of a tile (chapter 05). -/
structure Seq where
  /-- g1 to g31 of the main bank, 64 bits each (R136). -/
  gregs : SMap Word
  /-- g24 to g31 of the handler bank (R136). -/
  hbank : SMap Word
  /-- The address of the next instruction to issue; TS_PC shows its bits [26:0] (R177). -/
  pc : Word
  /-- MODE of TS_SEQ_STATUS (R177). -/
  mode : TMode
  /-- The instruction at pc that is held or waits (R131). -/
  cur : Option Held
  /-- Handler mode (R170); HANDLER of TS_SEQ_STATUS. -/
  handler : Bool
  /-- TS_HANDLER_PC (R171). -/
  handlerPc : Word
  /-- The queue whose handler runs (R171). -/
  handlerQ : Nat
  /-- Whether the handler has taken or discarded its message (R172). -/
  handlerTaken : Bool
  /-- A dispatch was accepted and waits for its channel entry (R171). -/
  dispatching : Option Nat
  /-- The main program's held or waiting instruction while a handler runs (R172). -/
  mainCur : Option Held
  /-- TS_ACTIVE_CYCLES (R134). -/
  activeCycles : BitVec 64
  /-- CAUSE of TS_EXC (R174). -/
  excCause : BitVec 8
  /-- DETAIL of TS_EXC (R174). -/
  excDetail : BitVec 32
  /-- TS_EXC_PC (R177). -/
  excPc : Word
  /-- EXC_MORE of TS_SEQ_STATUS (R173). -/
  excMore : Bool
  /-- An exception raised and not yet recorded (R173). -/
  excDue : Option ExcDue
  /-- The instruction cache, by line 0 to 127 (R138). -/
  icache : SMap ILine
  /-- TS_HANDLER_MASK (R177). -/
  handlerMask : BitVec 16
  /-- TS_STEP_TAG (R177). -/
  stepTag : BitVec 16
  /-- TS_SR_SEED (R61). -/
  srSeed : BitVec 64
  /-- TS_SR_COUNT (R61). -/
  srCount : BitVec 64
  /-- TS_COMPLETION[n] (R177), by n. -/
  comps : SMap Comp
  /-- PAUSE has been asked and waits for a dispatch point (R178). -/
  pauseReq : Bool
  /-- The tile is paused (R178). -/
  paused : Bool
  /-- The CODE of HALT (R169). -/
  haltCode : BitVec 16
  /-- The tide count at which the first instruction may issue (R137). -/
  startAt : BitVec 64
  deriving DecidableEq, Repr, Inhabited

/-- The array engine, its memories and its status (chapter 03). -/
structure Arr where
  /-- Accumulator elements, key slot × 4096 + row × 128 + column (R78, R94). -/
  acc : SMap (BitVec 32)
  /-- Slot-row states, key slot × 32 + row (R313). -/
  slotRows : SMap SlotRow
  /-- The weight hold (R95). -/
  hold : Option WHold
  /-- The operand in the array cells (R95). -/
  cells : Option WHold
  /-- A WLOAD has issued since LAUNCH or reset (R97). -/
  wloadIssued : Bool
  /-- Issued array-engine instructions not complete, oldest first (R76). -/
  queue : List ArrayOp
  satSeen : Bool
  infSeen : Bool
  nanSeen : Bool
  checkMismatch : Bool
  deriving DecidableEq, Repr, Inhabited

/-- The array's state after a tile reset (R95). -/
def Arr.clear : Arr :=
  { acc := [], slotRows := [], hold := none, cells := none, wloadIssued := false, queue := [],
    satSeen := false, infSeen := false, nanSeen := false, checkMismatch := false }

/-- The scratchpad, its side storage and the scoreboard (chapter 04). -/
structure Spad where
  /-- The 117,440,512 bytes, by tile byte offset (R99). -/
  mem : Memory
  /-- Bytes whose parity bit does not match (R128). -/
  parityBad : SMap Bool
  /-- Side storage, by tensor block (R126). -/
  side : SMap Side
  /-- TS_MOOR[n] (R121). -/
  moors : SMap Moor
  /-- Sequencer stores pending, oldest first (R116). -/
  stores : List PendingStore
  /-- The step read set as first and last rows (R119). -/
  readSet : List (Nat × Nat)
  inboundReadset : Bool
  readsetOverflow : Bool
  /-- The read set overflowed within the open step (R119, R314). -/
  stepOverflow : Bool
  /-- An outside write entered the read set within the open step (R120, R314). -/
  stepInbound : Bool
  parityError : Bool
  widePromoted : Bool
  narrowForced : Bool
  deriving DecidableEq, Repr, Inhabited

/-- The scratchpad after a tile reset (R124, R125). -/
def Spad.clear : Spad :=
  { mem := [], parityBad := [], side := [], moors := [], stores := [], readSet := [],
    inboundReadset := false, readsetOverflow := false, stepOverflow := false, stepInbound := false,
    parityError := false, widePromoted := false,
    narrowForced := false }

/-- The integrity state of a tile (chapter 09). -/
structure Integ where
  level : BitVec 2
  partner : BitVec 9
  passes : BitVec 32
  lastCheck : BitVec 8
  lastReason : BitVec 8
  suspect : Bool
  replaying : Bool
  unclean : Bool
  outside : Bool
  tallyMismatch : Bool
  transportSeen : Bool
  blockCrcSeen : Bool
  replays : BitVec 16
  unverified : BitVec 16
  skipped : BitVec 8
  unchecked : BitVec 8
  transport : BitVec 8
  tally : BitVec 8
  tallyLog : SMap Tally
  seqno : BitVec 32
  replayPoint : Option ReplayPoint
  /-- A detected error whose replay waits for issued work (R315). -/
  replayPending : Option (BitVec 8)
  /-- Selected passes whose verdict is awaited (R306). -/
  checks : List CheckOut
  /-- Packets of a check copy that still have to leave (R306). -/
  copyOut : List Packet
  /-- The check copy in this tile's check area (R305, R307). -/
  checkIn : Option CheckIn
  /-- STEP commits since LAUNCH (R287). -/
  stepSeq : BitVec 64
  /-- Tallies sent since the previous STEP, in sending order (R287). -/
  stepTallies : List Tally
  deriving DecidableEq, Repr, Inhabited

/-- The integrity state after a tile reset; SUSPECT and the counts are the tile's own (R316, R320). -/
def Integ.clear : Integ :=
  { level := 0, partner := 0x1FF, passes := 0, lastCheck := 0, lastReason := 0, suspect := false,
    replaying := false, unclean := false, outside := false, tallyMismatch := false,
    transportSeen := false, blockCrcSeen := false, replays := 0, unverified := 0, skipped := 0,
    unchecked := 0, transport := 0, tally := 0, tallyLog := [], seqno := 0, replayPoint := none,
    replayPending := none, checks := [], copyOut := [], checkIn := none, stepSeq := 0, stepTallies := [] }

/-- The sequencer's state after a tile reset (R176, R177). -/
def Seq.clear : Seq :=
  { gregs := [], hbank := [], pc := 0, mode := .idle, cur := none, handler := false, handlerPc := 0,
    handlerQ := 0, handlerTaken := false, dispatching := none, mainCur := none, activeCycles := 0,
    excCause := 0, excDetail := 0, excPc := 0, excMore := false, excDue := none, icache := [], handlerMask := 0,
    stepTag := 0, srSeed := 0, srCount := 0, comps := [], pauseReq := false, paused := false,
    haltCode := 0, startAt := 0 }

/-- One tile. -/
structure Tile where
  seq : Seq
  arr : Arr
  spad : Spad
  integ : Integ
  chan : Chan
  /-- The ranges of each issued VEC that is not complete, oldest first (R132). -/
  vecQ : List (List Range)
  /-- Issued MOVE and MOVEC not complete, oldest first (R132). -/
  moveQ : List MoveOp
  /-- Free packets outstanding (R195). -/
  outst : List Outstanding
  /-- A number for the next MOVE, to tell its packets from another's. -/
  nextIdent : Nat
  /-- The tile has been sent STOP and not RESUME (R209), with the active cycles at that time. -/
  stopped : Option (BitVec 64)
  /-- The context whose program the tile holds, within its partition (R137, R415). -/
  ctx : Option (BitVec 3)
  /-- While the tile holds no program: the context whose program it held last and that owns what is left in its
  memories (R94, R127). -/
  owner : Option (BitVec 3)
  /-- Zeroing of R125 runs: the tile is in reset (R425). -/
  inReset : Bool
  /-- Activity counted for the context it runs since it was last collected (R392), by kind. -/
  counts : SMap Nat
  deriving DecidableEq, Repr, Inhabited

/-- A tile after reset: idle, every register at its reset value (R95, R124, R249). -/
def Tile.clear : Tile :=
  { seq := Seq.clear, arr := Arr.clear, spad := Spad.clear, integ := Integ.clear, chan := Chan.clear,
    vecQ := [], moveQ := [], outst := [], nextIdent := 0, stopped := none, ctx := none, owner := none, inReset := false,
    counts := [] }

/-- What activity is counted as (R392), with its code. -/
inductive Act where
  | macLn | macOfp | macFp4 | mac16 | vecStep | wide | flit | hbmByte | linkFlit
  deriving DecidableEq, Repr, Inhabited

/-- The code of a kind of activity: its row in the table of R392. -/
def Act.code : Act → Nat
  | .macLn => 0 | .macOfp => 1 | .macFp4 => 2 | .mac16 => 3 | .vecStep => 4 | .wide => 5 | .flit => 6 | .hbmByte => 7
  | .linkFlit => 8

/-- A tile counts activity (R392). -/
def Tile.count (t : Tile) (k : Act) (n : Nat) : Tile := { t with counts := SMap.mod 0 t.counts k.code (fun c => c + n) }

end Sys2Proof.Machine
end

