-- ==== Sys2Proof/Machine/DevState.lean ====
section
/-! DEFINITION. The parts of the device's state outside the tiles: module facts, pins, bring-up, host
attachment, commands, security, the fault log, clocks, power, fabric, network, memory, partitions and
contexts (chapters 06, 08 and 10 to 18 of spec/). Each field names its register or rule and its reset
value. -/

namespace Sys2Proof.Machine

/-! ### Module facts, pins and bring-up -/

/-- The fuses of R470. -/
structure Fuses where
  /-- ROOT_RSA (R470), 384 bits; fused. -/
  rootRsa : BitVec 384
  /-- ROOT_SLH (R470), 384 bits; fused. -/
  rootSlh : BitVec 384
  /-- SEED (R470), 256 bits; fused. -/
  seed : BitVec 256
  /-- SECVER (R470), 0 to 63; fused, raised by R472. -/
  secver : Nat
  /-- FLOOR[s] (R470, R485), one response code for each of 7 sources; fused. -/
  floors : List Nat
  /-- DEFAULT[s] (R470, R485), one response code for each of 7 sources; fused. -/
  defaults : List Nat
  /-- TERMINAL_EN (R470), 1 bit; fused. -/
  terminalEn : Bool
  /-- SECURE_DEBUG (R470), 1 bit; fused. -/
  secureDebug : Bool
  /-- IDENTITY_END (R470), 1 bit; fused, blown by TERMINAL. -/
  identityEnd : Bool
  deriving DecidableEq, Repr, Inhabited

/-- What assembly and test fix (R1 to R4, R358, R427, R525). -/
structure ModuleFacts where
  /-- Stacks fitted (R2): 12, 16 or 24. -/
  hbmStacks : Nat
  /-- Link dies fitted (R2): 4, 6 or 8. -/
  linkDies : Nat
  /-- GRADE (R2, R427): 0 A, 1 B. -/
  grade : Nat
  /-- STEPPING (R427), 8 bits. -/
  stepping : BitVec 8
  /-- Module serial number (R525), 64 bits. -/
  serial : BitVec 64
  /-- Sites disabled at manufacture (R457). -/
  disabled : List Nat
  /-- FUSED_BIN (R358, R457) by site; 76 where none is listed. -/
  fusedBins : SMap Nat
  /-- The fuses (R470). -/
  fuses : Fuses
  deriving DecidableEq, Repr, Inhabited

/-- The signal connector and the module's power state (R513 to R521). Voltage in mV. -/
structure Pins where
  /-- REFCLK_P, REFCLK_N run within R518; 1 bit. -/
  refclk : Bool
  /-- RESET_N is high (R519); low. -/
  resetN : Bool
  /-- PWRGD is high (R516); low. -/
  pwrgd : Bool
  /-- ALARM_N is driven low (R489); not driven. -/
  alarmLow : Bool
  /-- THERMTRIP_N is driven low (R389); not driven. -/
  tripLow : Bool
  /-- The 50 V input (R514); 0. -/
  input : Nat
  /-- VLNK is on (R519, R520); off. -/
  vlnk : Bool
  /-- The other die rails are on (R519); off. -/
  railsOn : Bool
  /-- The module stays off until the input has been cycled (R521); 0. -/
  latchedOff : Bool
  deriving DecidableEq, Repr, Inhabited

/-- PHASE (R449). -/
inductive Phase where
  | dark | ident | loading | clocksNet | memories | links | compute | ready | halted | alarmed
  deriving DecidableEq, Repr, Inhabited

/-- A site record of the floor plan, but for what other state gives (R457, R458, R461). -/
structure SiteRec where
  /-- STATUS: 0 good, 1 disabled, 2 failed, 3 retired. -/
  status : Nat
  /-- REASON (R458). -/
  reason : Nat
  /-- SERVICE_BIN where it differs from FUSED_BIN. -/
  serviceBin : Option Nat
  /-- RETIRED_AT, 48 bits. -/
  retiredAt : BitVec 48
  deriving DecidableEq, Repr, Inhabited

/-- A good site at its fused bin. -/
def SiteRec.good : SiteRec := ⟨0, 0, none, 0⟩

/-- The image fetch of LOADING (R451): bytes read so far, the address of the next read, and whether a
read failed; none before the first read. -/
structure ImageFetch where
  bytes : List Byte
  wanted : Nat
  failed : Bool
  deriving DecidableEq, Repr, Inhabited

/-- Bring-up, the image and the licences (chapter 15). -/
structure Bring where
  /-- PHASE of UCI_STATUS (R427, R449); DARK, IDENT when first readable. -/
  phase : Phase
  /-- HALT_CAUSE (R467), 8 bits; 0. -/
  haltCause : Nat
  /-- HALT_PHASE (R467), 4 bits; 0. -/
  haltPhase : Nat
  /-- VERIFY_FAILS (R467), 2 bits; 0, kept across RESET_N. -/
  verifyFails : Nat
  /-- LICENCE_FAILS (R467), 8 bits; 0. -/
  licenceFails : Nat
  /-- READY_MS (R467), 16 bits; 0. -/
  readyMs : Nat
  /-- Tide counts spent waiting for a boot pointer (R449); 0. -/
  waited : Nat
  /-- The tide count at which the present wait for a boot pointer began (R449). -/
  waitFrom : Option Word
  /-- ADDR of UCI_BOOT_PTR (R427), 64 bits; 0. -/
  bootPtr : Word
  /-- The image fetch in progress (R451). -/
  fetch : Option ImageFetch
  /-- The mainband trains (R398). -/
  mainband : Bool
  /-- SECVER of the running image (R452); 0. -/
  secver : Nat
  /-- FWVER of the running image (R452), 32 bits; 0. -/
  fwver : Nat
  /-- SHA-384 of the running image's message (R475). -/
  imageHash : List Byte
  /-- Licences installed, feature to level (R464); none. -/
  licences : SMap Nat
  /-- BOOST has taken effect (R465); 0. -/
  boost : Bool
  /-- The FABRIC_SCALE level that the last WRITE_ROUTES found (R263, R465); none, 0. -/
  fabScale : Nat
  /-- The floor plan is published (R457); 0. -/
  published : Bool
  /-- Site records (R457). -/
  sites : SMap SiteRec
  deriving DecidableEq, Repr, Inhabited

/-- Bring-up after RESET_N, with a count of failed verifications (R454). -/
def Bring.clear (verifyFails : Nat) : Bring :=
  { phase := .dark, haltCause := 0, haltPhase := 0, verifyFails := verifyFails, licenceFails := 0, readyMs := 0,
    waited := 0, waitFrom := none, bootPtr := 0, fetch := none, mainband := false, secver := 0, fwver := 0,
    imageHash := [], licences := [], boost := false, fabScale := 1, published := false, sites := [] }

/-! ### What leaves the device -/

/-- What the device sends: to the host, on its links, on the management bus. -/
inductive Out where
  /-- A device write of host memory (R399). -/
  | hostWrite (addr : Nat) (data : List Byte)
  /-- A device read of host memory (R399). -/
  | hostFetch (addr len : Nat)
  /-- A read completion (R400). -/
  | readAnswer (module : Nat) (tag : BitVec 16) (status : Nat) (data : List Byte)
  /-- The completion of a command-window write (R402). -/
  | windowAnswer (module : Nat) (status : Nat)
  /-- A message interrupt (R399, R406). -/
  | interrupt (addr data : Nat)
  /-- A data flit on a link (R256). -/
  | linkData (link : Nat) (f : LinkFlit)
  /-- This device's fabric address, exchanged with the peer of a torus link (R262). -/
  | linkAddress (link : Nat) (addr : BitVec 15)
  /-- A link control flit (R258). -/
  | linkCtl (link : Nat) (c : LinkControl)
  /-- A BEACON packet in a pilot position (R257, R279). -/
  | beacon (link : Nat) (p : Packet)
  /-- Bytes of an I3C private read (R525). -/
  | i3cData (bytes : List Byte)
  /-- An I3C in-band interrupt (R526). -/
  | i3cInterrupt
  deriving DecidableEq, Repr, Inhabited

/-! ### Commands, records and the host attachment -/

/-- A record of the reply ring before it is laid in entries (R432). `sev` is a FAULT record's severity. -/
structure Rec where
  typ : Nat
  status : Nat
  tag : BitVec 16
  opcode : Nat
  part : Nat
  ctx : Nat
  tide : Word
  body : List Byte
  noIrq : Bool
  sev : Nat
  deriving DecidableEq, Repr, Inhabited

/-- A command packet in intake (R402). -/
structure IntakePkt where
  bytes : List Byte
  deriving DecidableEq, Repr, Inhabited

/-- How far a reset has come (R425, R426): its circuits drain, its tiles are zeroed, and of a destruction the
grant is zeroed. -/
inductive ResetSt where
  | draining | tiles | bands
  deriving DecidableEq, Repr, Inhabited

/-- How far a stress test has come (R318): it heats the tested regions; runs a round for the tiles of a bin, once the die
runs at the test bin; or waits until the operating point is restored. -/
inductive StressSt where
  | heating
  | tuning (bin : Nat)
  | round (bin : Nat)
  | restoring
  deriving DecidableEq, Repr, Inhabited

/-- A stress test that runs (R317 to R319): its tested sites, those still to be tested, those that have failed a round, the
failures that are to come, the target temperature, the regions found COOL, the bin to return to, and since when its present
stage runs. -/
structure Stress where
  tested : List Nat
  left : List Nat
  failed : List Nat
  fails : List (Nat × Nat)
  target : Nat
  cool : List Nat
  back : Nat
  since : Word
  stage : StressSt
  deriving DecidableEq, Repr, Inhabited

/-- What an ACCEPTED command still waits for. -/
inductive Work where
  /-- COPY_IN with the bytes applied so far; ciphertext gathers until the tag can be checked (R441, R480). -/
  | copyIn (c : CopyParams) (done : Nat) (got : List Byte)
  /-- COPY_OUT held by a drain (R209, R448). -/
  | copyOut (c : CopyParams)
  /-- FILL held by a drain (R209). -/
  | fill (dev len : Nat) (pattern : Word)
  /-- INSTALL_LICENCE with the bytes read so far (R464). -/
  | licence (addr len : Nat) (got : List Byte)
  /-- LOAD_KEY with the bytes read so far (R478). -/
  | envelope (kind addr len : Nat) (got : List Byte)
  /-- CREATE_PARTITION or SET_INTERLEAVE until zeroing ends (R327). -/
  | zero
  /-- RESET_PARTITION until every tile has been reset (R425). -/
  | resetTiles (st : ResetSt)
  /-- DESTROY_CONTEXT until its circuit entries hold no flit (R207, R426). -/
  | destroyCtx
  /-- DESTROY_PARTITION until tiles and bands are zeroed (R426). -/
  | destroy (st : ResetSt)
  /-- SWITCH_CONTEXT until the context is on the tiles (R440). -/
  | switchTo
  /-- LAUNCH until the launch ends (R424). -/
  | launch
  /-- PAUSE until every tile is paused (R442). -/
  | pause
  /-- RESUME until issue resumes (R442). -/
  | resume
  /-- ABORT until the LAUNCH COMPLETION is written (R442). -/
  | abort
  /-- DRAIN until slack water (R209). -/
  | drain (k : Scope)
  /-- RUN_STRESS_TEST until the operating point is restored (R318). -/
  | stress (x : Stress)
  deriving DecidableEq, Repr, Inhabited

/-- A command answered ACCEPTED whose COMPLETION is due (R403, R433). -/
structure Job where
  hdr : CmdHdr
  op : Nat
  work : Work
  /-- Its place in the order of acceptance. -/
  serial : Nat
  deriving DecidableEq, Repr, Inhabited

/-- A command that FENCE holds (R403): since when, and whether it has been answered ACCEPTED. -/
structure HeldCmd where
  cmd : Instr
  hdr : CmdHdr
  op : Nat
  since : Word
  accepted : Bool
  /-- Its place in the order of acceptance. -/
  serial : Nat
  deriving DecidableEq, Repr

/-- The harbour master's command state (R402, R403, R428, R506). -/
structure Hm where
  /-- Packets in intake, oldest first (R402); FREE of HM_INTAKE counts its room, 0x1_0000 units. -/
  intake : List IntakePkt
  /-- REFUSED of HM_INTAKE (R428), 16 bits; 0. -/
  refused : Nat
  /-- ACCEPTED commands whose COMPLETION is due, in acceptance order (R403). -/
  jobs : List Job
  /-- Commands held by FENCE (R403). -/
  held : List HeldCmd
  /-- Device reads outstanding, by host address and length (R399). -/
  reading : List (Nat × Nat)
  /-- The harbour master no longer runs (R506); 0. -/
  silent : Bool
  /-- The serial of the next command taken (the model's own order of R403). -/
  nextSerial : Nat
  deriving DecidableEq, Repr, Inhabited

/-- Command state with nothing in it. -/
def Hm.clear : Hm := { intake := [], refused := 0, jobs := [], held := [], reading := [], silent := false,
                       nextSerial := 0 }

/-- STATE of UCI_MODULE (R427). -/
inductive ModSt where
  | down | sidebandOnly | training | up | retraining | outOfService
  deriving DecidableEq, Repr, Inhabited

/-- UCI_MODULE[m] (R427). -/
structure UciModule where
  /-- RETRIES, 16 bits; 0. -/
  retries : Nat
  /-- WRITE_ERRORS, 16 bits; 0. -/
  writeErrors : Nat
  /-- REPAIRED, 8 bits; 0. -/
  repaired : Nat
  /-- SPEED, 2 bits; 0. -/
  speed : Nat
  /-- STATE; DOWN. -/
  state : ModSt
  /-- It left service in operation, not at training (R459); 0. -/
  lost : Bool
  deriving DecidableEq, Repr, Inhabited

/-- A module at reset. -/
def UciModule.clear : UciModule := ⟨0, 0, 0, 0, .down, false⟩

/-- A host transaction under way on the mesh (R400, R401): its module and tag, when it began and the limit, the
packets still to answer, and what has come back, by address. -/
structure HostPend where
  module : Nat
  tag : BitVec 16
  since : Word
  timeout : Nat
  isWrite : Bool
  due : Nat
  parts : SMap (List Byte)
  deriving DecidableEq, Repr, Inhabited

/-- The UCIe attachment and the reply ring (R397 to R406, R427). -/
structure Uci where
  /-- BASE of UCI_RING_BASE [63:12]; 0. -/
  ringBase : Nat
  /-- ENABLE of UCI_RING_BASE; 0. -/
  enable : Bool
  /-- SIZE_LOG2 of UCI_RING_BASE, 5 bits; 6. -/
  sizeLog2 : Nat
  /-- PRODUCER of UCI_RING_PTR, 16 bits; 0. -/
  producer : Nat
  /-- CONSUMER of UCI_RING_PTR, 16 bits; 0. -/
  consumer : Nat
  /-- PHASE of UCI_RING_PTR; 1. -/
  phase : Bool
  /-- RING_FULL of UCI_RING_PTR; 0. -/
  ringFull : Bool
  /-- ADDR of UCI_IRQ_ADDR, 64 bits; 0. -/
  irqAddr : Word
  /-- DATA of UCI_IRQ_CTRL, 32 bits; 0. -/
  irqData : Nat
  /-- ENABLE of UCI_IRQ_CTRL; 0. -/
  irqEnable : Bool
  /-- MODERATION of UCI_IRQ_CTRL, 8 bits; 2. -/
  moderation : Nat
  /-- A record written since the last interrupt asks for one (R406); 0. -/
  irqDue : Bool
  /-- The tide count of the last interrupt (R406). -/
  irqAt : Option Word
  /-- UCI_MODULE[0] to [3]. -/
  modules : SMap UciModule
  /-- Records that wait for room, oldest first, at most 256 (R405). -/
  backlog : List Rec
  /-- Records that may not be discarded and wait for the backlog (R503). -/
  waiting : List Rec
  /-- SEQ of the next record (R432), 16 bits; 0. -/
  recSeq : Nat
  /-- Host transactions without answer (R400). -/
  pend : List HostPend
  deriving DecidableEq, Repr, Inhabited

/-- The attachment at reset (R427). -/
def Uci.clear : Uci :=
  { ringBase := 0, enable := false, sizeLog2 := 6, producer := 0, consumer := 0, phase := true, ringFull := false,
    irqAddr := 0, irqData := 0, irqEnable := false, moderation := 2, irqDue := false, irqAt := none,
    modules := [], backlog := [], waiting := [], recSeq := 0, pend := [] }

/-! ### Security and faults -/

/-- An alarm source (R490, R492). -/
structure Alarm where
  /-- Triggers since power-on (R490), 32 bits; 0. -/
  count : Nat
  /-- RESPONSE; the fused default. -/
  response : Nat
  /-- The response last applied; none. -/
  applied : Option Nat
  /-- SEEN; 0. -/
  seen : Bool
  /-- Tide count of the first trigger; 0. -/
  firstAt : Word
  /-- Tide count of the last trigger; 0. -/
  lastAt : Word
  /-- Detail of the last trigger, 8 bytes; zero. -/
  detail : List Byte
  deriving DecidableEq, Repr, Inhabited

/-- A source that has not triggered. -/
def Alarm.clear (response : Nat) : Alarm := ⟨0, response, none, false, 0, 0, List.replicate 8 0⟩

/-- The Isaid block (chapter 16). -/
structure Sec where
  /-- Alarm sources 0 to 6. -/
  alarms : List Alarm
  /-- LAST_SOURCE of SEC_STATUS, 3 bits; 0. -/
  lastSource : Nat
  /-- LAST_RESPONSE of SEC_STATUS, 2 bits; 0. -/
  lastResponse : Nat
  /-- IDENTITY_OK of SEC_STATUS; 0. -/
  identityOk : Bool
  /-- The bring-up whose session keys exist (R474); none: SESSION_OK 0. -/
  session : Option Nat
  /-- The number that the next session takes from the entropy source (the model's own). -/
  nextSession : Nat
  /-- Tide counts of the failed unwraps of the present window (R479). -/
  unwraps : List Word
  /-- An alarm has been applied since power-on (R475); 0. -/
  everApplied : Bool
  /-- ERASE runs: zeroing is under way (R487); 0. -/
  erasing : Bool
  deriving DecidableEq, Repr, Inhabited

/-- The Isaid block at reset under the fused defaults (R485). -/
def Sec.clear (defaults : List Nat) : Sec :=
  { alarms := defaults.map Alarm.clear, lastSource := 0, lastResponse := 0, identityOk := false, session := none,
    nextSession := 0, unwraps := [], everApplied := false, erasing := false }

/-- STATE of a fault-log entry (R498). -/
inductive LogSt where
  | unhandled | handling | suspended | done
  deriving DecidableEq, Repr, Inhabited

/-- A fault-log entry (R498). -/
structure LogEntry where
  note : FaultNote
  st : LogSt
  repeats : Nat
  firstAt : Word
  lastAt : Word
  serial : Nat
  deriving DecidableEq, Repr, Inhabited

/-- The fault collector (R496 to R503, R511). -/
structure FaultLog where
  /-- Entries by index; none held. -/
  log : SMap (Option LogEntry)
  /-- The index after the last one written (R497); 0. -/
  next : Nat
  /-- Entries written since the log was cleared (R498); 0. -/
  serial : Nat
  /-- STORM of HM_FAULT_STATUS; 0. -/
  storm : Bool
  /-- HIGHEST of HM_FAULT_STATUS, 3 bits; 0. -/
  highest : Nat
  /-- EVENTS_DROPPED of HM_FAULT_STATUS, 16 bits; 0. -/
  dropped : Nat
  /-- FIXED_REFUSED of HM_FAULT_STATUS, 16 bits; 0. -/
  fixedRefused : Nat
  deriving DecidableEq, Repr, Inhabited

/-- A cleared log (R497). -/
def FaultLog.clear : FaultLog :=
  { log := [], next := 0, serial := 0, storm := false, highest := 0, dropped := 0, fixedRefused := 0 }

/-! ### Clocks and power -/

/-- A frequency change under way (R360, R362). -/
structure FreqChange where
  newBin : Nat
  oldBin : Nat
  mark : Word
  deriving DecidableEq, Repr, Inhabited

/-- A region's clock state (R366 to R369). -/
structure ClkRegion where
  /-- PROPOSAL of CLK_REGION, 7 bits; 0. -/
  proposal : Nat
  /-- REASON of CLK_REGION, 2 bits; 0. -/
  reason : Nat
  /-- STRETCHES of CLK_REGION, 8 bits; 0. -/
  stretches : Nat
  /-- SLIP of CLK_REGION, 16 bits; 0. -/
  slip : Nat
  /-- Stretched periods and half cycles lost in the present interval (R367); 0. -/
  nowStretches : Nat
  nowSlip : Nat
  /-- OSC_FAILED of CLK_REGION; 0. -/
  oscFailed : Bool
  /-- SKIP_SEEN of CLK_REGION; 0. -/
  skipSeen : Bool
  /-- STRETCH_SEEN of CLK_REGION; 0. -/
  stretchSeen : Bool
  /-- STRETCHES_TOTAL and SLIP_TOTAL of CLK_SLIP_TOTAL, 32 bits each; 0. -/
  stretchesTotal : Nat
  slipTotal : Nat
  /-- Tile cycles of the region begun in the present interval, and the active ones among them (R357, R364, R368); 0. -/
  cycles : Nat
  ran : Nat
  /-- The SKIP value in force for the present group of cycles (R364); 0. -/
  skipNow : Nat
  /-- Length of the latest run of stretched periods, those of them still to elapse, and the unstretched periods since, as
  far as R366 asks for them; a first stretch is not held back. -/
  run : Nat
  owed : Nat
  gap : Nat
  deriving DecidableEq, Repr, Inhabited

/-- A region's clock at reset (R369). -/
def ClkRegion.clear : ClkRegion :=
  { proposal := 0, reason := 0, stretches := 0, slip := 0, nowStretches := 0, nowSlip := 0, oscFailed := false,
    skipSeen := false, stretchSeen := false, stretchesTotal := 0, slipTotal := 0, cycles := 0, ran := 0, skipNow := 0,
    run := 0, owed := 0, gap := 56 }

/-- Clocks and the tide count (chapter 11). -/
structure Clk where
  /-- The tide count (R354), 64 bits; 0. -/
  tide : Word
  /-- The next tide mark not yet taken (R357); 4,096. -/
  nextMark : Word
  /-- FREQ_BIN of CLK_STATUS, 7 bits; 0. -/
  bin : Nat
  /-- BINDING of CLK_STATUS, 2 bits; 0. -/
  binding : Nat
  /-- The pending change, none: PENDING and CLK_PENDING 0 (R369). -/
  change : Option FreqChange
  /-- TARGET of CLK_TARGET, 64 bits; 0. -/
  target : Word
  /-- QUIESCENT of CLK_STATUS; 0. -/
  quiescent : Bool
  /-- STRESS of CLK_STATUS; 0. -/
  stress : Bool
  /-- MESH_LOCKED of CLK_STATUS; 0. -/
  meshLocked : Bool
  /-- REF_OK of CLK_STATUS; 0. -/
  refOk : Bool
  /-- RISE_CANCELLED of CLK_STATUS; 0. -/
  riseCancelled : Bool
  /-- POSITION of CLK_TIDE_PHASE, 6 bits; 0. -/
  position : Nat
  /-- STEPS of CLK_TIDE_PHASE, 32 bits two's complement; 0. -/
  steps : Int
  /-- The tide count of the last interpolator step (R281). -/
  stepAt : Option Word
  /-- BIN of CLK_CEILING, 7 bits; 0x40. -/
  ceiling : Nat
  /-- The ceiling that the next tide mark takes (R509). -/
  ceilingNext : Option Nat
  /-- The allowed bins of the last 16 tide marks, newest first (R360); none. -/
  allowed : List Nat
  /-- Region clocks. -/
  regions : SMap ClkRegion
  deriving DecidableEq, Repr, Inhabited

/-- Clocks at reset (R354, R369). -/
def Clk.clear : Clk :=
  { tide := 0, nextMark := 4096, bin := 0, binding := 0, change := none, target := 0, quiescent := false,
    stress := false, meshLocked := false, refOk := false, riseCancelled := false, position := 0, steps := 0,
    stepAt := none, ceiling := 0x40, ceilingNext := none, allowed := [], regions := [] }

/-- A heavy phase (R381, R382). -/
structure Heavy where
  start : Nat
  dur : Nat
  cls : Nat
  deriving DecidableEq, Repr, Inhabited

/-- PWR_RAIL[i] (R395) and the drop history of R385. -/
structure Rail where
  /-- Phases marked failed (R385), by number. -/
  failed : List Nat
  /-- Regulator phases active on a VLOG rail (R380, R383); 0. -/
  phasesOn : Nat
  /-- SETTING, 12 bits; 0. -/
  setting : Nat
  /-- CURRENT, 16 bits; 0. -/
  current : Nat
  /-- SHORT; 0. -/
  short : Bool
  /-- ABNORMAL_DROP; 0. -/
  abnormal : Bool
  /-- PHASE_FAILED; 0. -/
  phaseSeen : Bool
  /-- OFF; 0. -/
  off : Bool
  /-- LOW_MARGIN; 0. -/
  lowMargin : Bool
  /-- Successive tide marks with an excess above 15 mV and above 40 mV (R385); 0. -/
  marks15 : Nat
  marks40 : Nat
  deriving DecidableEq, Repr, Inhabited

/-- A rail at reset (R395). -/
def Rail.clear : Rail :=
  { failed := [], phasesOn := 0, setting := 0, current := 0, short := false, abnormal := false, phaseSeen := false, off := false,
    lowMargin := false, marks15 := 0, marks40 := 0 }

/-- PWR_REGION[r] (R395) and the region's controls. -/
structure PwrRegion where
  /-- Region temperature in °C (R387); 0. -/
  temp : Int
  /-- SKIP_POWER, 6 bits; 0. -/
  skipPower : Nat
  /-- SKIP_THERMAL, 6 bits; 0. -/
  skipThermal : Nat
  /-- Reservoir banks that have fired and recharge (R379); 0. BANKS_ARMED counts the others. -/
  fired : Nat
  /-- CLASS and HEAVY of the heavy phase in force; none. -/
  heavy : Option Nat
  /-- UNHERALDED, 16 bits; 0. -/
  unheralded : Nat
  /-- FIRINGS of the last interval, 8 bits; 0. -/
  firings : Nat
  /-- Firings in the present interval (R379); 0. -/
  nowFirings : Nat
  /-- THERMAL_OFF; 0. -/
  thermalOff : Bool
  /-- The region has reached 110 °C and its VLOG is to go off (R388); 0. -/
  heatDue : Bool
  /-- HOT_SEEN; 0. -/
  hotSeen : Bool
  /-- OFF_SEEN; 0. -/
  offSeen : Bool
  /-- UNHERALDED_SEEN; 0. -/
  unheraldedSeen : Bool
  /-- FIRED_SEEN; 0. -/
  firedSeen : Bool
  /-- Tide marks for which an unheralded surge still holds full margin (R384); 0. -/
  surgeHold : Nat
  /-- Ageing offset A in units of 5 mV (R374, R457); 0. -/
  ageing : Nat
  /-- Tide marks before the ageing offset may rise again (R374); 0. -/
  ageWait : Nat
  /-- Hottest temperature of the telemetry window (R390); 0. -/
  windowTemp : Int
  /-- Its tiles are reset when VLOG returns (R396); 0. -/
  resetDue : Bool
  deriving DecidableEq, Repr, Inhabited

/-- A region at reset (R395). -/
def PwrRegion.clear : PwrRegion :=
  { temp := 0, skipPower := 0, skipThermal := 0, fired := 0, heavy := none, unheralded := 0, firings := 0,
    nowFirings := 0, thermalOff := false, heatDue := false, hotSeen := false, offSeen := false,
    unheraldedSeen := false, firedSeen := false, surgeHold := 0, ageing := 0, ageWait := 0, windowTemp := 0,
    resetDue := false }

/-- Telemetry streaming (R390). -/
structure Telem where
  /-- The mode: STREAMING of PWR_STATUS; 0. -/
  on : Bool
  ring : Nat
  records : Nat
  interval : Nat
  /-- PRODUCER of PWR_TELEM_PTR, 16 bits; 0. -/
  producer : Nat
  /-- CONSUMER of PWR_TELEM_PTR, 16 bits; 0. -/
  consumer : Nat
  /-- The next record's sequence number; 0. -/
  seq : Nat
  /-- A record was dropped since the last one written; 0. -/
  lost : Bool
  /-- Records written and dropped since the last TELEMETRY event; 0. -/
  sinceEvent : Nat
  droppedSince : Bool
  /-- The tide count at which the present window ends (R390); 0. -/
  windowEnd : Nat
  deriving DecidableEq, Repr, Inhabited

/-- Streaming off (R390). -/
def Telem.clear : Telem :=
  { on := false, ring := 0, records := 0, interval := 0, producer := 0, consumer := 0, seq := 0, lost := false,
    sinceEvent := 0, droppedSince := false, windowEnd := 0 }

/-- Power, heat and energy (chapter 12). Energy in fJ. -/
structure Pwr where
  /-- CAP of PWR_CAP, 16 bits; 0x2710. -/
  cap : Nat
  /-- The cap that the next tide mark takes (R375). -/
  capNext : Option Nat
  /-- EFFECTIVE of PWR_CAP, 16 bits; 0. -/
  effective : Nat
  /-- VIN of PWR_INPUT, 16 bits; 0. -/
  vin : Nat
  /-- IIN of PWR_INPUT, 16 bits; 0. -/
  iin : Nat
  /-- PIN of PWR_INPUT, 16 bits; 0. -/
  pin : Nat
  /-- INPUT_LIMITED of PWR_STATUS; 0. -/
  inputLimited : Bool
  /-- HINTED of PWR_STATUS; 0. -/
  hinted : Bool
  /-- The hinted mode that the next tide mark takes (R509). -/
  hintedNext : Option Bool
  /-- CAP_UNMET of PWR_STATUS; 0. -/
  capUnmet : Bool
  /-- MODEL_DRIFT of PWR_STATUS; 0. -/
  modelDrift : Bool
  /-- SHARES_OVER of PWR_STATUS, 4 bits; 0. -/
  sharesOver : Nat
  /-- Successive tide marks over its limit at full strength (R378), for each share of R375: r for region r's logic, 20 + r
  for its memory arrays, 40 for the memory interface, 41 for the links; 0. -/
  overMarks : SMap Nat
  /-- The fraction of cycles in which HBM requests are admitted, in units of 1/65,536 (R377); 65,536. -/
  memAdmit : Nat
  /-- The fraction of link data positions used, in units of 1/65,536 (R377); 65,536. -/
  linkAdmit : Nat
  /-- Telemetry (R390). -/
  telem : Telem
  /-- PWR_RAIL[0] to [44]. -/
  rails : SMap Rail
  /-- PWR_VMIN[0] to [44] (R391): MIN in 0.1 mV and TIDE; 0xFFFF and 0. -/
  vmins : SMap (Nat × Nat)
  /-- PWR_REGION[0] to [19]. -/
  regions : SMap PwrRegion
  /-- Hottest sensor of each edge group (R387). -/
  edges : SMap Int
  /-- Heavy phases by partition (R382). -/
  phases : SMap (List Heavy)
  /-- Activity counted since the last tide mark (R392): 16 × context + kind; 160 stands for no context. -/
  counts : SMap Nat
  /-- Energy totals in fJ (R394): attributed, unattributed, device overhead, measured rails, loss; 0. -/
  attributed : Nat
  unattributed : Nat
  overhead : Nat
  railEnergy : Nat
  lossEnergy : Nat
  /-- The modelled total at the last comparison, and windows in disagreement (R394); 0. -/
  modelledAt : Nat
  driftRun : Nat
  /-- The tide count at which the present window of R394 ends; 100,000,000. -/
  driftEnd : Nat
  deriving DecidableEq, Repr, Inhabited

/-- Power at reset (R375, R395). -/
def Pwr.clear : Pwr :=
  { cap := 0x2710, capNext := none, effective := 0, vin := 0, iin := 0, pin := 0, inputLimited := false,
    hinted := false, hintedNext := none, capUnmet := false, modelDrift := false, sharesOver := 0,
    overMarks := [], memAdmit := 65536, linkAdmit := 65536, telem := Telem.clear, rails := [],
    vmins := [], regions := [], edges := [], phases := [], counts := [], attributed := 0, unattributed := 0, overhead := 0,
    railEnergy := 0, lossEnergy := 0, modelledAt := 0, driftRun := 0,
    driftEnd := 100000000 }

/-! ### Fabric and network -/

/-- STATE of FAB_LINK_STATUS (R290). -/
inductive LinkSt where
  | absent | down | training | up | retraining | failed | miswired | idle
  deriving DecidableEq, Repr, Inhabited

/-- A flit that a transmitting link die holds (R257, R259), whether the die's upper router fed it (R267), and the context
for which it is counted (R392). -/
structure TxFlit where
  data : List Byte
  tag : BitVec 16
  lseq : BitVec 16
  upper : Bool
  own : Nat
  deriving DecidableEq, Repr, Inhabited

/-- A flit of a circuit (R189, R203): its 256 bytes, HEAD and TAIL, and a parity error (R299). -/
structure CFlit where
  data : List Byte
  head : Bool
  tail : Bool
  bad : Bool
  deriving DecidableEq, Repr, Inhabited

/-- A whole free packet that waits at the link die on which it arrived (R201, R270): its link virtual channel and its
flits. -/
structure Arrival where
  vc : Nat
  pkt : Packet
  flits : Nat
  deriving DecidableEq, Repr, Inhabited

/-- A link die (R252 to R260, R268, R275, R280, R290). -/
structure Link where
  state : LinkSt
  /-- PEER and PEER_VALID, 15 bits; 0. -/
  peer : Option (BitVec 15)
  /-- DELAY, 16 bits; 0. -/
  delay : BitVec 16
  /-- The last 16 delay values, newest first, in 1/65,536 of a count (R280). -/
  delays : List Int
  /-- SPEED, 2 bits; 0. -/
  speed : Nat
  /-- WIDTH, 2 bits; 0. -/
  width : Nat
  /-- FEC_CORR, 24 bits; 0. -/
  fecCorr : Nat
  /-- FEC_UNCORR, 8 bits; 0. -/
  fecUncorr : Nat
  /-- REPLAYS, 8 bits; 0. -/
  replays : Nat
  /-- RETRAINS, 4 bits; 0. -/
  retrains : Nat
  /-- LOOP, 4 bits; 0. -/
  loop : Nat
  /-- STALE_RGEN, 8 bits; 0. -/
  stale : Nat
  /-- UNREACH, 8 bits; 0. -/
  unreach : Nat
  /-- LSEQ of the next flit to send, and of the next flit expected (R256, R259); 0. -/
  txSeq : BitVec 16
  rxSeq : BitVec 16
  /-- The replay buffer, oldest first (R259). -/
  unacked : List TxFlit
  /-- Flits that wait for credit or for room in the replay buffer (R257). -/
  queue : List TxFlit
  /-- A replay request of this receiver is out (R259). -/
  askReplay : Bool
  /-- Replays asked of the peer for the present LSEQ (R260); 0. -/
  asks : Nat
  /-- The LSEQ of the last replay asked of this transmitter, and how often in succession (R260). -/
  replayed : Option (BitVec 16 × Nat)
  /-- The next link flit position, modulo 32 (R257); 0. -/
  position : Nat
  /-- Flits sent on the two link virtual channels and by circuit entry, and the totals of credit heard from the peer
  (R258, R268, R275), modulo 2^16; 0. -/
  sentVc : List (BitVec 16)
  limitVc : List (BitVec 16)
  sentSched : SMap (BitVec 16)
  limitSched : SMap (BitVec 16)
  /-- Received flits that have left the die's buffers, by link virtual channel and by circuit entry (R258, R275), modulo
  2^16; 0. -/
  leftVc : List (BitVec 16)
  leftSched : SMap (BitVec 16)
  /-- The crossing circuit entry with which the next control flit's returns begin (R258); 0. -/
  ctlFrom : Nat
  /-- Received flits of packets not yet whole, by flit tag without HEAD and TAIL. -/
  pieces : SMap (List Byte)
  /-- Whole free packets that wait at the link die for RELEASE or for room in its router (R201, R270). -/
  held : List Arrival
  /-- The scheduled pool (R275): flits by circuit entry, with whether they go to the upper router. -/
  pool : SMap (List (Bool × CFlit))
  /-- T_TX and arrival time of the last beacon received (R279). -/
  lastBeacon : Option (Int × Int)
  deriving DecidableEq, Repr, Inhabited

/-- A link die in a state, with its counters zero and nothing sent (R290). -/
def Link.fresh (st : LinkSt) : Link :=
  { state := st, peer := none, delay := 0, delays := [], speed := 0, width := 0, fecCorr := 0, fecUncorr := 0,
    replays := 0, retrains := 0, loop := 0, stale := 0, unreach := 0, txSeq := 0, rxSeq := 0, unacked := [],
    queue := [], askReplay := false, asks := 0, replayed := none, position := 0, sentVc := [0, 0], limitVc := [0, 0],
    sentSched := [], limitSched := [], leftVc := [0, 0], leftSched := [], ctlFrom := 0, pieces := [], held := [],
    pool := [], lastBeacon := none }

/-- The tile digests of one STEP_SEQ that the step collector holds (R287, R288). -/
structure Collect where
  stepSeq : Nat
  part : Nat
  ctx : Nat
  digests : SMap (List Byte)
  since : Word
  timeout : Nat
  deriving DecidableEq, Repr, Inhabited

/-- A record that a server port has not acknowledged (R289). -/
structure Export where
  port : Nat
  seq : BitVec 24
  since : Word
  timeout : Nat
  deriving DecidableEq, Repr, Inhabited

/-- The fabric (chapter 08). -/
structure Fab where
  /-- RGEN of FAB_CONFIG, 4 bits; 0. -/
  rgen : BitVec 4
  /-- PAIR_EN of FAB_CONFIG; 0. -/
  pairEn : Bool
  /-- PAIR_SIDE of FAB_CONFIG; 0. -/
  pairSide : Bool
  /-- WRAP_X, WRAP_Y, WRAP_Z of FAB_CONFIG; 0. -/
  wrapX : Bool
  wrapY : Bool
  wrapZ : Bool
  /-- SX, SY, SZ (XSIZE_M1, YSIZE_M1, ZSIZE_M1 of FAB_CONFIG, 5 bits each; 0). -/
  sx : Nat
  sy : Nat
  sz : Nat
  /-- TIDE_ROOT of FAB_CONFIG, 15 bits; 0. -/
  root : BitVec 15
  /-- SELF of FAB_CONFIG, 15 bits; 0. -/
  self : BitVec 15
  /-- FAB_DIR[0] to [2], 64 bits each; 0xFFFF_FFFF_FFFF_FFFC. -/
  dirX : Word
  dirY : Word
  dirZ : Word
  /-- A WRITE_ROUTES awaits its RELEASE (R269); 0. -/
  routesWritten : Bool
  /-- Link dies L0 to L7. -/
  links : SMap Link
  /-- LOCKED of FAB_TIDE_STATUS; 0. -/
  locked : Bool
  /-- ROOT of FAB_TIDE_STATUS; 0. -/
  isRoot : Bool
  /-- TIDE_LOST of FAB_TIDE_STATUS; 0. -/
  tideLost : Bool
  /-- OFFSET_LARGE of FAB_TIDE_STATUS; 0. -/
  offsetLarge : Bool
  /-- PARENT of FAB_TIDE_STATUS; none, 0xF. -/
  parent : Option Nat
  /-- DEPTH of FAB_TIDE_STATUS, 8 bits; 0. -/
  depth : Nat
  /-- OFFSET of FAB_TIDE_STATUS, 16 bits; 0. Kept in 1/65,536 of a count. -/
  offset : Int
  /-- Tide marks for which |e| has stayed below 1/8 (R281); 0. -/
  lockMarks : Nat
  /-- Parent beacons missed in succession (R283), and whether one came since the last mark; 0. -/
  missed : Nat
  beaconSeen : Bool
  /-- A first parent beacon has been received since routes were written (R281); 0. -/
  beaconed : Bool
  /-- VALID of FAB_EXPORT[0] and [1]; 0. -/
  exportA : Bool
  exportB : Bool
  /-- BASE of FAB_EXPORT[0] and [1], 48 bits; 0. -/
  baseA : Nat
  baseB : Nat
  /-- LOST of FAB_EXPORT[0] and [1], 8 bits; 0. -/
  lostA : Nat
  lostB : Nat
  /-- The step collector's digests (R288), and the STEP_SEQ records already formed. -/
  collects : List Collect
  formed : List (Nat × Nat × Nat)
  /-- Records sent and not acknowledged (R289). -/
  records : List Export
  deriving DecidableEq, Repr, Inhabited

/-- The fabric at reset (R290). -/
def Fab.clear : Fab :=
  { rgen := 0, pairEn := false, pairSide := false, wrapX := false, wrapY := false, wrapZ := false, sx := 1, sy := 1,
    sz := 1, root := 0, self := 0, dirX := 0xFFFFFFFFFFFFFFFC, dirY := 0xFFFFFFFFFFFFFFFC,
    dirZ := 0xFFFFFFFFFFFFFFFC, routesWritten := false, links := [], locked := false, isRoot := false,
    tideLost := false, offsetLarge := false, parent := none, depth := 0, offset := 0, lockMarks := 0, missed := 0,
    beaconSeen := false, beaconed := false, exportA := false, exportB := false, baseA := 0, baseB := 0,
    lostA := 0, lostB := 0, collects := [], formed := [], records := [] }

/-- A router (R182, R207, R212, R504). -/
structure Router where
  /-- BYPASSED of NET_ROUTER_STATUS; 0. -/
  bypassed : Bool
  /-- The router has failed in service (R504); 0. -/
  failed : Bool
  /-- NET_CIRCUIT[0] to [255], 64 bits each; 0. -/
  circuits : SMap Word
  /-- NET_CIRCUIT_SLOTS[0] to [255], 64 bits each; 0. -/
  slots : SMap Word
  /-- Circuit flits that wait at an entry's input port to enter it (R206): of a MOVEC or a multicast at its own tile. -/
  feeds : SMap (List CFlit)
  /-- The buffers of the circuit entries, 2 flits each (R204). -/
  buffers : SMap (List CFlit)
  /-- Circuit entries that discard the rest of a packet whose header check failed (R188). -/
  discards : List Nat
  /-- Flits of a circuit's packet that the tile port has delivered, until the last one (R203, R206). -/
  arriving : SMap (List CFlit)
  /-- LATE_SEEN of NET_ROUTER_STATUS; 0. -/
  lateSeen : Bool
  /-- HCRC_SEEN of NET_ROUTER_STATUS; 0. -/
  hcrcSeen : Bool
  /-- DROP_SEEN of NET_ROUTER_STATUS; 0. -/
  dropSeen : Bool
  /-- LATE_ACK of NET_DROP_COUNT, 16 bits; 0. -/
  lateAck : BitVec 16
  /-- BAD_HEADER of NET_DROP_COUNT, 16 bits; 0. -/
  badHeader : BitVec 16
  /-- AT_TILE of NET_DROP_COUNT, 16 bits; 0. -/
  atTile : BitVec 16
  /-- AT_ATTACH of NET_DROP_COUNT, 16 bits; 0. -/
  atAttach : BitVec 16
  deriving DecidableEq, Repr, Inhabited

/-- A router at reset (R207, R212). -/
def Router.clear : Router :=
  { bypassed := false, failed := false, circuits := [], slots := [], feeds := [], buffers := [], discards := [],
    arriving := [], lateSeen := false, hcrcSeen := false,
    dropSeen := false, lateAck := 0, badHeader := 0, atTile := 0, atAttach := 0 }

/-- State of a scope of slack water (R209, R212). -/
inductive ScopeSt where
  | draining | slack
  deriving DecidableEq, Repr, Inhabited

/-- A scope that is not RUNNING (R208 to R210): when its DRAIN times out, and whether it has. -/
structure ScopeRec where
  scope : Scope
  st : ScopeSt
  deadline : Word
  timedOut : Bool
  deriving DecidableEq, Repr, Inhabited

/-- Where a packet in flight lies: in a router's buffers on its way, or at its destination router waiting for
the tile or the attachment to take it (R190, R201). -/
inductive Spot where
  | router (site : Nat) (inPort : Nat)
  | dest (site : Nat) (port : Nat)
  deriving DecidableEq, Repr, Inhabited

/-- A packet in flight on the mesh: its free-class virtual channel (R191), and the port of its router whose input buffer
holds it (R201). -/
structure Flight where
  pkt : Packet
  place : Spot
  vc : Nat
  via : Nat
  deriving DecidableEq, Repr, Inhabited

/-- The on-die network (chapter 06). -/
structure Net where
  /-- Routers by site. -/
  routers : SMap Router
  /-- Scopes of slack water not RUNNING (NET_SW_STATUS); none. -/
  scopes : List ScopeRec
  /-- ACK_TIMEOUT of NET_CONFIG, 5 bits; 20. -/
  ackTimeout : Nat
  /-- The value that the next tide mark takes (R509). -/
  ackNext : Option Nat
  /-- Packets in flight, oldest first. -/
  inFlight : List Flight
  deriving DecidableEq, Repr, Inhabited

/-- The network at reset (R212). -/
def Net.clear : Net := { routers := [], scopes := [], ackTimeout := 20, ackNext := none, inFlight := [] }

/-! ### Memory -/

/-- STATE of HBM_STACK (R346). -/
inductive StackSt where
  | absent | training | inService | outOfService | failed
  deriving DecidableEq, Repr, Inhabited

/-- HBM_STACK[k] and HBM_ERRORS[k] (R346). -/
structure Stack where
  state : StackSt
  /-- TEMP, 8 bits; 0. -/
  temp : Nat
  /-- REPAIRED, 8 bits; 0. -/
  repaired : Nat
  /-- CORRECTED, 16 bits; 0. -/
  corrected : Nat
  /-- UNCORRECTED, 8 bits; 0. -/
  uncorrected : Nat
  /-- SHELF_MISMATCH, 8 bits; 0. -/
  shelfMismatch : Nat
  /-- REFUSED, 8 bits; 0. -/
  refused : Nat
  /-- OUT_OF_GRANT, 8 bits; 0. -/
  outOfGrant : Nat
  /-- PATROL_PASSES, 16 bits; 0. -/
  patrolPasses : Nat
  /-- Uncorrectable transfers met since the last tide mark (R338); 0. -/
  markUncorrected : Nat
  deriving DecidableEq, Repr, Inhabited

/-- A stack site in a state, with its counters zero. -/
def Stack.fresh (st : StackSt) : Stack := ⟨st, 0, 0, 0, 0, 0, 0, 0, 0, 0⟩

/-- An error in a stored transfer (R334). -/
inductive CellErr where
  | single | double
  deriving DecidableEq, Repr, Inhabited

/-- The key and the tweak under which a transfer is stored (R339). -/
structure KeyTag where
  key : List Byte
  tweak : Nat
  deriving DecidableEq, Repr, Inhabited

/-- The HBM stacks (chapter 10). Addresses are stack × 2^37 + offset; a transfer is 32 bytes, a block 4 KiB. -/
structure Hbm where
  /-- PATROL_EN of HBM_CONFIG; 1. -/
  patrolEn : Bool
  /-- PATROL_HOURS of HBM_CONFIG, 8 bits; 0x18. -/
  patrolHours : Nat
  /-- The value that the next tide mark takes (R509). -/
  hoursNext : Option Nat
  /-- Stack sites 0 to 23. -/
  hbmStacks : SMap Stack
  /-- The bytes stored, as plaintext; zero where none is listed (R327). -/
  mem : Memory
  /-- Keys and tweaks of transfers stored encrypted (R339), by transfer. -/
  keyed : SMap (Option KeyTag)
  /-- Errors in stored transfers, by transfer (R334). -/
  errs : SMap (Option CellErr)
  /-- Check shelf entries by block (R335); the CRC-32C of a zero block where none is listed (R327). -/
  shelf : SMap (BitVec 32)
  /-- Keys and tweaks of shelf transfers stored encrypted (R339), by shelf transfer of 8 entries. -/
  shelfKeyed : SMap (Option KeyTag)
  /-- The transfer of each stack with which patrol scrub goes on (R337); 0. -/
  patrolAt : SMap Nat
  deriving DecidableEq, Repr, Inhabited

/-- The memory at reset (R346). -/
def Hbm.clear : Hbm :=
  { patrolEn := true, patrolHours := 0x18, hoursNext := none, hbmStacks := [], mem := [], keyed := [], errs := [],
    shelf := [], shelfKeyed := [], patrolAt := [] }

/-! ### Partitions and contexts -/

/-- A grant of bands (R326, R328). -/
structure Grant where
  isLocal : Bool
  /-- The stacks of an interleaved grant, ascending (R328). -/
  hbmStacks : List Nat
  first : Nat
  count : Nat
  /-- First band and count of each stack's run in a local grant. -/
  runs : List (Nat × Nat)
  deriving DecidableEq, Repr, Inhabited

/-- No bands. -/
def Grant.none : Grant := ⟨false, [], 0, 0, []⟩

/-- A switch under way (R413, R415): the context that leaves, the one that comes, when it was begun and
when issue had stopped, and whether the incoming context has been read back, with the bytes moved. -/
structure Switch where
  outgoing : Option Nat
  incoming : Nat
  stopped : Option Word
  moved : Option Nat
  deriving DecidableEq, Repr, Inhabited

/-- A partition (R409, R410, R428, R492). -/
structure Partn where
  /-- VALID of HM_PARTITION; 0. -/
  valid : Bool
  /-- C0, C1, R0, R1 of HM_PARTITION; 0. -/
  c0 : Nat
  c1 : Nat
  r0 : Nat
  r1 : Nat
  /-- CONFIDENTIAL of HBM_PART and SEC_PART; 0. -/
  confidential : Bool
  /-- Check level (R302), 2 bits; 0. -/
  level : Nat
  /-- QUANTUM of HM_PARTITION, 16 bits; 50. -/
  quantum : Nat
  /-- The quantum that the next tide mark takes (R509). -/
  quantumNext : Option Nat
  /-- The quantum of the running context, when it last went on RUNNING, and the tide counts of it used before (R414). -/
  quantumRun : Nat
  quantumFrom : Word
  quantumUsed : Word
  /-- RUNNING and HAS_RUNNING of HM_PARTITION; none. -/
  running : Option Nat
  /-- SWITCHING of HM_PARTITION; none. -/
  switching : Option Switch
  /-- The tenant identifier of the context that was last on the tiles (R415); none. -/
  lastTenant : Option Word
  /-- A switch that waits for a region off for heat or for the quiescent window (R396, R420). -/
  switchDue : Option Nat
  /-- HBM key of 64 bytes (R339); none: KEY_LOADED and HBM_KEY 0. -/
  hbmKey : Option (List Byte)
  /-- Transfer key of 32 bytes (R480); none: TRANSFER_KEY 0. -/
  xferKey : Option (List Byte)
  /-- The last nonce accepted under the transfer key (R481); 0. -/
  lastNonce : Nat
  /-- SWITCH_KEY of SEC_PART (R419); 0. -/
  switchKey : Bool
  /-- Base and entry count of the channel table (R214); none installed. -/
  chBase : Nat
  chCount : Nat
  /-- The HBM grant (HBM_PART, HBM_GRANT); none. -/
  grant : Grant
  /-- The grant's bands are being zeroed and map nothing (R327, R347); 0. -/
  zeroing : Bool
  deriving DecidableEq, Repr, Inhabited

/-- A partition that does not exist (R428). -/
def Partn.none : Partn :=
  { valid := false, c0 := 0, c1 := 0, r0 := 0, r1 := 0, confidential := false, level := 0, quantum := 50,
    quantumNext := .none, quantumRun := 50, quantumFrom := 0, quantumUsed := 0, running := .none, switching := .none, lastTenant := .none,
    switchDue := .none, hbmKey := .none, xferKey := .none, lastNonce := 0, switchKey := false, chBase := 0,
    chCount := 0, grant := Grant.none, zeroing := false }

/-- STATE of HM_CONTEXT (R412). -/
inductive CtxSt where
  | none | idle | loading | running | ready | paused
  deriving DecidableEq, Repr, Inhabited

/-- A placement record of a stowage plan (R421). -/
structure PlaceRec where
  site : Nat
  entry : Nat
  moors : List Moor
  work : List (Nat × Nat)
  /-- Every byte that R421 gives no field is zero, and the counts are in range. -/
  good : Bool
  deriving DecidableEq, Repr, Inhabited

/-- A load record of a stowage plan (R421). -/
structure LoadRec where
  site : Nat
  once : Bool
  src : Nat
  row : Nat
  len : Nat
  good : Bool
  deriving DecidableEq, Repr, Inhabited

/-- A stowage plan as LAUNCH reads it (R421). -/
structure Plan where
  addr : Nat
  start : Word
  length : Nat
  places : List PlaceRec
  circuits : List CircuitRec
  chans : List (Nat × List Byte)
  loads : List LoadRec
  good : Bool
  deriving DecidableEq, Repr, Inhabited

/-- A launch: its plan, argument and start (R422, R423), and the check level that its partition held then (R302). -/
structure Launch where
  plan : Plan
  arg : Word
  start : Word
  level : Nat
  deriving DecidableEq, Repr, Inhabited

/-- How a context has ended (R424): the status, the cause and the site that raised it. -/
structure Ending where
  status : Nat
  cause : Nat
  site : Nat
  started : Bool
  deriving DecidableEq, Repr, Inhabited

/-- A trace that runs (R447). -/
structure Trace where
  kinds : Nat
  buf : Nat
  len : Nat
  written : Nat
  deriving DecidableEq, Repr, Inhabited

/-- A context (R412 to R424, R428, R447). -/
structure Ctxt where
  /-- STATE of HM_CONTEXT; NONE. -/
  state : CtxSt
  /-- Tenant identifier (R412), 64 bits; 0. -/
  tenant : Word
  /-- DEBUG of SEC_PART; 0. -/
  debug : Bool
  /-- Its tiles hold it: RUNNING, or PAUSED on the tiles (R412); 0. -/
  onTiles : Bool
  /-- It is paused by PAUSE, and for heat by R388; 0. -/
  userPause : Bool
  heatPause : Bool
  /-- The launch in progress (R422, R424); none. -/
  launch : Option Launch
  /-- How the context has ended, until its COMPLETION is written (R424); none. -/
  ending : Option Ending
  /-- SWITCHES of HM_CONTEXT, 32 bits; 0. -/
  switches : BitVec 32
  /-- V of R418 in bytes; VOLUME of HM_CONTEXT counts it; 0. -/
  volume : Nat
  /-- Bands of the save area as stack and band (R419); none. -/
  saveArea : List (Nat × Nat)
  /-- Tiles switched out to the save area, by site (R416, R417); none. -/
  saved : SMap (Option Tile)
  /-- Energy since CREATE_CONTEXT in fJ (R394); 0. -/
  energy : Nat
  /-- The trace that runs (R447); none. -/
  trace : Option Trace
  deriving DecidableEq, Repr, Inhabited

/-- A context that does not exist (R412, R428). -/
def Ctxt.none : Ctxt :=
  { state := .none, tenant := 0, debug := false, onTiles := false, userPause := false, heatPause := false,
    launch := .none, ending := .none, switches := 0, volume := 0, saveArea := [], saved := [], energy := 0,
    trace := .none }

/-- The I3C target of the module power controller (R524 to R526). -/
structure I3c where
  /-- The dynamic address; none: static 0x2A. -/
  addr : Option (BitVec 7)
  /-- In-band interrupts are enabled; 0. -/
  ibi : Bool
  /-- The management record, 64 bytes; zero before the first refresh. -/
  record : List Byte
  deriving DecidableEq, Repr, Inhabited

/-- The target as the input is applied. -/
def I3c.clear : I3c := ⟨none, false, List.replicate 64 0⟩

end Sys2Proof.Machine
end

