-- ==== Sys2Proof/Machine/State.lean ====
section
/-! DEFINITION. The state of the block, the reasons a step can stop, and the state after reset. -/

namespace Sys2Proof.Machine

/-- Why a command stops the model. -/
inductive Fault where
  /-- Raised by a command whose operand names a site, region, rail, stack, link die, module, partition,
  sensor, tile or port beyond those that R16, R17, R21, R323, R372, R397 and R409 number. Safe: no such unit
  exists on the die. -/
  | noSuchUnit
  deriving DecidableEq, Repr, Inhabited

/-- Why the model gives a command no meaning. -/
inductive Refusal where
  /-- Raised by an arm of `exec` whose command has no meaning yet. Safe: the run ends. -/
  | notModelled (mnemonic : String)
  deriving DecidableEq, Repr, Inhabited

/-- The state of the block. -/
structure State where
  /-- Module facts and fuses (R1 to R4, R470). -/
  facts : ModuleFacts
  /-- Board signals and supplies (R513 to R521). -/
  pins : Pins
  /-- Bring-up, image, licences and floor plan (chapter 15). -/
  bring : Bring
  /-- Commands (R402, R403, R428). -/
  hm : Hm
  /-- Host attachment and reply ring (R397 to R406, R427). -/
  uci : Uci
  /-- The Isaid block (chapter 16). -/
  sec : Sec
  /-- The fault collector (chapter 17). -/
  faults : FaultLog
  /-- Clocks and the tide count (chapter 11). -/
  clk : Clk
  /-- Power, heat and energy (chapter 12). -/
  pwr : Pwr
  /-- The fabric (chapter 08). -/
  fab : Fab
  /-- The on-die network (chapter 06). -/
  net : Net
  /-- HBM (chapter 10). -/
  hbm : Hbm
  /-- Partitions 0 to 19 (R409). -/
  parts : SMap Partn
  /-- Contexts by 8p + c (R412). -/
  ctxs : SMap Ctxt
  /-- Tiles by site (chapters 03 to 05, 07, 09). -/
  tiles : SMap Tile
  /-- The I3C target (R524). -/
  i3c : I3c
  /-- What the device has sent, oldest first. -/
  out : List Out
  /-- The model's own counter for free values (log entry 20). -/
  freeCtr : Nat
  /-- Commands that wait, oldest first. -/
  pending : List Instr
  deriving DecidableEq, Repr

/-- The production fusing of R485, with every fuse that R470 leaves to manufacture zero (log entry 18). -/
def Fuses.production : Fuses :=
  { rootRsa := 0, rootSlh := 0, seed := 0, secver := 0, floors := [2, 1, 1, 0, 2, 0, 1],
    defaults := [2, 2, 2, 1, 2, 1, 1], terminalEn := false, secureDebug := true, identityEnd := false }

/-- The flagship of R2 with no site disabled and every site fused at bin 76 (log entry 18). -/
def ModuleFacts.flagship : ModuleFacts :=
  { hbmStacks := 24, linkDies := 8, grade := 0, stepping := 0, serial := 0, disabled := [], fusedBins := [],
    fuses := Fuses.production }

/-- A module with no input applied and RESET_N low (R519, R521). -/
def Pins.unpowered : Pins :=
  { refclk := true, resetN := false, pwrgd := false, alarmLow := false, tripLow := false, input := 0, vlnk := false,
    railsOn := false, latchedOff := false }

/-- Stack sites that a variant fits (R2). -/
def stackFitted (f : ModuleFacts) (k : Nat) : Bool :=
  match f.hbmStacks with
  | 24 => decide (k < 24)
  | 16 => decide (1 ≤ k ∧ k ≤ 8) || decide (11 ≤ k ∧ k ≤ 18)
  | _ => (decide (k < 20) && decide (k % 2 = 0)) || decide (k = 20) || decide (k = 21)

/-- Stack sites at reset (R346): TRAINING where fitted, ABSENT elsewhere. -/
def stacksAtReset (f : ModuleFacts) : SMap Stack :=
  ((List.range 24).filter (stackFitted f)).map (fun k => (k, Stack.fresh .training))

/-- The state that RESET_N leaves (R454, R519): of what was, only the count of failed verifications stays,
beside the facts and fuses, the pins, the management target, what has been sent, and the model's own
numbers and queue. -/
def State.afterReset (facts : ModuleFacts) (pins : Pins) (verifyFails nextSession : Nat) (i3c : I3c)
    (out : List Out) (freeCtr : Nat) (pending : List Instr) : State :=
  { facts := facts, pins := pins, bring := Bring.clear verifyFails, hm := Hm.clear, uci := Uci.clear,
    sec := { Sec.clear facts.fuses.defaults with nextSession := nextSession },
    faults := FaultLog.clear, clk := Clk.clear, pwr := Pwr.clear, fab := Fab.clear, net := Net.clear,
    hbm := { Hbm.clear with hbmStacks := stacksAtReset facts }, parts := [], ctxs := [], tiles := [], i3c := i3c,
    out := out, freeCtr := freeCtr, pending := pending }

/-- The machine after reset: the flagship with no input applied, RESET_N low, every register at the value
the chapters state. -/
def State.reset : State :=
  State.afterReset ModuleFacts.flagship Pins.unpowered 0 0 I3c.clear [] 0 []

end Sys2Proof.Machine
end

