-- ==== Sys2Proof/Config.lean ====
section
/-! DEFINITION. What an implementation fixes and what the specification leaves open or names by reference.
An opaque constant has no body: nothing can be proved of its value, so a statement holds for all of them.
A constant with a body is a marked choice of a log entry. -/

namespace Sys2Proof.Config

/-- The element code written for a NaN in a format that has none (R53, R55): the block scale says NaN
and the rules give the element no code (log entry 12). By format code. -/
opaque nanFiller : Nat → Nat

/-- The bytes of a message's last slot beyond its length (R220), by a counter of State (log entry 13). -/
opaque freeByte : Nat → Byte

/-- Vmin(r, n) of R373 in mV, fused per region at test for every bin (log entry 19). -/
opaque vmin : Nat → Nat → Nat

/-- The lowest die-sense voltage of a rail that was sampled since the last read, in 0.1 mV, and its tide
count (R391), by rail and a counter of State (log entry 20). -/
opaque railLow : Nat → Nat → Nat × Nat

/-- What a stress test that an intake packet starts finds (R318), by a counter of State (log entry 21). -/
opaque stressOutcome : Nat → StressResult

/-- The part of a context record beside the accumulator slots, as SALVAGE writes it (R416, R441): the rules name
its contents and its size and give them no order (log entry 23). By a counter of State. -/
opaque recordTail : Nat → List Byte

/-- Whether an assertion of RESET_N of more than 1 µs and less than 10 µs takes effect (R519), by a counter of
State (log entry 25). -/
opaque resetTaken : Nat → Bool

/-- The static power of a rail in mW at its region's temperature in °C: the leakage model calibrated at test (R376, R393), by
rail (log entry 120). -/
opaque leakage : Nat → Int → Nat

/-- The energy of one counted event in fJ (R392): the device's coefficients, calibrated at test, by kind of event (log
entry 120). -/
opaque energyOf : Nat → Nat

/-- Flits that the receive buffer of each link virtual channel holds (R258, R268): the rules give it credits and no size
(log entry 116). -/
opaque linkBuffer : Nat

/-- How long after a tide mark a beacon's first symbol leaves its link, in 1/65,536 of a count (R257, R279), by link and
mark (log entry 30). -/
opaque beaconDelay : Nat → Nat → Nat

/-! Cryptography that R339, R471 to R481 name by their standards (log entry 22). -/

/-- SHA-384. -/
opaque sha384 : List Byte → List Byte

/-- Whether both signatures of R471 verify: message, RSASSA-PSS signature, SLH-DSA signature. -/
opaque signaturesOk : List Byte → List Byte → List Byte → Bool

/-- Whether the PUF response reconstructs the identity (R473), by the fused seed. -/
opaque pufOk : BitVec 256 → Bool

/-- The identity RSA modulus and SLH-DSA public key (R473), by the fused seed. -/
opaque identityKeys : BitVec 256 → List Byte × List Byte

/-- The session RSA modulus and ML-KEM encapsulation key (R474), by the session's number. -/
opaque sessionKeys : Nat → List Byte × List Byte

/-- The two signatures of a report (R476) under the identity keys of a seed. -/
opaque reportSignatures : BitVec 256 → List Byte → List Byte × List Byte

/-- Steps 2 to 5 of R478: the key of an envelope under a session's keys, none where a step fails. -/
opaque openEnvelope : Nat → List Byte → Option (List Byte)

/-- AES-256-GCM encryption (R480): key, nonce, additional data, plaintext; ciphertext and tag. -/
opaque gcmSeal : List Byte → List Byte → List Byte → List Byte → List Byte × List Byte

/-- AES-256-GCM decryption (R480): key, nonce, additional data, ciphertext, tag; none for a bad tag. -/
opaque gcmOpen : List Byte → List Byte → List Byte → List Byte → List Byte → Option (List Byte)

/-- The AES-256-XTS ciphertext of a transfer (R339): key, tweak, plaintext. -/
opaque xtsCipher : List Byte → Nat → List Byte → List Byte

/-- What AES-256-XTS makes of a transfer stored under one key and tweak and read under another, or stored in
plaintext and read under a key (R340): the stored key and tweak, the reading ones, the stored plaintext. -/
opaque xtsOther : Option (List Byte × Nat) → Option (List Byte × Nat) → List Byte → List Byte

end Sys2Proof.Config
end

