-- ==== Sys2Proof/Machine/Float.lean ====
section
/-! DEFINITION. Binary floating point of R41 to R45 and R152: exact values, one rounding to nearest even. -/

namespace Sys2Proof.Machine

/-- A binary interchange format: exponent bits and mantissa bits. -/
structure FFmt where
  eb : Nat
  mb : Nat
  deriving DecidableEq, Repr

/-- IEEE 754 binary32. -/
def f32 : FFmt := ⟨8, 23⟩
/-- IEEE 754 binary64. -/
def f64 : FFmt := ⟨11, 52⟩
/-- IEEE 754 binary16. -/
def f16 : FFmt := ⟨5, 10⟩
/-- bfloat16, the upper half of binary32 (R42). -/
def fbf16 : FFmt := ⟨8, 7⟩

/-- The exact value of a number: NaN, an infinity, or (−1)^s × m × 2^e. -/
inductive FVal where
  | nan
  | inf (s : Bool)
  | fin (s : Bool) (m : Nat) (e : Int)
  deriving DecidableEq, Repr, Inhabited

/-- The exponent bias of a format. -/
def FFmt.bias (f : FFmt) : Nat := 2 ^ (f.eb - 1) - 1

/-- The value of a finite magnitude of the format, exponent code not reserved. -/
def FFmt.magVal (f : FFmt) (s : Bool) (mag : Nat) : FVal :=
  let ec := mag >>> f.mb
  let mant := mag % 2 ^ f.mb
  if ec = 0 then .fin s mant (1 - Int.ofNat f.bias - Int.ofNat f.mb)
  else .fin s (2 ^ f.mb + mant) (Int.ofNat ec - Int.ofNat f.bias - Int.ofNat f.mb)

/-- The value of an encoding of the format (R42). -/
def FFmt.dec (f : FFmt) (x : Nat) : FVal :=
  let s := bitOf x (f.eb + f.mb)
  let mag := x % 2 ^ (f.eb + f.mb)
  let ec := mag >>> f.mb
  if ec = 2 ^ f.eb - 1 then
    if mag % 2 ^ f.mb = 0 then .inf s else .nan
  else f.magVal s mag

/-- The exponent of the unit in the last place of a magnitude m × 2^e with m ≠ 0. -/
def FFmt.ulpExp (f : FFmt) (m : Nat) (e : Int) : Int :=
  max (e + Int.ofNat m.log2) (1 - Int.ofNat f.bias) - Int.ofNat f.mb

/-- The magnitude code below or at m × 2^e, with exponents unbounded above, and whether the rest is
below, at or above half a unit: 0 exact, 1 below, 2 half, 3 above. -/
def FFmt.truncMag (f : FFmt) (m : Nat) (e : Int) : Nat × Nat :=
  if m = 0 then (0, 0) else
  let q := f.ulpExp m e
  let base := ((q + Int.ofNat f.mb - (1 - Int.ofNat f.bias)).toNat) <<< f.mb
  if q ≤ e then (base + (m <<< (e - q).toNat), 0)
  else
    let sh := (q - e).toNat
    let sig := m >>> sh
    let rem := m - (sig <<< sh)
    let half := 1 <<< (sh - 1)
    (base + sig, if rem = 0 then 0 else if rem < half then 1 else if rem = half then 2 else 3)

/-- The magnitude code nearest to m × 2^e, ties to even, with exponents unbounded above. -/
def FFmt.roundMag (f : FFmt) (m : Nat) (e : Int) : Nat :=
  let t := f.truncMag m e
  if t.2 = 3 then t.1 + 1 else if t.2 = 2 then t.1 + t.1 % 2 else t.1

/-- The magnitude code of an infinity. -/
def FFmt.infMag (f : FFmt) : Nat := (2 ^ f.eb - 1) <<< f.mb

/-- The one NaN that the device writes (R45). -/
def FFmt.nanCode (f : FFmt) : Nat := f.infMag + 2 ^ (f.mb - 1)

/-- The sign bit of a format in its place. -/
def FFmt.signAt (f : FFmt) (s : Bool) : Nat := flagNat s <<< (f.eb + f.mb)

/-- The encoding of an exact value: one rounding to nearest even, overflow to infinity (R40, R41). -/
def FFmt.enc (f : FFmt) (v : FVal) : Nat :=
  match v with
  | .nan => f.nanCode
  | .inf s => f.signAt s + f.infMag
  | .fin s m e => f.signAt s + min (f.roundMag m e) f.infMag

/-- The sign of a value. -/
def FVal.sign : FVal → Bool
  | .nan => false
  | .inf s => s
  | .fin s _ _ => s

/-- Whether a value is zero. -/
def FVal.isZero : FVal → Bool
  | .fin _ m _ => decide (m = 0)
  | _ => false

/-- Whether a value is NaN. -/
def FVal.isNan : FVal → Bool
  | .nan => true
  | _ => false

/-- Whether a value is an infinity. -/
def FVal.isInf : FVal → Bool
  | .inf _ => true
  | _ => false

/-- Whether a value is finite. -/
def FVal.isFin : FVal → Bool
  | .fin _ _ _ => true
  | _ => false

/-- Negation. -/
def FVal.neg : FVal → FVal
  | .nan => .nan
  | .inf s => .inf (!s)
  | .fin s m e => .fin (!s) m e

/-- Absolute value. -/
def FVal.abs : FVal → FVal
  | .nan => .nan
  | .inf _ => .inf false
  | .fin _ m e => .fin false m e

/-- A signed significand. -/
def signedSig (s : Bool) (m : Nat) : Int := if s then - Int.ofNat m else Int.ofNat m

/-- The exact sum (R41, R83); an exact zero is −0 only from two negative operands. -/
def FVal.add : FVal → FVal → FVal
  | .nan, _ => .nan
  | _, .nan => .nan
  | .inf s, .inf t => if s = t then .inf s else .nan
  | .inf s, .fin _ _ _ => .inf s
  | .fin _ _ _, .inf t => .inf t
  | .fin s m e, .fin t n g =>
    let lo := min e g
    let v := signedSig s (m <<< (e - lo).toNat) + signedSig t (n <<< (g - lo).toNat)
    if v = 0 then .fin (s && t) 0 0 else .fin (decide (v < 0)) v.natAbs lo

/-- The exact difference. -/
def FVal.sub (a b : FVal) : FVal := a.add b.neg

/-- The exact product (R44). -/
def FVal.mul : FVal → FVal → FVal
  | .nan, _ => .nan
  | _, .nan => .nan
  | .inf s, .inf t => .inf (xor s t)
  | .inf s, .fin t n _ => if n = 0 then .nan else .inf (xor s t)
  | .fin s m _, .inf t => if m = 0 then .nan else .inf (xor s t)
  | .fin s m e, .fin t n g => .fin (xor s t) (m * n) (e + g)

/-- The quotient, with a last bit that stands for a non-zero rest, so that one rounding is exact. -/
def FVal.div : FVal → FVal → FVal
  | .nan, _ => .nan
  | _, .nan => .nan
  | .inf _, .inf _ => .nan
  | .inf s, .fin t _ _ => .inf (xor s t)
  | .fin s _ _, .inf t => .fin (xor s t) 0 0
  | .fin s m e, .fin t n g =>
    if n = 0 then (if m = 0 then .nan else .inf (xor s t))
    else
      let k := 192 + n.log2
      let q := (m <<< k) / n
      let sticky := if (m <<< k) % n = 0 then 0 else 1
      .fin (xor s t) (2 * q + sticky) (e - g - Int.ofNat k - 1)

/-- The order of two values, −0 equal to +0; none when one is a NaN. -/
def FVal.cmp (a b : FVal) : Option Ordering :=
  match a, b with
  | .nan, _ => none
  | _, .nan => none
  | .inf s, .inf t => some (if s = t then .eq else if s then .lt else .gt)
  | .inf s, .fin _ _ _ => some (if s then .lt else .gt)
  | .fin _ _ _, .inf t => some (if t then .gt else .lt)
  | .fin s m e, .fin t n g =>
    let lo := min e g
    let x := signedSig s (m <<< (e - lo).toNat)
    let y := signedSig t (n <<< (g - lo).toNat)
    some (if x < y then .lt else if x = y then .eq else .gt)

/-- Whether a lies below b; false when one is a NaN. -/
def FVal.lt (a b : FVal) : Bool := decide (a.cmp b = some .lt)

/-- The integer square root by trial of each bit, from bit `n - 1` down. -/
def isqrtFrom (x : Nat) : Nat → Nat → Nat
  | 0, acc => acc
  | n + 1, acc =>
    let t := acc + 2 ^ n
    isqrtFrom x n (if t * t ≤ x then t else acc)

/-- The integer square root. -/
def isqrt (x : Nat) : Nat := isqrtFrom x (x.log2 / 2 + 1) 0

/-- 1/√x (R152), with a last bit that stands for a non-zero rest. -/
def FVal.rsqrt : FVal → FVal
  | .nan => .nan
  | .inf s => if s then .nan else .fin false 0 0
  | .fin s m e =>
    if m = 0 then .inf s
    else if s then .nan
    else
      let m2 := if e % 2 = 0 then m else 2 * m
      let e2 := if e % 2 = 0 then e else e - 1
      let z := 2 ^ 256 / m2
      let q := isqrt z
      let sticky := if q * q * m2 = 2 ^ 256 then 0 else 1
      .fin false (2 * q + sticky) (-129 - e2 / 2)

/-- 1/x (R152). -/
def FVal.recip (x : FVal) : FVal := (FVal.fin false 1 0).div x

/-- ln 2 × 2^256, rounded down. -/
def ln2Fix : Nat := 0xb17217f7d1cf79abc9e3b39803f2f6af40f343267298b62d8a0d175b8baafa2b

/-- The Taylor series of e^y in fixed point of 256 fraction bits: `n` terms from term `i`. -/
def expSeries (y : Nat) : Nat → Nat → Nat → Nat
  | 0, _, _ => 0
  | n + 1, i, t => t + expSeries y n (i + 1) (((t * y) >>> 256) / (i + 1))

/-- 2^r for a fraction r in fixed point of 256 bits. -/
def exp2Frac (r : Nat) : Nat := expSeries ((r * ln2Fix) >>> 256) 80 0 (2 ^ 256)

/-- The floor of m × 2^e with sign s, and the fraction above it in fixed point of 256 bits. -/
def floorFix (s : Bool) (m : Nat) (e : Int) : Int × Nat :=
  let a := e + 256
  let mag := if 0 ≤ a then m <<< a.toNat else m >>> (-a).toNat
  let v := signedSig s mag
  (v / Int.ofNat (2 ^ 256), (v % Int.ofNat (2 ^ 256)).toNat)

/-- 2^x (R152). An operand that is no integer has an irrational result, which the series gives to
more than 200 bits; the last bit stands for the rest (log entry 11). -/
def FVal.exp2 : FVal → FVal
  | .nan => .nan
  | .inf s => if s then .fin false 0 0 else .inf false
  | .fin s m e =>
    let p := floorFix s m e
    if p.1 ≥ 1100 then .inf false
    else if p.1 < -1200 then .fin false 0 0
    else if p.2 = 0 then .fin false 1 p.1
    else .fin false (2 * exp2Frac p.2 + 1) (p.1 - 257)

/-- The series of artanh z in fixed point of 256 fraction bits: `n` terms from term `i`, t = z^(2i+1). -/
def atanhSeries (z2 : Nat) : Nat → Nat → Nat → Nat
  | 0, _, _ => 0
  | n + 1, i, t => t / (2 * i + 1) + atanhSeries z2 n (i + 1) ((t * z2) >>> 256)

/-- log2 of m / 2^k, a number in [1, 2), in fixed point of 256 fraction bits. -/
def log2Frac (m k : Nat) : Nat :=
  let z := ((m - 2 ^ k) <<< 256) / (m + 2 ^ k)
  (atanhSeries ((z * z) >>> 256) 90 0 z <<< 257) / ln2Fix

/-- log2 x (R152); of a power of two it is exact, otherwise the last bit stands for the rest. -/
def FVal.log2 : FVal → FVal
  | .nan => .nan
  | .inf s => if s then .nan else .inf false
  | .fin s m e =>
    if m = 0 then .inf true
    else if s then .nan
    else
      let k := m.log2
      let i := e + Int.ofNat k
      if m = 2 ^ k then .fin (decide (i < 0)) i.natAbs 0
      else
        let v := i * Int.ofNat (2 ^ 256) + Int.ofNat (log2Frac m k)
        .fin (decide (v < 0)) (2 * v.natAbs + 1) (-257)

/-- One binary32 addition (R41). -/
def add32 (a b : Nat) : Nat := f32.enc ((f32.dec a).add (f32.dec b))
/-- One binary32 subtraction. -/
def sub32 (a b : Nat) : Nat := f32.enc ((f32.dec a).sub (f32.dec b))
/-- One binary32 product. -/
def mul32 (a b : Nat) : Nat := f32.enc ((f32.dec a).mul (f32.dec b))
/-- One binary32 quotient. -/
def div32 (a b : Nat) : Nat := f32.enc ((f32.dec a).div (f32.dec b))
/-- One binary32 fused multiply-add. -/
def fma32 (a b c : Nat) : Nat := f32.enc (((f32.dec a).mul (f32.dec b)).add (f32.dec c))
/-- The magnitude of a binary32 number, a NaN written as R45 says. -/
def abs32 (a : Nat) : Nat := f32.enc (f32.dec a).abs
/-- EXP2 in binary32 (R152). -/
def exp2F32 (a : Nat) : Nat := f32.enc (f32.dec a).exp2
/-- LOG2E of R87. -/
def log2e32 : Nat := 0x3FB8AA3B
/-- EXP of R87. -/
def exp32 (a : Nat) : Nat := exp2F32 (mul32 a log2e32)
/-- +1 in binary32. -/
def one32 : Nat := 0x3F800000
/-- The sign turned. -/
def neg32 (a : Nat) : Nat := f32.enc (f32.dec a).neg

end Sys2Proof.Machine
end

