-- ==== Sys2Proof/Machine/Formats.lean ====
section
/-! DEFINITION. The number formats of 02_number_formats.md: decoding, products, conversion and
stochastic rounding. Formats are named by their 4-bit codes of R46. -/

namespace Sys2Proof.Machine

/-- Element width in bits (R33, R46); 0 for a reserved code. -/
def fmtWidth (f : Nat) : Nat :=
  match f with
  | 0x0 => 8 | 0x1 => 4 | 0x2 => 8 | 0x3 => 8 | 0x4 => 8 | 0x5 => 8 | 0x6 => 6 | 0x7 => 6 | 0x8 => 4
  | 0x9 => 8 | 0xA => 16 | 0xB => 16 | 0xC => 32 | _ => 0

/-- Whether the format carries block scales (R32, R35). -/
def fmtScaled (f : Nat) : Bool := decide (f < 2) || (decide (4 ≤ f) && decide (f ≤ 9))

/-- The families of R46. -/
inductive FmtFamily where
  | ln
  | mx
  | half
  | single
  | reserved
  deriving DecidableEq, Repr

/-- The family of a format code (R46). -/
def fmtFamily (f : Nat) : FmtFamily :=
  if f < 2 then .ln else if f < 0xA then .mx else if f < 0xC then .half
  else if f = 0xC then .single else .reserved

/-- Whether the array accepts the code as an operand (R46). -/
def arrayFmtOk (f : Nat) : Bool := decide (f < 0xC)

/-- Whether the array accepts a pair of codes (R47). -/
def arrayPairOk (a b : Nat) : Bool := arrayFmtOk a && arrayFmtOk b && decide (fmtFamily a = fmtFamily b)

/-- K of a pass by stationary format (R68). -/
def fmtK (f : Nat) : Nat := if f = 1 ∨ f = 8 then 256 else 128

/-- Width in bytes of `n` elements. -/
def fmtBytes (f n : Nat) : Nat := ceilDiv (n * fmtWidth f) 8

/-- T of R39: the mantissa field of 2^(f/8). -/
def tMant (i : Nat) : Nat :=
  match i with
  | 0 => 0x000000 | 1 => 0x0B95C2 | 2 => 0x1837F0 | 3 => 0x25FED7
  | 4 => 0x3504F3 | 5 => 0x45672A | 6 => 0x5744FD | _ => 0x6AC0C7

/-- (−1)^s × T[f] × 2^(q + e), with code = 8q + f (R38, R57). -/
def lnVal (s : Bool) (code e : Int) : FVal :=
  .fin s (0x800000 + tMant (code % 8).toNat) (code / 8 + e - 23)

/-- An LN-family element without its scale: NaN, a zero, or a sign and a log code in eighths. -/
inductive LnElem where
  | nan
  | zero (s : Bool)
  | val (s : Bool) (code : Int)
  deriving DecidableEq, Repr

/-- An element of LN8 or LN4 (R30, R36, R37). -/
def lnElem (f x : Nat) : LnElem :=
  if f = 0 then
    if x % 256 = 0x40 then .zero false else if x % 256 = 0xC0 then .nan
    else .val (bitOf x 7) (signedOf x 7)
  else
    if x % 8 = 4 then .zero (bitOf x 3) else .val (bitOf x 3) (4 * signedOf x 3)

/-- The floating format of a small standard element (R42). -/
def mxFmt (f : Nat) : FFmt :=
  match f with
  | 0x2 => ⟨4, 3⟩ | 0x3 => ⟨5, 2⟩ | 0x4 => ⟨4, 3⟩ | 0x5 => ⟨5, 2⟩
  | 0x6 => ⟨2, 3⟩ | 0x7 => ⟨3, 2⟩ | 0x8 => ⟨2, 1⟩ | 0xA => ⟨5, 10⟩ | 0xB => ⟨8, 7⟩ | _ => ⟨8, 23⟩

/-- The largest finite magnitude code of a small standard element (R42). -/
def mxMax (f : Nat) : Nat :=
  match f with
  | 0x2 => 0x7E | 0x3 => 0x7B | 0x4 => 0x7E | 0x5 => 0x7B | 0x6 => 0x1F | 0x7 => 0x1F | 0x8 => 0x7
  | _ => 127

/-- A standard element without its scale (R42, R43). -/
def stdElem (f x : Nat) : FVal :=
  match f with
  | 0x2 | 0x4 => if x % 128 = 0x7F then .nan else (mxFmt f).magVal (bitOf x 7) (x % 128)
  | 0x3 | 0x5 => (mxFmt f).dec x
  | 0x6 | 0x7 => (mxFmt f).magVal (bitOf x 5) (x % 32)
  | 0x8 => (mxFmt f).magVal (bitOf x 3) (x % 8)
  | 0x9 => let v := signedOf x 8; .fin (decide (v < 0)) v.natAbs (-6)
  | _ => (mxFmt f).dec x

/-- A value times 2^k. -/
def FVal.scale (v : FVal) (k : Int) : FVal :=
  match v with
  | .fin s m e => .fin s m (e + k)
  | w => w

/-- The exact value of an element with its block scale byte (R32, R35, R56, R57). -/
def elemVal (f x e : Nat) : FVal :=
  if fmtScaled f && decide (e = 255) then .nan
  else if f < 2 then
    match lnElem f x with
    | .nan => .nan
    | .zero s => .fin s 0 0
    | .val s c => lnVal s c (Int.ofNat e - 127)
  else if fmtScaled f then (stdElem f x).scale (Int.ofNat e - 127)
  else stdElem f x

/-- An element decoded into binary32 (R56, R57). -/
def decode32 (f x e : Nat) : Nat := f32.enc (elemVal f x e)

/-- The product of two LN-family elements (R38 to R40). -/
def lnProduct (fa a ea fb b eb : Nat) : FVal :=
  if ea = 255 ∨ eb = 255 then .nan else
  match lnElem fa a, lnElem fb b with
  | .nan, _ => .nan
  | _, .nan => .nan
  | .zero s, .zero t => .fin (xor s t) 0 0
  | .zero s, .val t _ => .fin (xor s t) 0 0
  | .val s _, .zero t => .fin (xor s t) 0 0
  | .val s c, .val t d => lnVal (xor s t) (c + d) (Int.ofNat ea - 127 + (Int.ofNat eb - 127))

/-- The product of two elements of one family in binary32 (R38, R44). -/
def product32 (fa a ea fb b eb : Nat) : Nat :=
  f32.enc (if fa < 2 then lnProduct fa a ea fb b eb else (elemVal fa a ea).mul (elemVal fb b eb))

/-- Element `i` of a packed byte string (R33). -/
def packedElem (f : Nat) (bs : List Byte) (i : Nat) : Nat :=
  bitsOf (leNat ((bs.drop (i * fmtWidth f / 8)).take 4)) (i * fmtWidth f % 8) (fmtWidth f)

/-- The number that a list of element codes packs to, element 0 lowest (R33). -/
def packNat (w : Nat) : List Nat → Nat
  | [] => 0
  | c :: cs => c % 2 ^ w + (packNat w cs <<< w)

/-- Element codes packed into bytes, a last partial byte filled with zero bits (R33, R88). -/
def packElems (f : Nat) (cs : List Nat) : List Byte :=
  leBytes (packNat (fmtWidth f) cs) (fmtBytes f cs.length)

/-- The exponent and normal significand (24 bits) of a finite non-zero binary32 magnitude (R50). -/
def normalSig (m : Nat) (e : Int) : Nat × Int :=
  (m <<< (23 - m.log2), e + Int.ofNat m.log2)

/-- The thresholds of R50 for LN8, as 24-bit significands. -/
def ln8Thresholds : List Nat :=
  [0x85AAC4, 0x91C3D4, 0x9EF533, 0xAD583F, 0xBD08A4, 0xCE248D, 0xE0CCDF, 0xF5257E]

/-- The thresholds of R50 for LN4. -/
def ln4Thresholds : List Nat := [0x9837F1, 0xD744FD]

/-- The unit of an LN format in codes per binary order (R51). -/
def lnUnit (f : Nat) : Int := if f = 0 then 8 else 2
/-- Lmax of R51. -/
def lnMax (f : Nat) : Int := if f = 0 then 63 else 3

/-- The nearest log code of a finite non-zero value (R50). -/
def lnNearest (f m : Nat) (e : Int) : Int :=
  let p := normalSig m e
  let ts := if f = 0 then ln8Thresholds else ln4Thresholds
  lnUnit f * p.2 + Int.ofNat (ts.filter (fun t => decide (t ≤ p.1))).length

/-- The lower log code: the largest whose table value does not exceed |x| (R58). -/
def lnLower (f m : Nat) (e : Int) : Int :=
  let p := normalSig m e
  let ts := if f = 0 then [1, 2, 3, 4, 5, 6, 7] else [4]
  lnUnit f * p.2 + Int.ofNat (ts.filter (fun t => decide (0x800000 + tMant t ≤ p.1))).length

/-- The value of a scaled code of an LN format, as a significand and an exponent (R57). -/
def lnCodeMag (f : Nat) (c : Int) : Nat × Int :=
  let k := if f = 0 then c else 4 * c
  (0x800000 + tMant (k % 8).toNat, k / 8 - 23)

/-- The least integer not below a quotient. -/
def ceilInt (a b : Int) : Int := -((-a) / b)

/-- A scale clamped to 0 to 254 (R51, R54). -/
def clampScale (e : Int) : Nat := if e < 0 then 0 else if 254 < e then 254 else e.toNat

/-- The largest of the nearest codes of the finite non-zero elements; none when there is none. -/
def lnLargest (f : Nat) : List Nat → Option Int
  | [] => none
  | x :: xs =>
    let r := lnLargest f xs
    match f32.dec x with
    | .fin _ m e =>
      if m = 0 then r else
        match r with
        | none => some (lnNearest f m e)
        | some v => some (max v (lnNearest f m e))
    | _ => r

/-- The block scale of an LN block (R51). -/
def lnScale (f : Nat) (xs : List Nat) : Nat :=
  match lnLargest f xs with
  | none => 127
  | some m => clampScale (ceilInt (m - lnMax f) (lnUnit f) + 127)

/-- A sign and a scaled code as an element (R30, R36). -/
def lnByte (f : Nat) (s : Bool) (c : Int) : Nat :=
  if f = 0 then twosOf c 7 + (flagNat s <<< 7) else twosOf c 3 + (flagNat s <<< 3)

/-- The zero that conversions write (R31, R36). -/
def lnZero (f : Nat) : Nat := if f = 0 then 0x40 else 0x4

/-- The scaled code mapped to an element (R52), with whether it saturated. -/
def lnMap (f : Nat) (s : Bool) (c : Int) : Nat × Bool :=
  if lnMax f < c then (lnByte f s (lnMax f), true)
  else if -(lnMax f) ≤ c then (lnByte f s c, false)
  else if (if f = 0 then -71 else -4) ≤ c then (lnByte f s (-(lnMax f)), false)
  else (lnZero f, false)

/-- d / w in 65,536ths, rounded down, for magnitudes m × 2^e with a ≤ x (R58). -/
def srFraction (a x b : Nat × Int) : Nat :=
  let lo := min a.2 (min x.2 b.2)
  let al (p : Nat × Int) : Nat := p.1 <<< (p.2 - lo).toNat
  (65536 * (al x - al a)) / (al b - al a)

/-- Stochastic rounding into an LN format (R58, R62), with whether it saturated. -/
def lnStoch (f e16 : Nat) (r16 : Nat) (s : Bool) (m : Nat) (e : Int) : Nat × Bool :=
  let c := lnLower f m e - lnUnit f * (Int.ofNat e16 - 127)
  let x : Nat × Int := (m, e - (Int.ofNat e16 - 127))
  if lnMax f < c then (lnByte f s (lnMax f), true)
  else if c < -(lnMax f) then
    if r16 < srFraction (0, 0) x (lnCodeMag f (-(lnMax f))) then (lnByte f s (-(lnMax f)), false)
    else (lnZero f, false)
  else if r16 < srFraction (lnCodeMag f c) x (lnCodeMag f (c + 1)) then
    (if c = lnMax f then (lnByte f s c, true) else (lnByte f s (c + 1), false))
  else (lnByte f s c, false)

/-- One element converted into an LN format at a scale (R52, R53, R62), with whether it saturated;
`stoch` holds the draw of R59 when rounding is stochastic. -/
def lnConvert (f e16 : Nat) (stoch : Option Nat) (x : Nat) : Nat × Bool :=
  match f32.dec x with
  | .nan => (if f = 0 then 0xC0 else Config.nanFiller f, false)
  | .inf s => (lnByte f s (lnMax f), true)
  | .fin s m e =>
    if m = 0 then (lnZero f, false) else
    match stoch with
    | none => lnMap f s (lnNearest f m e - lnUnit f * (Int.ofNat e16 - 127))
    | some r => lnStoch f e16 r s m e

/-- The largest finite magnitude's floor of log2; none when every finite element is zero (R54). -/
def mxLargest : List Nat → Option Int
  | [] => none
  | x :: xs =>
    let r := mxLargest xs
    match f32.dec x with
    | .fin _ m e =>
      if m = 0 then r else
        match r with
        | none => some (e + Int.ofNat m.log2)
        | some v => some (max v (e + Int.ofNat m.log2))
    | _ => r

/-- emax of R54. -/
def mxEmax (f : Nat) : Int :=
  match f with
  | 0x4 => 8 | 0x5 => 15 | 0x6 => 2 | 0x7 => 4 | 0x8 => 2 | _ => 0

/-- The block scale of an MX block (R54). -/
def mxScale (f : Nat) (xs : List Nat) : Nat :=
  match mxLargest xs with
  | none => 127
  | some v => clampScale (v - mxEmax f + 127)

/-- The sign and magnitude code of a small element in its place. -/
def mxPlace (f : Nat) (s : Bool) (mag : Nat) : Nat :=
  if f = 9 then (if s then (256 - mag) % 256 else mag)
  else mag + (flagNat s <<< (fmtWidth f - 1))

/-- The magnitude code at or below m × 2^e, unbounded above, and how the rest compares with half. -/
def mxTrunc (f m : Nat) (e : Int) : Nat × Nat :=
  if f = 9 then
    let a := e + 6
    if 0 ≤ a then (m <<< a.toNat, 0)
    else
      let sh := (-a).toNat
      let sig := m >>> sh
      let rem := m - (sig <<< sh)
      let half := 1 <<< (sh - 1)
      (sig, if rem = 0 then 0 else if rem < half then 1 else if rem = half then 2 else 3)
  else (mxFmt f).truncMag m e

/-- The value of a magnitude code. -/
def mxMagVal (f mag : Nat) : Nat × Int :=
  if f = 9 then (mag, -6)
  else match (mxFmt f).magVal false mag with
    | .fin _ m e => (m, e)
    | _ => (0, 0)

/-- Whether m × 2^e lies above the value of a magnitude code. -/
def magAbove (m : Nat) (e : Int) (p : Nat × Int) : Bool :=
  let lo := min e p.2
  decide (p.1 <<< (p.2 - lo).toNat < m <<< (e - lo).toNat)

/-- The code of a NaN's own element in a format whose NaN is the block scale 0xFF: a free value of the format (log entry
12), but never −128 in MXINT8, which no conversion writes (R43). -/
def nanElem (f : Nat) : Nat :=
  if f = 9 ∧ Config.nanFiller f % 256 = 0x80 then 0x81 else Config.nanFiller f

/-- One element converted into a standard format of 8 bits or fewer (R54, R55, R58, R62), with
whether it saturated. -/
def mxConvert (f e16 : Nat) (stoch : Option Nat) (x : Nat) : Nat × Bool :=
  match f32.dec x with
  | .nan =>
    (match f with
     | 0x2 | 0x4 => 0x7F
     | 0x3 | 0x5 => 0x7E
     | _ => nanElem f, false)
  | .inf s => if f = 3 ∨ f = 5 then (mxPlace f s 0x7C, false) else (mxPlace f s (mxMax f), true)
  | .fin s m e =>
    let e' := if fmtScaled f then e - (Int.ofNat e16 - 127) else e
    if magAbove m e' (mxMagVal f (mxMax f)) then (mxPlace f s (mxMax f), true)
    else
      let t := mxTrunc f m e'
      match stoch with
      | none =>
        let c := if t.2 = 3 then t.1 + 1 else if t.2 = 2 then t.1 + t.1 % 2 else t.1
        (mxPlace f s (min c (mxMax f)), false)
      | some r =>
        if t.2 = 0 then (mxPlace f s t.1, false)
        else if r < srFraction (mxMagVal f t.1) (m, e') (mxMagVal f (t.1 + 1)) then
          (mxPlace f s (min (t.1 + 1) (mxMax f)), false)
        else (mxPlace f s t.1, false)

/-- Whether a NaN among the elements makes the block scale 0xFF (R53, R55). -/
def nanScale (f : Nat) (xs : List Nat) : Bool :=
  (decide (f = 1) || (decide (6 ≤ f) && decide (f ≤ 9))) && xs.any (fun x => (f32.dec x).isNan)

/-- The scale by which a block of binary32 values is converted (R51, R54); 127 for unscaled formats. -/
def blockScale (f : Nat) (xs : List Nat) : Nat :=
  if f < 2 then lnScale f xs else if fmtScaled f then mxScale f xs else 127

/-- One binary32 value converted into format `f` at a scale (R49 to R62), with whether it saturated. -/
def convertElem (f e16 : Nat) (stoch : Option Nat) (x : Nat) : Nat × Bool :=
  if f < 2 then lnConvert f e16 stoch x
  else if f < 0xA then mxConvert f e16 stoch x
  else if f = 0xA then (f16.enc (f32.dec x), false)
  else if f = 0xB then (fbf16.enc (f32.dec x), false)
  else (f32.enc (f32.dec x), false)

/-- The draw of R59 for element `i` of the row with counter value `c`. -/
def srDraw (seed c : Word) (i : Nat) : Nat :=
  let z : Word := seed + (c * 512 + BitVec.ofNat 64 (i + 1)) * 0x9E3779B97F4A7C15#64
  let z := (z ^^^ (z >>> 30)) * 0xBF58476D1CE4E5B9#64
  let z := (z ^^^ (z >>> 27)) * 0x94D049BB133111EB#64
  let z := z ^^^ (z >>> 31)
  (z >>> 48).toNat

/-- The elements of one block, numbered from `i` within the row, converted at one scale. -/
def convertList (f e16 : Nat) (sr : Option (Word × Word)) : Nat → List Nat → List (Nat × Bool)
  | _, [] => []
  | i, x :: xs =>
    convertElem f e16 (sr.map (fun p => srDraw p.1 p.2 i)) x :: convertList f e16 sr (i + 1) xs

/-- A row converted block by block of 32 (R49 to R62): the scale bytes, and the elements with whether
each saturated. `sr` is the seed and the row's counter value; `n` bounds the number of blocks. DESIGN CHOICE (log
entry 108): where a NaN makes the block scale 0xFF, the block's other elements are coded at the E of R51 or R54. -/
def convertRow (f : Nat) (sr : Option (Word × Word)) : Nat → Nat → List Nat → List Nat × List (Nat × Bool)
  | 0, _, _ => ([], [])
  | _, _, [] => ([], [])
  | n + 1, i, xs =>
    let blk := xs.take 32
    let e := blockScale f blk
    let rest := convertRow f sr n (i + 32) (xs.drop 32)
    ((if nanScale f blk then 255 else e) :: rest.1, convertList f e sr i blk ++ rest.2)

end Sys2Proof.Machine
end

