-- ==== Sys2Proof/Machine/Packets.lean ====
section
/-! DEFINITION. Packet headers, trailers and tallies (R185 to R188, R296, R298, R309). -/

namespace Sys2Proof.Machine

/-- Header bits 0 to 239 that R186 reserves: sent as zero, and ignored on receipt but for the header check, which
covers bytes 0 to 29 as received (R188). -/
def reservedMask : BitVec 240 :=
  BitVec.ofNat 240 (0xF * 2 ^ 28 + 0x7F * 2 ^ 41 + 2 ^ 63 + 2 ^ 79 + 0xF * 2 ^ 124 + 3 * 2 ^ 142 + 0xF * 2 ^ 156)

/-- Header bytes 0 to 29 of a packet (R186), its reserved bits as they came. -/
def headerBytes (p : Packet) : List Byte :=
  leBytes ((p.rsvd &&& reservedMask).toNat + p.typ.toNat
    + fieldAt p.rgen.toNat 8 4 + fieldAt (flagNat p.nack) 12 1 + fieldAt (flagNat p.last) 13 1
    + fieldAt (flagNat p.circ) 14 1 + fieldAt (flagNat p.fab) 15 1
    + fieldAt p.dsite.toNat 16 9 + fieldAt p.dport.toNat 25 3
    + fieldAt p.ssite.toNat 32 9 + fieldAt p.fdest.toNat 48 15 + fieldAt p.fsrc.toNat 64 15
    + fieldAt p.seq.toNat 80 24 + fieldAt p.part.toNat 104 5 + fieldAt p.ctx.toNat 109 3
    + fieldAt p.dcc.toNat 112 12 + fieldAt p.len.toNat 128 14 + fieldAt p.scc.toNat 144 12
    + fieldAt p.addr.toNat 160 48 + fieldAt p.aux.toNat 208 32) 30

/-- HCRC of R188. -/
def hcrcOf (p : Packet) : BitVec 16 := BitVec.ofNat 16 (crcRunMsb 16 0x1021 0xFFFF (headerBytes p))

/-- The packet with its header check formed. -/
def sealPacket (p : Packet) : Packet := { p with hcrc := hcrcOf p }

/-- A packet with every field zero. -/
def blankPacket : Packet :=
  { typ := 0, fab := false, circ := false, last := false, nack := false, rgen := 0, dport := 0, dsite := 0,
    ssite := 0, fdest := 0, fsrc := 0, seq := 0, ctx := 0, part := 0, dcc := 0, len := 0, scc := 0, addr := 0,
    aux := 0, hcrc := 0, payload := [], trailer := [], parityError := false, ctrl := false, rsvd := 0 }

/-- Packet types of R187. -/
def tyWrite : BitVec 8 := 0x01
def tyAdd32 : BitVec 8 := 0x02
def tyAdd16 : BitVec 8 := 0x03
def tyRead : BitVec 8 := 0x04
def tyReadData : BitVec 8 := 0x05
def tyAck : BitVec 8 := 0x06
def tyMessage : BitVec 8 := 0x07
def tyCredit : BitVec 8 := 0x08
def tyHost : BitVec 8 := 0x10
def tyMgmt : BitVec 8 := 0x11
def tyStop : BitVec 8 := 0x20
def tyResume : BitVec 8 := 0x21
def tyPilot : BitVec 8 := 0x22
def tyBeacon : BitVec 8 := 0x23

/-- The elements of a byte string, `w` bytes each, as numbers. -/
def elemsOf (w : Nat) : Nat → List Byte → List Nat
  | 0, _ => []
  | n + 1, bs => leNat (bs.take w) :: elemsOf w n (bs.drop w)

/-- A sum in binary64 in list order, each addition rounded to nearest even; +0 when empty (R309). -/
def sum64From (acc : Nat) : List Nat → Nat
  | [] => acc
  | x :: xs => sum64From (f64.enc ((f64.dec acc).add (f64.dec x))) xs

/-- A sum in binary64, beginning at the first element. -/
def sum64 : List Nat → Nat
  | [] => 0
  | x :: xs => sum64From x xs

/-- The elements of rows under RED 1 (binary32) or RED 2 (bfloat16), as binary64 (R309). -/
def redElems (red : Nat) (bs : List Byte) : List Nat :=
  if red = 1 then (elemsOf 4 (bs.length / 4) bs).map (fun x => f64.enc (f32.dec x))
  else (elemsOf 2 (bs.length / 2) bs).map (fun x => f64.enc (fbf16.dec x))

/-- Magnitudes in binary64. -/
def abs64s (xs : List Nat) : List Nat := xs.map (fun x => f64.enc (f64.dec x).abs)

/-- The RED code of a row packet type (R159, R187). -/
def redOfType (ty : BitVec 8) : Nat := if ty = tyAdd32 then 1 else if ty = tyAdd16 then 2 else 0

/-- The packet type of a push with RED (R159). -/
def typeOfRed (red : Nat) : BitVec 8 := if red = 1 then tyAdd32 else if red = 2 then tyAdd16 else tyWrite

/-- The 224-byte trailer of a row packet (R296, R299). `seg0` and `seg1` stand for the check values
where a source block failed (R296); `verified` is FLAGS [2]. -/
def rowTrailer (red : Nat) (parityMode verified : Bool) (seg0 seg1 : Option Nat) (payload : List Byte) :
    List Byte :=
  if parityMode then zeroBytes 36 ++ leBytes 2 1 ++ zeroBytes 187
  else
    let lo := payload.take 4096
    let hi := payload.drop 4096
    let s0 := seg0.getD (crc32c lo)
    let s1 := if hi = [] then 0 else seg1.getD (crc32c hi)
    let es := redElems red payload
    leBytes s0 4 ++ leBytes s1 4 ++ leBytes (crc64 payload) 8
      ++ (if red = 0 then zeroBytes 20
          else leBytes (sum64 es) 8 ++ leBytes (sum64 (abs64s es)) 8 ++ leBytes es.length 4)
      ++ leBytes (flagNat (red ≠ 0) + 4 * flagNat verified) 1 ++ zeroBytes 187

/-- PARITY_MODE of a trailer (R296). -/
def trailerParityMode (tr : List Byte) : Bool := bitOf (leNat ((tr.drop 36).take 1)) 1

/-- Whether a row packet's payload passes the checks of R297: parity, and outside parity mode every SEG
value and CRC64. -/
def rowPacketOk (p : Packet) : Bool :=
  !p.parityError && (trailerParityMode p.trailer ||
    (decide (leNat (p.trailer.take 4) = crc32c (p.payload.take 4096))
      && decide (leNat ((p.trailer.drop 4).take 4) =
          (if p.payload.drop 4096 = [] then 0 else crc32c (p.payload.drop 4096)))
      && decide (leNat ((p.trailer.drop 8).take 8) = crc64 p.payload)))

/-- The trailer of a MESSAGE packet (R298): as many bytes of the payload's CRC-32C as the last flit has
room for. -/
def messageTrailer (payload : List Byte) : List Byte :=
  (leBytes (crc32c payload) 4).take ((256 - (32 + payload.length) % 256) % 256)

/-- Whether a MESSAGE packet passes R298 and carries no parity error (R299). -/
def messageOk (parityMode : Bool) (p : Packet) : Bool :=
  !p.parityError && (parityMode || decide (p.trailer = messageTrailer p.payload))

/-- Whether a type carries rows to write or add (R187). -/
def rowType (ty : BitVec 8) : Bool := decide (ty = tyWrite) || decide (ty = tyAdd32) || decide (ty = tyAdd16)

/-! ### Packets as bytes and as flits (R185, R186) -/

/-- A packet's bytes, filled to whole flits (R185). -/
def packetBytes (p : Packet) : List Byte :=
  let bs := headerBytes p ++ leBytes p.hcrc.toNat 2 ++ p.payload ++ p.trailer
  bs ++ zeroBytes ((256 - bs.length % 256) % 256)

/-- Read a packet from its bytes (R185, R186). -/
def parsePacket (bs : List Byte) : Packet :=
  let h := leNat (bs.take 32)
  let ty : BitVec 8 := BitVec.ofNat 8 h
  let len := bitsOf h 128 14
  let n := if ty = tyRead then 0 else len
  let rest := bs.drop (32 + n)
  let tr := if rowType ty || ty = tyReadData then rest.take 224
    else if ty = tyMessage then rest.take 4 else []
  { typ := ty, fab := bitOf h 15, circ := bitOf h 14, last := bitOf h 13, nack := bitOf h 12,
    rgen := BitVec.ofNat 4 (bitsOf h 8 4), dport := BitVec.ofNat 3 (bitsOf h 25 3),
    dsite := BitVec.ofNat 9 (bitsOf h 16 9), ssite := BitVec.ofNat 9 (bitsOf h 32 9),
    fdest := BitVec.ofNat 15 (bitsOf h 48 15), fsrc := BitVec.ofNat 15 (bitsOf h 64 15),
    seq := BitVec.ofNat 24 (bitsOf h 80 24), ctx := BitVec.ofNat 3 (bitsOf h 109 3),
    part := BitVec.ofNat 5 (bitsOf h 104 5), dcc := BitVec.ofNat 12 (bitsOf h 112 12),
    len := BitVec.ofNat 14 len, scc := BitVec.ofNat 12 (bitsOf h 144 12), addr := BitVec.ofNat 48 (bitsOf h 160 48),
    aux := BitVec.ofNat 32 (bitsOf h 208 32), hcrc := BitVec.ofNat 16 (bitsOf h 240 16),
    payload := (bs.drop 32).take n, trailer := tr, parityError := false, ctrl := false,
    rsvd := BitVec.ofNat 240 h &&& reservedMask }

/-- Flits of a packet (R185). -/
def flitCount (p : Packet) : Nat := ceilDiv (32 + p.payload.length + p.trailer.length) 256

/-- The flits of a circuit's packet (R185, R203). -/
def circuitFlits (p : Packet) : List CFlit :=
  let bs := packetBytes p
  let n := bs.length / 256
  (List.range n).map (fun i => ⟨(bs.drop (256 * i)).take 256, decide (i = 0), decide (i + 1 = n), p.parityError⟩)

/-- The packet that a circuit's flits make (R185, R299). -/
def packetOfFlits (fs : List CFlit) : Packet :=
  { parsePacket (fs.flatMap (fun f => f.data)) with parityError := fs.any (fun f => f.bad) }

/-- Whether the header check of a packet's first flit holds (R188). -/
def CFlit.headerOk (f : CFlit) : Bool :=
  decide (leNat ((f.data.drop 30).take 2) = crcRunMsb 16 0x1021 0xFFFF (f.data.take 30))

/-- Rows in a payload. -/
def rowsOf (bs : List Byte) : Nat := bs.length / 256

end Sys2Proof.Machine
end

