-- ==== Sys2Proof/Machine/Operands.lean ====
section
/-! DEFINITION. Operands and operations that the engines and the sequencer of one tile share: registers, counters,
exceptions, detected errors, scratchpad accesses with side storage, the read set and the scoreboard. -/

namespace Sys2Proof.Machine

/-- What a tile sees of the device around it when it acts. -/
structure TileEnv where
  site : Nat
  tide : BitVec 64
  nextMark : BitVec 64
  part : BitVec 5
  selfFab : BitVec 15
  rgen : BitVec 4
  ackTimeout : Nat
  parityMode : Bool
  pairMode : Bool
  /-- NET_CIRCUIT of the tile's own router (R206). -/
  circuits : SMap (BitVec 64)
  chBase : Nat
  chCount : Nat
  /-- Sites of the running context's placement map (R216). -/
  placement : List Nat
  /-- Sites to which the route of R191 exists. -/
  routable : Nat → Bool
  /-- The router of the link die by which a packet for a device leaves, by SEQ [0]; none for this device (R190, R266). -/
  exitSite : BitVec 15 → Nat → Option Nat
  /-- The edge router and port for a device address in the partition's mapping (R190, R329). -/
  edge : Nat → Nat × Nat
  /-- The pilot router (R381). -/
  pilotSite : Nat
  /-- The router at which the step collector takes tile digests (R287). -/
  collectorSite : Nat
  /-- The check area of the tile's partner holds no whole check copy (R306). -/
  partnerFree : Bool
  /-- Debug mode of the context. -/
  debug : Bool

/-- What a tile's step causes outside the tile. -/
inductive TEff where
  /-- A free or control packet is injected at the tile's router (R190). -/
  | inject (p : Packet)
  /-- A packet enters a circuit (R206). -/
  | circuit (n : Nat) (p : Packet)
  /-- A fault is reported (R496). -/
  | log (f : FaultNote)
  /-- The tile has halted (R169). -/
  | halted
  /-- SUSPECT is set on another tile (R316). -/
  | suspect (site : Nat)
  /-- LATE_ACK of the tile's router counts an answer (R195, R212). -/
  | lateAck
  /-- AT_TILE of the tile's router counts a drop (R197, R212). -/
  | dropped
  deriving DecidableEq, Repr

/-- A tile after a step, and what the step caused outside it, in order. -/
structure TOut where
  tile : Tile
  effs : List TEff
  deriving DecidableEq, Repr

/-- A step with no effect outside the tile. -/
def TOut.pure (t : Tile) : TOut := ⟨t, []⟩

/-- One more effect. -/
def TOut.emit (o : TOut) (e : TEff) : TOut := ⟨o.tile, o.effs ++ [e]⟩

/-- Continue from a step. -/
def TOut.andThen (o : TOut) (f : Tile → TOut) : TOut :=
  let r := f o.tile
  ⟨r.tile, o.effs ++ r.effs⟩

/-- Continue where a condition holds. -/
def TOut.andIf (o : TOut) (c : Bool) (f : Tile → TOut) : TOut := if c then o.andThen f else o

/-- The tile changed. -/
def TOut.map (o : TOut) (f : Tile → Tile) : TOut := ⟨f o.tile, o.effs⟩

/-! ### Registers and counters -/

/-- Whether a register name selects the handler bank (R136). -/
def inHandlerBank (q : Seq) (r : BitVec 5) : Bool := q.handler && decide (24 ≤ r.toNat)

/-- Read a general register; g0 reads as zero (R136). -/
def Seq.greg (q : Seq) (r : BitVec 5) : Word :=
  if r = 0 then 0
  else if inHandlerBank q r then SMap.get 0 q.hbank r.toNat
  else SMap.get 0 q.gregs r.toNat

/-- Write a general register; writes to g0 are discarded (R136). -/
def Seq.setGreg (q : Seq) (r : BitVec 5) (v : Word) : Seq :=
  if r = 0 then q
  else if inHandlerBank q r then { q with hbank := SMap.set 0 q.hbank r.toNat v }
  else { q with gregs := SMap.set 0 q.gregs r.toNat v }

/-- Read a general register of a tile. -/
def Tile.greg (t : Tile) (r : BitVec 5) : Word := t.seq.greg r

/-- Write a general register of a tile. -/
def Tile.setGreg (t : Tile) (r : BitVec 5) (v : Word) : Tile := { t with seq := t.seq.setGreg r v }

/-- Register `k` of the register block that `ga` names (R141). -/
def blockReg (ga : BitVec 5) (k : Nat) : BitVec 5 := ga + BitVec.ofNat 5 k

/-- Whether a register block of `n` extends past g31 (R141). -/
def blockTooLong (ga : BitVec 5) (n : Nat) : Bool := decide (32 < ga.toNat + n)

/-- Read a completion counter. -/
def Tile.comp (t : Tile) (n : Nat) : Comp := SMap.get Comp.zero t.seq.comps n

/-- Write a completion counter. -/
def Tile.setComp (t : Tile) (n : Nat) (c : Comp) : Tile :=
  { t with seq := { t.seq with comps := SMap.set Comp.zero t.seq.comps n c } }

/-- Add to COUNT of a completion counter; it wraps (R177). -/
def Tile.addCount (t : Tile) (n rows : Nat) : Tile :=
  t.setComp n ⟨(t.comp n).failed, (t.comp n).count + BitVec.ofNat 32 rows⟩

/-- Add to FAILED of a completion counter; it saturates at 0xFFFF (R177). -/
def Tile.addFailed (t : Tile) (n rows : Nat) : Tile :=
  t.setComp n ⟨BitVec.ofNat 16 (satAdd (t.comp n).failed.toNat rows 0xFFFF), (t.comp n).count⟩

/-- A saturating 8-bit count. -/
def bump8 (x : BitVec 8) : BitVec 8 := if x = 0xFF then x else x + 1
/-- A saturating 16-bit count. -/
def bump16 (x : BitVec 16) : BitVec 16 := if x = 0xFFFF then x else x + 1

/-- A note that names the tile's partition, context and site (R498). -/
def tileNote (env : TileEnv) (t : Tile) (sev code : Nat) (site2 : Option Nat) (d0 d1 : Nat) : FaultNote :=
  { sev := sev, code := code, part := if env.part.toNat < 20 then some env.part.toNat else none, ctx := t.ctx.map (fun c => c.toNat),
    site := some env.site, site2 := site2, unitKind := 0, unit := 0xFF, d0 := d0, d1 := d1 }

/-! ### Exceptions and detected errors -/

/-- Causes of R174. -/
def excIllegalInstr : Nat := 0x01
def excIllegalOperand : Nat := 0x02
def excFetch : Nat := 0x03
def excMisaligned : Nat := 0x04
def excAddress : Nat := 0x05
def excProtected : Nat := 0x06
def excUnreplayable : Nat := 0x10

/-- Whether everything that the tile has issued to its engines is complete and every pending store written (R98,
R173). -/
def workDone (t : Tile) : Bool :=
  decide (t.arr.queue = []) && decide (t.vecQ = []) && decide (t.moveQ = []) && decide (t.spad.stores = [])

/-- Steps 3 and 4 of R173: TS_EXC and TS_EXC_PC are written, MODE becomes exception, and the harbour master is told of
what it has not raised itself. -/
def recordExc (env : TileEnv) (t : Tile) (e : ExcDue) : TOut :=
  let d := BitVec.ofNat 32 e.detail
  let q := { t.seq with mode := .exception, cur := none, excCause := BitVec.ofNat 8 e.cause, excDetail := d,
                        excPc := e.pc, excDue := none }
  ⟨{ t with seq := q },
   if e.own then [.log (tileNote env t 2 0x0101 none (e.cause * 2 ^ 32 + d.toNat) (e.pc.toNat % 2 ^ 27))] else []⟩

/-- An exception (R173): the sequencer issues nothing further, what it has issued completes, and then the exception is
recorded; at once where nothing issued is left. A later one sets EXC_MORE only. -/
def raiseExc (env : TileEnv) (t : Tile) (cause detail : Nat) : TOut :=
  if t.seq.mode = .exception ∨ t.seq.excDue.isSome then TOut.pure { t with seq := { t.seq with excMore := true } }
  else if workDone t then recordExc env t ⟨cause, detail, t.seq.pc, true⟩
  else TOut.pure { t with seq := { t.seq with cur := none, excDue := some ⟨cause, detail, t.seq.pc, true⟩ } }

/-- An exception that waited for issued work is recorded once that is complete (R173). -/
def settleExc (env : TileEnv) (t : Tile) : TOut :=
  match t.seq.excDue with
  | some e => if workDone t then recordExc env t e else TOut.pure t
  | none => TOut.pure t

/-- The detail of an illegal-operand exception (R174): sub-code and the first row concerned. -/
def operandDetail (sub row : Nat) : Nat := sub * 2 ^ 24 + row % 2 ^ 19

/-- Whether the reasons 0x01 to 0x04 of R314 hold; 0 when none does. -/
def stepReason (t : Tile) : Nat :=
  if t.integ.unclean then 1 else if t.spad.stepOverflow then 2 else if t.spad.stepInbound then 3
  else if t.integ.outside then 4 else 0

/-- The reason of R314 for which an error cannot be replayed; 0 when it can. -/
def replayReason (t : Tile) : Nat :=
  if t.integ.replaying then 5 else if t.integ.replayPoint.isNone then 6 else stepReason t

/-- A detected error of a check code in the open step (R312, R314, R316, R321). A tile whose program does not run has no
open step: the error is only recorded (DEDUCED, log 6). -/
def detectedError (env : TileEnv) (t : Tile) (check : Nat) : TOut :=
  let ck := BitVec.ofNat 8 check
  if t.seq.mode = .idle ∨ t.seq.mode = .halted then TOut.pure { t with integ := { t.integ with lastCheck := ck } }
  else if t.integ.replayPending.isSome then
    ⟨{ t with integ := { t.integ with lastCheck := ck, replays := bump16 t.integ.replays } },
     [.log (tileNote env t 1 0x0102 none check 0)]⟩
  else if replayReason t = 0 then
    TOut.pure { t with integ := { t.integ with lastCheck := ck, replayPending := some ck } }
  else
    let r := replayReason t
    let i := { t.integ with lastCheck := ck, lastReason := BitVec.ofNat 8 r,
                            suspect := t.integ.suspect || decide (r = 5) }
    let o := raiseExc env { t with integ := i } excUnreplayable (r * 2 ^ 24 + check)
    if r = 5 ∧ check = 2 then o.emit (.suspect t.integ.partner.toNat) else o

/-- An outside effect within the open step (R314). -/
def Tile.outside (t : Tile) : Tile := { t with integ := { t.integ with outside := true } }

/-! ### Rows and areas -/

/-- Number of scratchpad rows (R99). -/
def rowCount : Nat := 458752
/-- First row of the receive-queue area (R219). -/
def queueAreaRow : Nat := 458496
/-- First row of the check area (R305). -/
def checkAreaRow : Nat := 454016

/-- Whether a row belongs to the area of a descriptor (R121). -/
def Moor.covers (m : Moor) (row : Nat) : Bool :=
  m.valid && decide (m.first.toNat ≤ row / 128) && decide (row / 128 < m.first.toNat + m.count.toNat)

/-- Whether a row lies in a moored area flagged as code (R118). -/
def codeRow (t : Tile) (row : Nat) : Bool := t.spad.moors.any (fun p => p.2.code && p.2.covers row)

/-- Whether a row lies in a moored area of another context (R123). -/
def otherCtxRow (t : Tile) (row : Nat) : Bool :=
  t.spad.moors.any (fun p => p.2.covers row && decide (t.ctx ≠ some p.2.ctx))

/-- Whether a row lies in the check area of a context at check level 2 or 3 (R305). -/
def checkAreaHit (t : Tile) (row : Nat) : Bool :=
  decide (2 ≤ t.integ.level.toNat) && decide (checkAreaRow ≤ row) && decide (row < 458496)

/-- Whether a row is closed to local writes (R118, R305). -/
def writeClosed (t : Tile) (row : Nat) : Bool :=
  decide (queueAreaRow ≤ row) || codeRow t row || checkAreaHit t row

/-- The slabs that rows `first` to `last` touch, as their first touched rows. -/
def slabRows (first last : Nat) : List Nat :=
  (List.range (last / 128 + 1 - first / 128)).map (fun i => if i = 0 then first else (first / 128 + i) * 128)

/-- The first row of a range for which a slab-wise condition holds, none when it holds nowhere. -/
def firstRowWith (p : Nat → Bool) (first last : Nat) : Option Nat := (slabRows first last).find? p

/-- Whether two row ranges overlap. -/
def overlap (a b c d : Nat) : Bool := decide (a ≤ d) && decide (c ≤ b)

/-- Whether the step read set is kept (R119). -/
def readSetOn (t : Tile) : Bool := t.integ.replayPoint.isSome && !t.spad.stepOverflow

/-- The first protected row that a write of rows `first` to `last` meets (R120). -/
def protectedRow (t : Tile) (first last : Nat) : Option Nat :=
  if readSetOn t then
    (t.spad.readSet.filter (fun p => overlap first last p.1 p.2)).foldl (fun a p => some (match a with
      | some r => min r (max first p.1)
      | none => max first p.1)) none
  else none

/-- Why a declared range is refused: a cause and a detail of R174 (R97, R118, R120, R123, R305). DESIGN CHOICE (log
entry 107): where several refusals hold at once the spec gives no order; the model takes a range past the last row
first, then another context's area, a closed write area and a protected row, ranges in the order of R111. -/
def rangeFault (t : Tile) (r : Range) : Option (Nat × Nat) :=
  if rowCount ≤ r.last then some (excIllegalOperand, operandDetail 0x02 r.first)
  else match firstRowWith (otherCtxRow t) r.first r.last with
    | some row => some (excIllegalOperand, operandDetail 0x06 row)
    | none =>
      if !r.write then none else
      match firstRowWith (writeClosed t) r.first r.last with
      | some row => some (excIllegalOperand, operandDetail 0x05 row)
      | none => (protectedRow t r.first r.last).map (fun row => (excProtected, row))

/-- The first refused range of a list. -/
def rangesFault (t : Tile) : List Range → Option (Nat × Nat)
  | [] => none
  | r :: rs => match rangeFault t r with
    | some f => some f
    | none => rangesFault t rs

/-! ### The scoreboard -/

/-- Ranges that an array-engine instruction still holds (R114). -/
def ArrayOp.ranges : ArrayOp → List Range
  | .wload o => o.ranges
  | .stream o => o.ranges
  | .drain o => o.sbRange ++ o.ranges

/-- The source range of a SEND whose rows have not been read: it waits for its entry or its credits (R111, R223). -/
def SendCur.ranges (s : SendCur) : List Range :=
  match s.phase with
  | .miss | .credits => if s.len = 0 then [] else [⟨s.row, s.row + (s.len + 255) / 256 - 1, false⟩]
  | .injecting _ | .done _ => []

/-- The range of the SEND in a place of the channel engine. -/
def sendRanges : Option SendCur → List Range
  | some s => s.ranges
  | none => []

/-- Ranges registered on the scoreboard (R110, R114): of the array, vector and move engines' instructions that are not
complete, and of a SEND that waits in the channel engine's queue or its wait slot. -/
def registered (t : Tile) : List Range :=
  t.arr.queue.flatMap ArrayOp.ranges ++ t.vecQ.flatten ++ t.moveQ.flatMap (fun m => m.readRanges ++ m.writeRanges)
    ++ sendRanges t.chan.cur ++ sendRanges t.chan.parked

/-- Whether two ranges conflict (R113). -/
def conflict (a b : Range) : Bool := (a.write || b.write) && overlap a.first a.last b.first b.last

/-- Whether any range of an instruction conflicts with a registered one (R113). -/
def scoreboardConflict (t : Tile) (rs : List Range) : Bool :=
  rs.any (fun r => (registered t).any (fun g => conflict r g))

/-- Whether fewer entries are free than the instruction declares (R114). -/
def scoreboardFull (t : Tile) (rs : List Range) : Bool := decide (48 < (registered t).length + rs.length)

/-- Whether a range includes the row of a pending store (R116). -/
def storeConflict (t : Tile) (rs : List Range) : Bool :=
  t.spad.stores.any (fun s => rs.any (fun r => decide (r.first ≤ s.addr / 256) && decide (s.addr / 256 ≤ r.last)))

/-- Whether the scoreboard holds an engine instruction at issue (R113, R114, R116). -/
def boardHolds (t : Tile) (rs : List Range) : Bool :=
  scoreboardConflict t rs || scoreboardFull t rs || storeConflict t rs

/-! ### The step read set -/

/-- Whether two row ranges overlap or adjoin (R119). -/
def adjoins (a b c d : Nat) : Bool := decide (a ≤ d + 1) && decide (c ≤ b + 1)

/-- A range merged with every held range it overlaps or adjoins (R119). -/
def mergeRange (set : List (Nat × Nat)) (f l : Nat) : List (Nat × Nat) :=
  let hit := set.filter (fun p => adjoins f l p.1 p.2)
  let rest := set.filter (fun p => !adjoins f l p.1 p.2)
  rest ++ [(hit.foldl (fun a p => min a p.1) f, hit.foldl (fun a p => max a p.2) l)]

/-- Record a read in the step read set (R119). -/
def addRead (t : Tile) (f l : Nat) : Tile :=
  if !readSetOn t then t
  else if t.spad.readSet.any (fun p => adjoins f l p.1 p.2) || decide (t.spad.readSet.length < 64) then
    { t with spad := { t.spad with readSet := mergeRange t.spad.readSet f l } }
  else { t with spad := { t.spad with readsetOverflow := true, stepOverflow := true } }

/-- Record the read ranges of an engine instruction (R119). -/
def addReads (t : Tile) : List Range → Tile
  | [] => t
  | r :: rs => addReads (if r.write then t else addRead t r.first r.last) rs

/-! ### Accesses to the scratchpad -/

/-- Bytes covered by the accesses of one instruction: by row, a mask of 256 bytes. -/
abbrev Cover := SMap Nat

/-- Add `len` bytes from address `a`, within one row. -/
def Cover.addRow (c : Cover) (a len : Nat) : Cover :=
  SMap.mod 0 c (a / 256) (fun m => m ||| ((2 ^ len - 1) <<< (a % 256)))

/-- Add `len` bytes from address `a`; `n` bounds the number of rows. -/
def Cover.addSpan (c : Cover) (a len : Nat) : Nat → Cover
  | 0 => c
  | n + 1 =>
    if len = 0 then c
    else
      let k := min len (256 - a % 256)
      Cover.addSpan (c.addRow a k) (a + k) (len - k) n

/-- The cover of a list of accesses given as address and length. -/
def coverOf : List (Nat × Nat) → Cover
  | [] => []
  | (a, len) :: xs => Cover.addSpan (coverOf xs) a len (len / 256 + 2)

/-- The tensor blocks that a cover touches, ascending. -/
def Cover.blocks (c : Cover) : List Nat := (c.map (fun p => p.1 / 16)).eraseDups

/-- Whether a cover holds every byte of a tensor block (R294, R295). -/
def Cover.whole (c : Cover) (b : Nat) : Bool :=
  (List.range 16).all (fun i => decide (SMap.get 0 c (b * 16 + i) = 2 ^ 256 - 1))

/-- The contents of a tensor block. -/
def blockBytes (sp : Spad) (b : Nat) : List Byte := Memory.readBytes sp.mem (b * 4096) 4096

/-- The side-storage entry of a block. -/
def Spad.sideOf (sp : Spad) (b : Nat) : Side := SMap.get Side.empty sp.side b

/-- A side-storage entry after an instruction wrote the block, whole or in part (R294, R299). -/
def sideAfter (sp : Spad) (parityMode whole : Bool) (b : Nat) : Side :=
  if parityMode then Side.empty
  else if whole then ⟨BitVec.ofNat 32 (crc32c (blockBytes sp b)), .valid⟩
  else match (sp.sideOf b).st with
    | .none => Side.empty
    | _ => ⟨(sp.sideOf b).crc, .stale⟩

/-- Bring the side storage of the named blocks up to date after the bytes are written. -/
def touchBlocks (parityMode : Bool) (whole : Nat → Bool) (sp : Spad) : List Nat → Spad
  | [] => sp
  | b :: bs =>
    touchBlocks parityMode whole
      { sp with side := SMap.set Side.empty sp.side b (sideAfter sp parityMode (whole b) b) } bs

/-- Write bytes, giving them good parity (R128). -/
def Spad.putBytes (sp : Spad) (a : Nat) (bs : List Byte) : Spad :=
  { sp with mem := Memory.writeBytes sp.mem a bs,
            parityBad := SMap.keep (fun k => decide (k < a) || decide (a + bs.length ≤ k)) sp.parityBad }

/-- Write the accesses of one instruction in order. -/
def Spad.putAll (sp : Spad) : List (Nat × List Byte) → Spad
  | [] => sp
  | (a, bs) :: xs => Spad.putAll (sp.putBytes a bs) xs

/-- The writes of one instruction, with their effect on side storage (R294). -/
def Spad.writeAll (sp : Spad) (parityMode : Bool) (ws : List (Nat × List Byte)) : Spad :=
  let c := coverOf (ws.map (fun w => (w.1, w.2.length)))
  touchBlocks parityMode c.whole (sp.putAll ws) c.blocks

/-- Wide accesses of spans given by their lengths: 256 bytes each (R102, R105; log entry 120). -/
def wideOf (lens : List Nat) : Nat := ceilDiv lens.sum 256

/-- The writes of one instruction of a tile, with its wide accesses counted (R294, R392). -/
def Tile.writeAll (t : Tile) (env : TileEnv) (ws : List (Nat × List Byte)) : Tile :=
  Tile.count { t with spad := t.spad.writeAll env.parityMode ws } .wide (wideOf (ws.map (fun w => w.2.length)))

/-- Whether any byte of an access has bad parity (R128). -/
def Spad.parityHit (sp : Spad) (a len : Nat) : Bool :=
  sp.parityBad.any (fun p => p.2 && decide (a ≤ p.1) && decide (p.1 < a + len))

/-- Blocks of a cover that are VALID, covered whole and disagree with their check value (R295). -/
def crcBad (sp : Spad) (c : Cover) : Bool :=
  c.blocks.any (fun b => c.whole b && decide ((sp.sideOf b).st = .valid)
    && decide ((sp.sideOf b).crc ≠ BitVec.ofNat 32 (crc32c (blockBytes sp b))))

/-- Number of block reads of a cover that are not verified (R295). -/
def unverifiedReads (sp : Spad) (c : Cover) : Nat :=
  (c.blocks.filter (fun b => !(c.whole b && decide ((sp.sideOf b).st = .valid)))).length

/-- A byte of bad parity is met (R128): PARITY_ERROR, and a detected error. -/
def parityFound (env : TileEnv) (t : Tile) : TOut :=
  detectedError env { t with spad := { t.spad with parityError := true } } 4

/-- What the block checks of an engine instruction's reads leave (R295, R299): UNVERIFIED counted, and a detected error
for a block that fails its CRC. -/
def checkBlocks (env : TileEnv) (t : Tile) (spans : List (Nat × Nat)) : TOut :=
  let c := coverOf spans
  let u := BitVec.ofNat 16 (satAdd t.integ.unverified.toNat (unverifiedReads t.spad c) 0xFFFF)
  let t1 := if env.parityMode then t else { t with integ := { t.integ with unverified := u } }
  (TOut.pure t1).andIf (!env.parityMode && crcBad t.spad c)
    (fun t => detectedError env { t with integ := { t.integ with blockCrcSeen := true } } 3)

/-- What the checks of an engine instruction's reads leave (R128, R295, R299): those of every byte's parity, and those
of the blocks; the wide accesses are counted (R392). -/
def checkReads (env : TileEnv) (t : Tile) (spans : List (Nat × Nat)) : TOut :=
  ((TOut.pure (t.count .wide (wideOf (spans.map (fun s => s.2))))).andIf (spans.any (fun s => t.spad.parityHit s.1 s.2)) (parityFound env)).andThen
    (fun u => checkBlocks env u spans)

/-- The bytes of one row. -/
def Tile.row (t : Tile) (r : Nat) : List Byte := Memory.readBytes t.spad.mem (r * 256) 256

/-- A write from outside the tile into rows `first` to `last` (R117, R120). -/
def noteInbound (t : Tile) (first last : Nat) : Tile :=
  match protectedRow t first last with
  | some _ => { t with spad := { t.spad with inboundReadset := true, stepInbound := true } }
  | none => t

/-- The access `i` of a column walk (R103, R154): the word's address and the rows of the strip. -/
def walkSpans (row word i : Nat) : List (Nat × Nat) :=
  let w := (word + i) % 32
  let r0 := row + 32 * ((word + i) / 32)
  (List.range 32).map (fun j => ((r0 + j) * 256 + w * 8, 8))

/-- The 256 bytes of an access: a row, or a column access of a walk (R102, R103). -/
def accessSpans (col : Bool) (row word i : Nat) : List (Nat × Nat) :=
  if col then walkSpans row word i else [((row + i) * 256, 256)]

/-- The bytes that a list of spans reads. -/
def readSpans (sp : Spad) : List (Nat × Nat) → List Byte
  | [] => []
  | (a, len) :: xs => Memory.readBytes sp.mem a len ++ readSpans sp xs

/-- Bytes laid out over spans. -/
def writeSpans (bs : List Byte) : List (Nat × Nat) → List (Nat × List Byte)
  | [] => []
  | (a, len) :: xs => (a, bs.take len) :: writeSpans (bs.drop len) xs

/-- Last row touched by `count` accesses of a walk or of rows. -/
def walkLast (col : Bool) (row word count : Nat) : Nat :=
  if col then row + 32 * ((word + count - 1) / 32) + 31 else row + count - 1

/-- Whether a column access of the walk crosses a slab boundary (R104). -/
def walkCrosses (row word count : Nat) : Bool :=
  (List.range ((word + count - 1) / 32 + 1)).any (fun k => decide (96 < (row + 32 * k) % 128))

/-- The range of `count` accesses (R111, R112): whole slabs for column accesses. -/
def walkRange (col : Bool) (row word count : Nat) (write : Bool) : Range :=
  if col then ⟨row / 128 * 128, walkLast col row word count / 128 * 128 + 127, write⟩
  else ⟨row, row + count - 1, write⟩

/-- Leave the instruction at pc: pc moves on by the instruction's length and nothing is held (R139). -/
def Tile.advance (t : Tile) (n : Nat) : Tile :=
  { t with seq := { t.seq with pc := t.seq.pc + BitVec.ofNat 64 n, cur := none } }

/-- Hold the instruction at pc (R131). -/
def Tile.holdAt (t : Tile) (i : TInstr) (kind : WaitKind) : Tile :=
  { t with seq := { t.seq with cur := some ⟨i, kind, 0⟩ } }

/-- Whether a held instruction is a SEND that yields: outside handler mode, with NY 0 (R172, R227). -/
def heldYields (h : Held) : Bool := match h.ins with
  | .send f => !f.ny
  | _ => false

/-- Whether the tile is at a dispatch point (R170): between instructions, at a hold at issue, or in a wait of WAITC,
TIDEWAIT, RECV or a yielding SEND. -/
def atDispatchPoint (t : Tile) : Bool :=
  !t.seq.handler && t.seq.dispatching.isNone && (match t.seq.cur with
    | none => true
    | some h => match h.kind with
      | .waitc | .tidewait | .recv | .scoreboard | .queueFull | .partner => true
      | .send => heldYields h
      | .fence => false)

/-- A PAUSE that waits takes effect at a dispatch point (R178). -/
def settlePause (t : Tile) : Tile :=
  if t.seq.pauseReq ∧ atDispatchPoint t then
    { t with seq := { t.seq with pauseReq := false, paused := true } }
  else t

end Sys2Proof.Machine
end

