-- ==== Sys2Proof/Machine/TileArray.lean ====
section
/-! DEFINITION. The array engine and the drain unit of one tile (chapter 03, R300 to R308). -/

namespace Sys2Proof.Machine

/-- The tries of an instruction at issue: refused with a cause and a detail, held, or issued. -/
inductive Tried where
  | bad (cause detail : Nat)
  | wait (k : WaitKind)
  | done (o : TOut)

/-- Refuse with an illegal operand of a sub-code (R175). -/
def Tried.operand (sub row : Nat) : Tried := .bad excIllegalOperand (operandDetail sub row)

/-- The common tail of an engine instruction's issue: its ranges are checked, the scoreboard and the
queue may hold it, and otherwise it issues (R97, R113 to R118, R131, R132). -/
def issueWith (t : Tile) (rs : List Range) (queueFull : Bool) (go : Tile → TOut) : Tried :=
  match rangesFault t rs with
  | some f => .bad f.1 f.2
  | none =>
    if boardHolds t rs then .wait .scoreboard
    else if queueFull then .wait .queueFull
    else .done (go (addReads t rs))

/-- Consecutive pieces of `w` bytes. -/
def piecesOf (w : Nat) : Nat → List Byte → List (List Byte)
  | 0, _ => []
  | n + 1, bs => bs.take w :: piecesOf w n (bs.drop w)

/-- Rows `first` to `first + n - 1` as accesses. -/
def rowSpans (first n : Nat) : List (Nat × Nat) := (List.range n).map (fun i => ((first + i) * 256, 256))

/-- A range of `n` rows, none when `n` is 0. -/
def rangeOf (first n : Nat) (write : Bool) : List Range :=
  if n = 0 then [] else [⟨first, first + n - 1, write⟩]

/-- The accesses of a list of ranges. -/
def rangeSpans (rs : List Range) : List (Nat × Nat) :=
  rs.flatMap (fun r => rowSpans r.first (r.last + 1 - r.first))

/-- Scale byte of block `b` of a piece; 127 for an unscaled format (R35). -/
def scaleAt (fmt : Nat) (sc : List Byte) (b : Nat) : Nat :=
  if fmtScaled fmt then (sc.getD b 0).toNat else 127

/-- Decoded element k of column n of an operand (R57, R84). -/
def WHold.elem (w : WHold) (n k : Nat) : Nat :=
  decode32 w.fmt (packedElem w.fmt (w.cols.getD n []) k) (scaleAt w.fmt (w.scales.getD n []) (k / 32))

/-- The ascending sum of a list in binary32, beginning at its first element (R81, R84). -/
def sum32From (acc : Nat) : List Nat → Nat
  | [] => acc
  | x :: xs => sum32From (add32 acc x) xs

/-- The ascending sum of a list in binary32. -/
def sum32 : List Nat → Nat
  | [] => 0
  | x :: xs => sum32From x xs

/-- Checksum cell k: the sum of the decoded elements of row k (R84). -/
def WHold.sumCell (w : WHold) (k : Nat) : BitVec 32 :=
  BitVec.ofNat 32 (sum32 ((List.range w.ncount).map (fun n => w.elem n k)))

/-- Checksum cell k: the sum of the absolute decoded elements of row k (R300). -/
def WHold.absCell (w : WHold) (k : Nat) : BitVec 32 :=
  BitVec.ofNat 32 (sum32 ((List.range w.ncount).map (fun n => abs32 (w.elem n k))))

/-- The weight hold with its checksum column formed, at check levels 1 to 3 (R73, R84, R300). -/
def WHold.withChecks (w : WHold) (level : Nat) : WHold :=
  if level = 0 then w
  else { w with checked := true, c := (List.range w.kcount).map w.sumCell,
                a := (List.range w.kcount).map w.absCell }

/-- The width in bytes of one stationary column (R69). -/
def colWidth (fmt : Nat) : Nat := fmtBytes fmt (fmtK fmt)

/-- The ranges of a WLOAD (R111). -/
def wloadRanges (fmt ncount src sscale : Nat) : List Range :=
  rangeOf src (ceilDiv (ncount * colWidth fmt) 256) false
    ++ (if fmtScaled fmt then rangeOf sscale (ceilDiv (ncount * (fmtK fmt / 32)) 256) false else [])

/-- The operand that a WLOAD loads (R69, R71, R80, R95). -/
def loadOperand (t : Tile) (fmt kcount ncount src sscale : Nat) : WHold :=
  WHold.withChecks
    { fmt := fmt, kcount := kcount, ncount := ncount,
      cols := piecesOf (colWidth fmt) ncount
        (Memory.readBytes t.spad.mem (src * 256) (ncount * colWidth fmt)),
      scales := if fmtScaled fmt then piecesOf (fmtK fmt / 32) ncount
        (Memory.readBytes t.spad.mem (sscale * 256) (ncount * (fmtK fmt / 32))) else [],
      checked := false, c := [], a := [] } t.integ.level.toNat

/-- WLOADs that no earlier STREAM stands before are done: the hold and the cells take the operand (R75, R76, R95). -/
def loadFrom : List ArrayOp → List ArrayOp × Option WHold
  | [] => ([], none)
  | .wload o :: r => ((loadFrom r).1, (loadFrom r).2.or (some o.w))
  | .drain d :: r => (.drain d :: (loadFrom r).1, (loadFrom r).2)
  | .stream s :: r => (.stream s :: r, none)

/-- The array engine does the WLOADs whose turn has come (R76, R95). -/
def loadsDone (t : Tile) : Tile :=
  match loadFrom t.arr.queue with
  | (_, none) => t
  | (q, some w) => { t with arr := { t.arr with queue := q, hold := some w, cells := some w } }

/-- The operand that a STREAM issued now meets: that of the last WLOAD before it (R75, R97). -/
def streamOperand (a : Arr) : Option WHold :=
  (a.queue.foldl (fun x o => match o with | .wload l => some l.w | _ => x) none).or a.cells

/-- What the engines do that have no row of their own for it is done: issued VECs and the WLOADs whose turn has come
(log entry 109). -/
def enginesRun (t : Tile) : Tile := { loadsDone t with vecQ := [] }

/-- Issue of WLOAD (R73, R95, R97, R111, R148): it joins the array engine's queue, its operand read (log entry 38). -/
def tryWload (env : TileEnv) (t : Tile) (f : WloadFields) : Tried :=
  let fmt := f.fmt.toNat
  let src := (t.greg f.ga).toNat
  let sscale := (t.greg f.gb).toNat
  let rs := wloadRanges fmt f.ncount.toNat src sscale
  if !arrayFmtOk fmt then .operand 0x01 0
  else if f.kcount.toNat = 0 ∨ fmtK fmt < f.kcount.toNat ∨ f.ncount.toNat = 0 ∨ 128 < f.ncount.toNat then
    .operand 0x03 0
  else issueWith t rs (decide (8 ≤ t.arr.queue.length)) (fun t =>
    let w := loadOperand t fmt f.kcount.toNat f.ncount.toNat src sscale
    checkReads env { t with arr := { t.arr with queue := t.arr.queue ++ [.wload ⟨w, rs⟩], wloadIssued := true } }
      (rangeSpans rs))

/-- Whether a STREAM with a pass count is selected for recomputation (R304). -/
def selectedPass (level : BitVec 2) (passNo : BitVec 32) : Bool :=
  (decide (level = 2) && decide (passNo.toNat % 16 = 0)) || (decide (level = 3) && decide (passNo.toNat % 4 = 0))

/-- The ranges of a STREAM (R111). -/
def streamRanges (fmt k count src sscale : Nat) : List Range :=
  rangeOf src count false
    ++ (if fmtScaled fmt then rangeOf sscale (ceilDiv (count * (k / 32)) 256) false else [])

/-- A STREAM as it issues (R70, R71, R75, R304, R306). -/
def startStream (t : Tile) (f : StreamFields) (w : WHold) (src sscale : Nat) (rs : List Range) : Tile :=
  let n := f.count.toNat
  let passNo := t.integ.passes + 1
  let rows := piecesOf 256 n (Memory.readBytes t.spad.mem (src * 256) (n * 256))
  let bs := fmtK w.fmt / 32
  let scales := if fmtScaled f.fmt.toNat then
      piecesOf bs n (Memory.readBytes t.spad.mem (sscale * 256) (n * bs)) else []
  let o : StreamOp :=
    { fmt := f.fmt.toNat, accMode := f.acc, slot := f.slot.toNat, count := n, next := 0, half := f.half,
      rows := rows, scales := scales, w := w, ranges := rs, passNo := passNo }
  let job : CheckJob :=
    { origin := 0, passNo := passNo, w := w, fmt := f.fmt.toNat, half := f.half, rows := rows,
      scales := scales, digests := [] }
  let checks := if selectedPass t.integ.level passNo then t.integ.checks ++ [⟨passNo, false, job⟩]
    else t.integ.checks
  { t with arr := { t.arr with queue := t.arr.queue ++ [.stream o] },
           integ := { t.integ with passes := passNo, checks := checks } }

/-- Whether the partner's check area is free for the next check copy (R306): no copy of the tile's own is on its way or
awaits its verdict, and no whole copy waits there. -/
def partnerReady (env : TileEnv) (t : Tile) : Bool :=
  env.partnerFree && decide (t.integ.checks = []) && decide (t.integ.copyOut = [])

/-- Issue of STREAM (R70, R72, R74, R79, R97, R111, R148, R304, R306). -/
def tryStream (env : TileEnv) (t : Tile) (f : StreamFields) : Tried :=
  let fmt := f.fmt.toNat
  let n := f.count.toNat
  if !arrayFmtOk fmt then .operand 0x01 0
  else match (if t.arr.wloadIssued then streamOperand t.arr else none) with
  | none => .operand 0x0B 0
  | some w =>
    let src := (t.greg f.ga).toNat
    let sscale := (t.greg f.gb).toNat
    let rs := streamRanges fmt (fmtK w.fmt) n src sscale
    if !arrayPairOk w.fmt fmt then .operand 0x01 0
    else if n = 0 ∨ 4096 < n ∨ 128 < f.slot.toNat + ceilDiv n 32 then .operand 0x03 0
    else if f.half ∧ 128 < fmtBytes fmt (fmtK w.fmt) then .operand 0x03 0
    else if selectedPass t.integ.level (t.integ.passes + 1) && !partnerReady env t && (rangesFault t rs).isNone then
      .wait .partner
    else issueWith t rs (decide (8 ≤ t.arr.queue.length)) (fun t =>
      checkReads env (startStream t f w src sscale rs) (rangeSpans rs))

/-! ### Rows of a STREAM -/

/-- Streamed element k of a row (R70). -/
def streamElem (fmt : Nat) (half : Bool) (row : List Byte) (k : Nat) : Nat :=
  packedElem fmt (if half then row.drop 128 else row) k

/-- The products of column n of a row, k ascending (R38, R44, R80). -/
def rowProducts (w : WHold) (fmt : Nat) (half : Bool) (row sc : List Byte) (n : Nat) : List Nat :=
  (List.range w.kcount).map (fun k =>
    product32 w.fmt (packedElem w.fmt (w.cols.getD n []) k) (scaleAt w.fmt (w.scales.getD n []) (k / 32))
      fmt (streamElem fmt half row k) (scaleAt fmt sc (k / 32)))

/-- The pass sums of a row, one for each column in use (R81). -/
def passSums (w : WHold) (fmt : Nat) (half : Bool) (row sc : List Byte) : List Nat :=
  (List.range w.ncount).map (fun n => sum32 (rowProducts w fmt half row sc n))

/-- The row digest of R306: CRC-32C of 128 pass sums, zero for columns not in use. -/
def rowDigest (sums : List Nat) : BitVec 32 :=
  BitVec.ofNat 32 (crc32c ((List.range 128).flatMap (fun n => leBytes (sums.getD n 0) 4)))

/-- The key of an accumulator element (R78, R94). -/
def accKey (slot row col : Nat) : Nat := slot * 4096 + row * 128 + col

/-- What writing a row's sums leaves: the elements and whether one became infinite or NaN (R79, R83, R96). -/
def writeSums (accMode : Bool) (key : Nat) : SMap (BitVec 32) → List Nat → SMap (BitVec 32) × Bool × Bool
  | m, [] => (m, false, false)
  | m, s :: ss =>
    let old := (SMap.get 0 m key).toNat
    let new := if accMode then add32 old s else s
    let r := writeSums accMode (key + 1) (SMap.set 0 m key (BitVec.ofNat 32 new)) ss
    let wasInf := accMode && (f32.dec old).isInf
    let wasNan := accMode && (f32.dec old).isNan
    (r.1, r.2.1 || ((f32.dec new).isInf && !wasInf), r.2.2 || ((f32.dec new).isNan && !wasNan))

/-- The comparison of R300 for one row: none when it is skipped, else whether it fails. -/
def checksumFails (w : WHold) (fmt : Nat) (half : Bool) (row sc : List Byte) (sums : List Nat) :
    Option Bool :=
  let xs := (List.range w.kcount).map (fun k =>
    decode32 fmt (streamElem fmt half row k) (scaleAt fmt sc (k / 32)))
  let z := sum32 ((xs.zip w.c).map (fun p => mul32 p.1 p.2.toNat))
  let za := sum32 ((xs.zip w.a).map (fun p => mul32 (abs32 p.1) p.2.toNat))
  let s := sum32 sums
  if !((f32.dec z).isFin && (f32.dec za).isFin && (f32.dec s).isFin) then none
  else
    let d := f64.enc ((f32.dec s).sub (f32.dec z)).abs
    let t1 := f64.enc ((FVal.fin false (2 * (w.kcount + w.ncount) + 4) (-24)).mul (f32.dec za))
    let t2 := f64.enc (.fin false (w.kcount * w.ncount + w.kcount + w.ncount) (-149))
    let tau := f64.enc ((f64.dec t1).add (f64.dec t2))
    some ((f64.dec tau).lt (f64.dec d))

/-- The state of a slot row after a STREAM writes it, and whether the step stays clean (R313). -/
def slotRowAfter (st : SlotRow) (accMode : Bool) (ncount : Nat) : SlotRow × Bool :=
  match st, accMode with
  | .readBefore, false => (.clean ncount, false)
  | .readBefore, true => (.readBefore, false)
  | _, false => (.clean ncount, true)
  | .clean n, true => (.clean n, decide (ncount ≤ n))
  | .untouched, true => (.untouched, false)

/-- Whether a DRAIN names a slot and still has to read a row of it (R77). -/
def drainOwes (o : DrainOp) (slot : Nat) : Bool :=
  decide (o.slot ≤ slot) && decide (slot < o.slot + ceilDiv o.rows 32) && decide (o.next < min o.rows ((slot + 1 - o.slot) * 32))

/-- Whether a STREAM names a slot and still has to write a row of it (R77). -/
def streamOwes (o : StreamOp) (slot : Nat) : Bool :=
  decide (o.slot ≤ slot) && decide (slot < o.slot + ceilDiv o.count 32) && decide (o.next < min o.count ((slot + 1 - o.slot) * 32))

/-- The oldest STREAM of the queue, with what stands before and after it (R76). -/
def splitStream : List ArrayOp → Option (List ArrayOp × StreamOp × List ArrayOp)
  | [] => none
  | .stream o :: r => some ([], o, r)
  | .drain d :: r => (splitStream r).map (fun p => (.drain d :: p.1, p.2))
  | .wload w :: r => (splitStream r).map (fun p => (.wload w :: p.1, p.2))

/-- The oldest DRAIN of the queue, with what stands before and after it (R76). -/
def splitDrain : List ArrayOp → Option (List ArrayOp × DrainOp × List ArrayOp)
  | [] => none
  | .drain o :: r => some ([], o, r)
  | .stream s :: r => (splitDrain r).map (fun p => (.stream s :: p.1, p.2))
  | .wload w :: r => (splitDrain r).map (fun p => (.wload w :: p.1, p.2))

/-- Whether an earlier DRAIN keeps a STREAM from its first write into a slot (R77). -/
def drainBlocks (before : List ArrayOp) (slot : Nat) : Bool :=
  before.any (fun o => match o with | .drain d => drainOwes d slot | .stream _ | .wload _ => false)

/-- Whether an earlier STREAM keeps a DRAIN from its first read of a slot (R77). -/
def streamBlocks (before : List ArrayOp) (slot : Nat) : Bool :=
  before.any (fun o => match o with | .stream s => streamOwes s slot | .drain _ | .wload _ => false)

/-- A digest joins the check copy of a selected pass (R306). -/
def addDigest (passNo : BitVec 32) (d : BitVec 32) : List CheckOut → List CheckOut
  | [] => []
  | c :: cs =>
    if c.passNo = passNo ∧ !c.copied then
      { c with job := { c.job with digests := c.job.digests ++ [d] } } :: cs
    else c :: addDigest passNo d cs

/-- The kind as which a multiply-accumulate is counted (R392): by the stationary format's code of R46. -/
def macKind (fmt : Nat) : Act :=
  if fmt < 2 then .macLn else if fmt = 8 then .macFp4 else if fmt < 0xA then .macOfp else .mac16

/-- The next row of a STREAM is written (R75, R77 to R84, R96, R300, R301, R306, R313), and its multiply-accumulates are
counted (R392). -/
def streamRow (env : TileEnv) (t : Tile) (before : List ArrayOp) (o : StreamOp) (after : List ArrayOp) :
    TOut :=
  let j := o.next
  let slot := o.slot + j / 32
  let row := o.rows.getD j []
  let sc := o.scales.getD j []
  let sums := passSums o.w o.fmt o.half row sc
  let wr := writeSums o.accMode (accKey slot (j % 32) 0) t.arr.acc sums
  let rk := slot * 32 + j % 32
  let st := slotRowAfter (SMap.get .untouched t.arr.slotRows rk) o.accMode o.w.ncount
  let left := if j + 1 < o.count then [ArrayOp.stream { o with next := j + 1 }] else []
  let chk := if o.w.checked then checksumFails o.w o.fmt o.half row sc sums else some false
  let arr := { t.arr with acc := wr.1, infSeen := t.arr.infSeen || wr.2.1, nanSeen := t.arr.nanSeen || wr.2.2,
                          slotRows := SMap.set .untouched t.arr.slotRows rk st.1,
                          queue := before ++ left ++ after,
                          checkMismatch := t.arr.checkMismatch || decide (chk = some true) }
  let integ := { t.integ with unclean := t.integ.unclean || !st.2,
                              skipped := if chk = none then bump8 t.integ.skipped else t.integ.skipped,
                              checks := addDigest o.passNo (rowDigest sums) t.integ.checks }
  (TOut.pure ({ t with arr := arr, integ := integ }.count (macKind o.w.fmt) (o.w.kcount * o.w.ncount))).andIf
    (decide (chk = some true)) (fun t => detectedError env t 1)

/-- STREAM_ROW_WRITE (R75): the WLOADs before the oldest STREAM are done, and it writes its next row unless R77 makes the
write wait. -/
def tileStreamRow (env : TileEnv) (t : Tile) : TOut :=
  let t := loadsDone t
  match splitStream t.arr.queue with
  | none => TOut.pure t
  | some (before, o, after) =>
    if drainBlocks before (o.slot + o.next / 32) then TOut.pure t
    else streamRow env t before o after

/-! ### DRAIN -/

/-- C1 and C2 of R87. -/
def geluC1 : Nat := 0x3D372713
def geluC2 : Nat := 0x3FCC422A

/-- The activation of R87. -/
def activation (act v : Nat) : Nat :=
  match act with
  | 0 => v
  | 1 => if (f32.dec v).isNan then f32.nanCode
         else if (FVal.fin false 0 0).lt (f32.dec v) then v else 0
  | 2 =>
    let t := mul32 geluC1 (mul32 (mul32 v v) v)
    let u := mul32 geluC2 (add32 v t)
    div32 v (add32 one32 (exp32 (neg32 u)))
  | 3 => div32 v (add32 one32 (exp32 (neg32 v)))
  | _ => exp32 v

/-- The larger of two numbers in a format: NaN if either is NaN; +0 above −0 (R151). -/
def maxIn (f : FFmt) (x y : Nat) : Nat :=
  let a := f.dec x
  let b := f.dec y
  if a.isNan || b.isNan then f.nanCode
  else if a.lt b then y else if b.lt a then x else if a.sign then y else x

/-- The smaller of two numbers in a format: NaN if either is NaN; −0 below +0 (R151). -/
def minIn (f : FFmt) (x y : Nat) : Nat :=
  let a := f.dec x
  let b := f.dec y
  if a.isNan || b.isNan then f.nanCode
  else if a.lt b then x else if b.lt a then y else if a.sign then x else y

/-- The maximum of a list (R91). -/
def maxList (f : FFmt) : List Nat → Nat
  | [] => f.signAt true + f.infMag
  | x :: xs => xs.foldl (maxIn f) (f.enc (f.dec x))

/-- −∞ in binary32. -/
def negInf32 : Nat := 0xFF800000
/-- +∞ in binary32. -/
def posInf32 : Nat := 0x7F800000

/-- The running maximum and sum of R91: m and l after one row. -/
def runMaxSum (m l : Nat) (ys : List Nat) : Nat × Nat :=
  let mn := maxIn f32 m (maxList f32 ys)
  if (f32.dec mn).isNan ∨ mn = posInf32 then (mn, f32.nanCode)
  else if mn = negInf32 then (mn, 0)
  else
    let lb := sum32 (ys.map (fun y => exp32 (sub32 y mn)))
    (mn, add32 (mul32 l (exp32 (sub32 m mn))) lb)

/-- Whether a top-k entry ranks before another (R92): higher value first, every NaN above +∞, equal
values by lower position. -/
def ranksBefore (a b : Nat × Nat) : Bool :=
  let x := f32.dec a.1
  let y := f32.dec b.1
  if x.isNan && y.isNan then decide (a.2 < b.2)
  else if x.isNan then true
  else if y.isNan then false
  else if y.lt x then true
  else if x.lt y then false
  else decide (a.2 < b.2)

/-- Insertion into a ranked list. -/
def insertRanked (e : Nat × Nat) : List (Nat × Nat) → List (Nat × Nat)
  | [] => [e]
  | x :: xs => if ranksBefore e x then e :: x :: xs else x :: insertRanked e xs

/-- The entry of a place without a candidate (R92). -/
def topkEmpty : Nat × Nat := (negInf32, 0xFFFFFFFF)

/-- The merge of R92: the first k of a record's entries with the row's candidates. -/
def topkMerge (k : Nat) (entries : List (Nat × Nat)) (colbase : BitVec 32) (ys : List Nat) :
    List (Nat × Nat) :=
  let cands := (List.range ys.length).map (fun n =>
    (ys.getD n 0, (colbase + BitVec.ofNat 32 n).toNat))
  let ranked := ((entries.take k) ++ cands).foldl (fun l e => insertRanked e l) []
  let kept := ranked.take k
  kept ++ List.replicate (16 - kept.length) topkEmpty

/-- The fields of a moments record (R93). -/
structure Moments where
  count : Nat
  sum : Nat
  sumsq : Nat
  mean : Nat
  m2 : Nat
  var : Nat
  deriving DecidableEq, Repr

/-- An integer converted to binary32, nearest even. -/
def natTo32 (n : Nat) : Nat := f32.enc (.fin false n 0)

/-- The Welford update of R93 for one column. -/
def Moments.update (r : Moments) (y : Nat) : Moments :=
  let count := satAdd r.count 1 0xFFFFFFFF
  let d1 := sub32 y r.mean
  let mean := add32 r.mean (div32 d1 (natTo32 count))
  let d2 := sub32 y mean
  { count := count, sum := add32 r.sum y, sumsq := add32 r.sumsq (mul32 y y), mean := mean,
    m2 := add32 r.m2 (mul32 d1 d2), var := r.var }

/-- The moments after one row (R93). -/
def Moments.row (r : Moments) (ys : List Nat) : Moments :=
  let q := ys.foldl Moments.update r
  { q with var := div32 q.m2 (natTo32 q.count) }

/-- Size in bytes of a reduction record (R90). -/
def recordSize (red : Nat) : Nat := match red with | 1 => 8 | 2 => 128 | 3 => 32 | _ => 0

/-- Four bytes of a record as a number. -/
def rec32 (bs : List Byte) (i : Nat) : Nat := leNat ((bs.drop i).take 4)

/-- A binary32 number as it is written: every NaN is the NaN of R45. -/
def canon32 (x : Nat) : Nat := if (f32.dec x).isNan then f32.nanCode else x

/-- A record after one row: `old` is what the record area holds, used with CONTINUE (R90 to R93). -/
def recordAfter (red k : Nat) (cont : Bool) (colbase : BitVec 32) (old : List Byte) (ys : List Nat) :
    List Byte :=
  match red with
  | 1 =>
    let r := if cont then runMaxSum (rec32 old 0) (rec32 old 4) ys else runMaxSum negInf32 0 ys
    leBytes r.1 4 ++ leBytes r.2 4
  | 2 =>
    let es := if cont then (List.range 16).map (fun i => (canon32 (rec32 old (8 * i)), rec32 old (8 * i + 4)))
      else List.replicate 16 topkEmpty
    (topkMerge k es colbase ys).flatMap (fun e => leBytes e.1 4 ++ leBytes e.2 4)
  | _ =>
    let r : Moments := if cont then ⟨rec32 old 0, rec32 old 4, rec32 old 8, rec32 old 12, rec32 old 16, 0⟩
      else ⟨0, 0, 0, 0, 0, 0⟩
    let q := r.row ys
    leBytes q.count 4 ++ leBytes q.sum 4 ++ leBytes q.sumsq 4 ++ leBytes q.mean 4 ++ leBytes q.m2 4
      ++ leBytes q.var 4 ++ zeroBytes 8

/-- Rows that each output row takes (R88). -/
def outRowsEach (ofmt cols : Nat) : Nat := if ofmt = 0xC ∧ 64 < cols then 2 else 1

/-- The scale bytes of an output row (R88). -/
def outBlocks (cols : Nat) : Nat := ceilDiv cols 32

/-- The write ranges of a DRAIN (R111). -/
def drainRanges (ofmt rows cols red dst dscale raddr : Nat) : List Range :=
  rangeOf dst (rows * outRowsEach ofmt cols) true
    ++ (if fmtScaled ofmt then rangeOf dscale (ceilDiv (rows * outBlocks cols) 256) true else [])
    ++ (if red = 0 then [] else rangeOf raddr (ceilDiv (rows * recordSize red) 256) true)

/-- The 128 values of two rows (R86). -/
def twoRows (t : Tile) (row : Nat) : List (BitVec 32) :=
  (elemsOf 4 128 (Memory.readBytes t.spad.mem (row * 256) 512)).map (BitVec.ofNat 32)

/-- Whether a format takes stochastic rounding (R58). -/
def stochOk (f : Nat) : Bool := decide (f < 0xA)

/-- Issue of DRAIN (R60, R85 to R90, R97, R111, R148); with CONTINUE the blocks of the record area that it reads whole are
verified now, as they stand (R295). DESIGN CHOICE (log entry 107): the format is checked before counts, and those before
rounding, ranges last. -/
def tryDrain (env : TileEnv) (t : Tile) (f : DrainFields) : Tried :=
  let ofmt := f.ofmt.toNat
  let rows := f.rows.toNat
  let cols := f.cols.toNat
  let red := f.red.toNat
  let dst := (t.greg f.ga).toNat
  let dscale := (t.greg (blockReg f.ga 1)).toNat
  let sb := (t.greg (blockReg f.ga 2)).toNat
  let raddr := (t.greg (blockReg f.ga 3)).toNat
  let colbase := (t.greg (blockReg f.ga 4)).setWidth 32
  let sbRange := if f.sbon then rangeOf sb 4 false else []
  let ws := drainRanges ofmt rows cols red dst dscale raddr
  if blockTooLong f.ga 5 then .bad excIllegalInstr 0
  else if 0xC < ofmt then .operand 0x01 0
  else if rows = 0 ∨ 4096 < rows ∨ 128 < f.slot.toNat + ceilDiv rows 32 ∨ cols = 0 ∨ 128 < cols
      ∨ 4 < f.act.toNat ∨ (red = 2 ∧ (f.k.toNat = 0 ∨ 16 < f.k.toNat))
      ∨ (f.half ∧ 128 < fmtBytes ofmt cols) then .operand 0x03 0
  else if f.round && !stochOk ofmt then .operand 0x07 0
  else issueWith t (sbRange ++ ws) (decide (8 ≤ t.arr.queue.length)) (fun t =>
    let o : DrainOp :=
      { slot := f.slot.toNat, rows := rows, cols := cols, next := 0, ofmt := ofmt, half := f.half,
        stoch := if f.round then some (t.seq.srSeed, t.seq.srCount) else none, act := f.act.toNat,
        red := red, cont := f.cont, k := f.k.toNat, dst := dst, dscale := dscale, raddr := raddr,
        colbase := colbase, sb := if f.sbon then some (twoRows t sb, twoRows t (sb + 2)) else none,
        sbRange := sbRange, ranges := ws, cover := [] }
    let q := if f.round then { t.seq with srCount := t.seq.srCount + BitVec.ofNat 64 rows } else t.seq
    (checkReads env { t with seq := q, arr := { t.arr with queue := t.arr.queue ++ [.drain o] } }
      (rangeSpans sbRange)).andIf (f.cont && decide (red ≠ 0)) (fun t =>
        checkBlocks env t [(raddr * 256, rows * recordSize red)]))

/-- The values y of a drained row (R85 to R87). -/
def drainValues (t : Tile) (o : DrainOp) : List Nat :=
  let base := accKey (o.slot + o.next / 32) (o.next % 32) 0
  (List.range o.cols).map (fun n =>
    let a := (SMap.get 0 t.arr.acc (base + n)).toNat
    activation o.act (match o.sb with
      | none => a
      | some p => fma32 a (p.1.getD n 0).toNat (p.2.getD n 0).toNat))

/-- The writes of one drained row: output bytes, scale bytes and record (R88, R90), and whether an
element saturated (R96). -/
def drainWrites (t : Tile) (o : DrainOp) : List (Nat × List Byte) × Bool :=
  let j := o.next
  let ys := drainValues t o
  let sr := o.stoch.map (fun p => (p.1, p.2 + BitVec.ofNat 64 j))
  let cv := convertRow o.ofmt sr 5 0 ys
  let out := packElems o.ofmt (cv.2.map (fun e => e.1))
  let addr := (o.dst + j * outRowsEach o.ofmt o.cols) * 256 + (if o.half then 128 else 0)
  let b := outBlocks o.cols
  let rsz := recordSize o.red
  let ra := o.raddr * 256 + j * rsz
  ([(addr, out)]
    ++ (if fmtScaled o.ofmt then [(o.dscale * 256 + j * b, cv.1.map (BitVec.ofNat 8))] else [])
    ++ (if o.red = 0 then [] else
        [(ra, recordAfter o.red o.k o.cont o.colbase (Memory.readBytes t.spad.mem ra rsz) ys)]),
   cv.2.any (fun e => e.2))

/-- The next row of a DRAIN is output (R77, R85 to R93, R96, R114, R294, R313). -/
def drainRow (env : TileEnv) (t : Tile) (before : List ArrayOp) (o : DrainOp) (after : List ArrayOp) :
    TOut :=
  let w := drainWrites t o
  let spans := w.1.map (fun p => (p.1, p.2.length))
  let cov := spans.foldl (fun c s => Cover.addSpan c s.1 s.2 (s.2 / 256 + 2)) o.cover
  let rk := (o.slot + o.next / 32) * 32 + o.next % 32
  let st := SMap.get .untouched t.arr.slotRows rk
  let left := if o.next + 1 < o.rows then
    [ArrayOp.drain { o with next := o.next + 1, sbRange := [], cover := cov }] else []
  let hit := o.cont && o.red != 0
    && t.spad.parityHit (o.raddr * 256 + o.next * recordSize o.red) (recordSize o.red)
  let arr := { t.arr with satSeen := t.arr.satSeen || w.2, queue := before ++ left ++ after,
                          slotRows := if st = .untouched then
                            SMap.set .untouched t.arr.slotRows rk .readBefore else t.arr.slotRows }
  let sp := touchBlocks env.parityMode cov.whole (t.spad.putAll w.1) (coverOf spans).blocks
  (TOut.pure ({ t with arr := arr, spad := sp }.count .wide w.1.length)).andIf hit
    (parityFound env)

/-- DRAIN_ROW_OUTPUT (R89): the oldest DRAIN outputs its next row unless R77 makes the read wait. -/
def tileDrainRow (env : TileEnv) (t : Tile) : TOut :=
  match splitDrain t.arr.queue with
  | none => TOut.pure t
  | some (before, o, after) =>
    if streamBlocks before (o.slot + o.next / 32) then TOut.pure t
    else drainRow env t before o after

/-! ### Recomputation -/

/-- Row of the check area's descriptor, of its streamed rows, their scales and the digests (R305). -/
def checkDescRow : Nat := 132
def checkStreamRow : Nat := 136
def checkScaleRow : Nat := 4232
def checkDigestRow : Nat := 4360

/-- Bytes filled with zeros to whole rows. -/
def padRows (bs : List Byte) : List Byte := bs ++ zeroBytes ((256 - bs.length % 256) % 256)

/-- The descriptor of row 132 (R305): its fields in the order the rule lists them, little-endian, from byte 0 (DESIGN
CHOICE, log entry 14). -/
def checkDesc (j : CheckJob) : List Byte :=
  padRows (leBytes j.origin 2 ++ leBytes j.passNo.toNat 4 ++ leBytes j.w.fmt 1 ++ leBytes j.fmt 1 ++ leBytes j.w.kcount 2
    ++ leBytes j.w.ncount 2 ++ leBytes j.rows.length 2 ++ leBytes (flagNat j.half) 1)

/-- What a check copy writes into the partner's check area: rows counted from its first, with their bytes (R305). -/
def checkParts (j : CheckJob) : List (Nat × List Byte) :=
  [(0, padRows j.w.cols.flatten), (128, padRows j.w.scales.flatten), (checkDescRow, checkDesc j), (133, zeroBytes 768),
   (checkStreamRow, padRows j.rows.flatten), (checkScaleRow, padRows j.scales.flatten),
   (checkDigestRow, padRows (j.digests.flatMap (fun d => leBytes d.toNat 4)))]

/-- Bytes of the check area at a row counted from its first. -/
def checkBytes (t : Tile) (row n : Nat) : List Byte := Memory.readBytes t.spad.mem ((checkAreaRow + row) * 256) n

/-- The check pass as the partner reads it from its check area (R305, R307). -/
def checkJobOf (t : Tile) : CheckJob :=
  let d := checkBytes t checkDescRow 15
  let g (at_ n : Nat) : Nat := leNat ((d.drop at_).take n)
  let wf := g 6 1
  let fmt := g 7 1
  let nc := g 10 2
  let count := g 12 2
  let w : WHold :=
    { fmt := wf, kcount := g 8 2, ncount := nc, cols := piecesOf (colWidth wf) nc (checkBytes t 0 (nc * colWidth wf)),
      scales := if fmtScaled wf then piecesOf (fmtK wf / 32) nc (checkBytes t 128 (nc * (fmtK wf / 32))) else [],
      checked := false, c := [], a := [] }
  { origin := g 0 2, passNo := BitVec.ofNat 32 (g 2 4), w := w, fmt := fmt, half := decide (g 14 1 ≠ 0),
    rows := piecesOf 256 count (checkBytes t checkStreamRow (count * 256)),
    scales := if fmtScaled fmt then piecesOf (fmtK wf / 32) count (checkBytes t checkScaleRow (count * (fmtK wf / 32)))
      else [],
    digests := (List.range count).map (fun i => BitVec.ofNat 32 (leNat (checkBytes t (checkDigestRow + i / 64)
      256 |>.drop (i % 64 * 4) |>.take 4))) }

/-- The row digests that a check pass forms (R306, R307). -/
def jobDigests (j : CheckJob) : List (BitVec 32) :=
  (List.range j.rows.length).map (fun i =>
    rowDigest (passSums j.w j.fmt j.half (j.rows.getD i []) (j.scales.getD i [])))

/-- Whether a check area holds a whole copy (R307). -/
def CheckIn.whole (c : CheckIn) : Bool :=
  match c.last with
  | some p => (List.range (p.seq.toNat + 1)).all c.got.contains
  | none => false

/-- Whether the array engine would begin a WLOAD next, or its queue is empty: when a check pass may run (R307). -/
def checkMayRun : List ArrayOp → Bool
  | [] => true
  | .wload _ :: _ => true
  | .stream _ :: _ => false
  | [.drain _] => false
  | .drain _ :: r => checkMayRun r

/-- The verdict of a pass reaches its origin (R308, R315): of a pass whose verdict is awaited no longer it is
discarded. -/
def tileVerdict (env : TileEnv) (t : Tile) (passNo : BitVec 32) (mism : Bool) : TOut :=
  if t.integ.checks.any (fun c => decide (c.passNo = passNo)) then
    let cs := t.integ.checks.filter (fun c => decide (c.passNo ≠ passNo))
    (TOut.pure { t with integ := { t.integ with checks := cs } }).andIf mism
      (fun t => detectedError env t 2)
  else TOut.pure t

/-- A check copy failed in transit (R308): the pass stays unchecked, and the rest of the copy is not sent. -/
def copyFailed (t : Tile) (passNo : BitVec 32) : Tile :=
  if t.integ.checks.any (fun c => decide (c.passNo = passNo)) then
    { t with integ := { t.integ with
        checks := t.integ.checks.filter (fun c => decide (c.passNo ≠ passNo)), copyOut := [],
        unchecked := bump8 t.integ.unchecked } }
  else t

end Sys2Proof.Machine
end

