-- ==== Sys2Proof/Machine/TileMove.lean ====
section
/-! DEFINITION. The move engine of one tile: pushes, fetches, circuit transfers, what it does with the
packets that reach the tile, and their answers (R157 to R160, R185 to R197, R206, R294 to R297,
R309 to R311). -/

namespace Sys2Proof.Machine

/-- End of the HBM range (R342). -/
def hbmEnd : Nat := 0x024000000000
/-- First tile window (R342). -/
def tileWindow : Nat := 0x100000000000
/-- Size of a tile window (R342). -/
def tileWindowSize : Nat := 0x08000000

/-- A remote address of MOVE (R158). -/
inductive Remote where
  | hbm (a : Nat)
  | tile (site row : Nat)
  | bad
  deriving DecidableEq, Repr

/-- Decode the address field of a remote address register (R158). -/
def remoteOf (a : Nat) : Remote :=
  if a % 256 ≠ 0 then .bad
  else if a < hbmEnd then .hbm a
  else if tileWindow ≤ a ∧ a < tileWindow + 480 * tileWindowSize then
    let off := (a - tileWindow) % tileWindowSize
    if off < 0x7000000 then .tile ((a - tileWindow) / tileWindowSize) (off / 256) else .bad
  else .bad

/-- Row counts of the packets of a transfer (R185, R330): 32 rows, cut at every 4 KiB boundary of an
HBM address; `n` bounds the number of packets. -/
def cutRows (hbm : Bool) : Nat → Nat → Nat → List Nat
  | 0, _, _ => []
  | n + 1, a, rows =>
    if rows = 0 then []
    else
      let k := if hbm then min rows (16 - a / 256 % 16) else min rows 32
      k :: cutRows hbm n (a + k * 256) (rows - k)

/-- The header fields that every packet of a tile carries (R186, R210). -/
def basePacket (env : TileEnv) (t : Tile) : Packet :=
  { blankPacket with rgen := env.rgen, ssite := BitVec.ofNat 9 env.site, fsrc := env.selfFab,
                     ctx := t.ctx.getD 0, part := env.part }

/-- The destination of a transfer. -/
structure MoveDest where
  fab : Bool
  fdest : BitVec 15
  remote : Remote
  deriving DecidableEq, Repr

/-- Site, port and ADDR of a packet to a destination, `rows` rows into the transfer (R186, R190). -/
def destFields (env : TileEnv) (d : MoveDest) (rows : Nat) : Nat × Nat × Nat :=
  match d.remote with
  | .hbm a => ((env.edge (a + rows * 256)).1, (env.edge (a + rows * 256)).2, a + rows * 256)
  | .tile s r => (s, 4, r + rows)
  | .bad => (0, 4, 0)

/-- The first source block of some accesses that is VALID, read whole by the instruction and fails its
comparison: its stored value (R295, R296). -/
def storedOfBad (sp : Spad) (c : Cover) (spans : List (Nat × Nat)) : Option Nat :=
  let bs := (spans.map (fun s => s.1 / 4096)).eraseDups
  (bs.find? (fun b => c.whole b && decide ((sp.sideOf b).st = .valid)
      && decide ((sp.sideOf b).crc ≠ BitVec.ofNat 32 (crc32c (blockBytes sp b))))).map
    (fun b => (sp.sideOf b).crc.toNat)

/-- Whether every block of some accesses was read whole and matched (FLAGS [2] of R296). -/
def allVerified (sp : Spad) (c : Cover) (spans : List (Nat × Nat)) : Bool :=
  spans.all (fun s => c.whole (s.1 / 4096) && decide ((sp.sideOf (s.1 / 4096)).st = .valid)
    && decide ((sp.sideOf (s.1 / 4096)).crc = BitVec.ofNat 32 (crc32c (blockBytes sp (s.1 / 4096)))))

/-- A row packet's payload and trailer from the accesses that read it (R296, R299). -/
def withRows (env : TileEnv) (sp : Spad) (c : Cover) (red : Nat) (spans : List (Nat × Nat)) (p : Packet) :
    Packet :=
  let payload := readSpans sp spans
  let lo := spans.take (if (spans.headD (0, 256)).2 = 256 then 16 else 512)
  let hi := spans.drop (if (spans.headD (0, 256)).2 = 256 then 16 else 512)
  sealPacket { p with
    payload := payload, len := BitVec.ofNat 14 payload.length,
    trailer := rowTrailer red env.parityMode (allVerified sp c spans) (storedOfBad sp c lo)
      (storedOfBad sp c hi) payload }

/-- The packets of a push (R159, R185, R186, R296). `done` counts the rows already cut, `k` the packets. -/
def pushPackets (env : TileEnv) (t : Tile) (f : MoveFields) (d : MoveDest) (c : Cover) (row : Nat) :
    Nat → Nat → List Nat → List Packet
  | _, _, [] => []
  | done, k, n :: ns =>
    let red := f.red.toNat
    let spans := (List.range n).flatMap (fun i => accessSpans f.cola row f.word.toNat (done + i))
    let dst := destFields env d done
    let p := { basePacket env t with
      typ := typeOfRed red, fab := d.fab, fdest := d.fdest, last := decide (ns = []),
      dport := BitVec.ofNat 3 dst.2.1, dsite := BitVec.ofNat 9 dst.1, seq := BitVec.ofNat 24 k,
      dcc := if dst.2.1 = 4 then f.dcc else 0, scc := f.lcc, addr := BitVec.ofNat 48 dst.2.2 }
    withRows env t.spad c red spans p :: pushPackets env t f d c row (done + n) (k + 1) ns

/-- The READ packets of a fetch (R159, R187). -/
def fetchPackets (env : TileEnv) (t : Tile) (f : MoveFields) (d : MoveDest) (row : Nat) :
    Nat → Nat → List Nat → List Packet
  | _, _, [] => []
  | done, k, n :: ns =>
    let dst := destFields env d done
    sealPacket { basePacket env t with
      typ := tyRead, fab := d.fab, fdest := d.fdest, last := decide (ns = []),
      dport := BitVec.ofNat 3 dst.2.1, dsite := BitVec.ofNat 9 dst.1, seq := BitVec.ofNat 24 k,
      scc := f.lcc, addr := BitVec.ofNat 48 dst.2.2, len := BitVec.ofNat 14 (n * 256),
      aux := BitVec.ofNat 32 ((row + done) % 2 ^ 19) } :: fetchPackets env t f d row (done + n) (k + 1) ns

/-- The packets of a MOVEC (R185, R206). -/
def circuitPackets (env : TileEnv) (t : Tile) (f : MovecFields) (c : Cover) (row dst : Nat) :
    Nat → Nat → List Nat → List Packet
  | _, _, [] => []
  | done, k, n :: ns =>
    let spans := (List.range n).flatMap (fun i => accessSpans f.cola row f.word.toNat (done + i))
    let p := { basePacket env t with
      typ := typeOfRed f.red.toNat, circ := true, last := decide (ns = []), dport := 4, dsite := 0x1FF,
      seq := BitVec.ofNat 24 k, dcc := f.dcc, scc := f.lcc, addr := BitVec.ofNat 48 (dst + done) }
    withRows env t.spad c f.red.toNat spans p :: circuitPackets env t f c row dst (done + n) (k + 1) ns

/-- The tally of a contribution (R309). -/
def tallyOf (red : Nat) (payload : List Byte) (viaCircuit : Bool) (circuit : BitVec 8) (dsite : BitVec 9)
    (dcc : BitVec 12) (fab : Bool) (fdest : BitVec 15) : Tally :=
  let es := redElems red payload
  { tide := 0, crc := BitVec.ofNat 64 (crc64 payload), sum := BitVec.ofNat 64 (sum64 es),
    absSum := BitVec.ofNat 64 (sum64 (abs64s es)), count := BitVec.ofNat 32 es.length, seqno := 0,
    valid := true, red := BitVec.ofNat 2 red, viaCircuit := viaCircuit, dsite := dsite,
    circuit := circuit, dcc := dcc, fab := fab, fdest := fdest }

/-- A contribution's last row has left: its tally is logged (R309, R320). -/
def logTally (env : TileEnv) (t : Tile) (y : Tally) : Tile :=
  let n := t.integ.seqno + 1
  let y := { y with tide := env.tide, seqno := n }
  { t with integ := { t.integ with
      seqno := n, tallyLog := SMap.set Tally.empty t.integ.tallyLog (n.toNat % 16) y,
      stepTallies := t.integ.stepTallies ++ [y] } }

/-- Rows of a packet as its source counts them: payload rows, or the rows that a READ asks for. -/
def packetRows (p : Packet) : Nat := if p.typ = tyRead then p.len.toNat / 256 else rowsOf p.payload

/-- The router at which a packet leaves the mesh: its destination site, or that of a link die (R190, R266). -/
def packetSite (env : TileEnv) (p : Packet) : Nat :=
  ((if p.fab then env.exitSite p.fdest p.seq.toNat else none)).getD p.dsite.toNat

/-- Whether the route of R191 exists for a packet of the tile. -/
def routableTo (env : TileEnv) (p : Packet) : Bool := env.routable (packetSite env p)

/-- UNROUTABLE of R192: a severity 1 fault that names both sites. -/
def unroutableNote (env : TileEnv) (t : Tile) (p : Packet) : FaultNote :=
  tileNote env t 1 0x0202 (some (packetSite env p)) 0 0

/-- A free packet is outstanding (R195). -/
def outstanding (t : Tile) (p : Packet) (rows ident timeout : Nat) (use : OutUse) : Tile :=
  { t with outst := t.outst ++ [{ pkt := { p with payload := [], trailer := [] }, rows := rows,
                                  sentAt := t.seq.activeCycles, ident := ident, use := use, timeout := timeout }] }

/-- One packet leaves a move's list: it enters the circuit, is outstanding, or is unroutable and its rows
fail at once (R159, R192, R195, R206). -/
def launchPacket (env : TileEnv) (t : Tile) (ident : Nat) (p : Packet) (circuit : Option Nat) : TOut :=
  match circuit with
  | some n => ⟨t.addCount p.scc.toNat (packetRows p), [.circuit n p]⟩
  | none =>
    if !routableTo env p then
      ⟨t.addFailed p.scc.toNat (packetRows p), [.log (unroutableNote env t p)]⟩
    else ⟨outstanding t p (packetRows p) ident env.ackTimeout .move, [.inject p]⟩

/-- What a move still waits for, after an injection: it leaves the queue when its last row has left, a
fetch when its last row is written (R166, R195). -/
def settleMove (env : TileEnv) (t : Tile) (m : MoveOp) (rest : List MoveOp) : Tile :=
  if m.waiting = [] then
    let t := match m.tally with
      | some y => logTally env t y
      | none => t
    let m' := { m with tally := none, readRanges := [] }
    if m.rowsDue = 0 then { t with moveQ := rest } else { t with moveQ := m' :: rest }
  else { t with moveQ := m :: rest }

/-- Whether the move engine may inject one more packet (R195, R209). -/
def mayInject (t : Tile) (circuit : Bool) : Bool :=
  t.stopped.isNone && (circuit || decide (t.outst.length < 64))

/-- The circuit entry that a move's packets enter, by the first waiting packet. -/
def moveCircuit (m : MoveOp) : Option Nat :=
  match m.waiting with
  | p :: _ => if p.circ then some m.word else none
  | [] => none

/-- The oldest move injects one more packet, where it may (R132, R195): the next move starts when the one before it has
made its last local access, a fetch's being the write of its last row. -/
def pumpMove (env : TileEnv) (t : Tile) : Option TOut :=
  match t.moveQ with
  | [] => none
  | m :: rest =>
    match m.waiting with
    | [] => none
    | p :: ps =>
      if !mayInject t p.circ then none
      else
        let failed := !p.circ && !routableTo env p
        let m' := { m with waiting := ps, rowsDue := if failed && m.fetch then m.rowsDue - packetRows p
                                                     else m.rowsDue }
        some ((launchPacket env { t with moveQ := [] } m.ident p (moveCircuit m)).map (fun u =>
          settleMove env u m' rest))

/-- One more packet of a check copy leaves, where it may (R195, R306). -/
def pumpCopy (env : TileEnv) (t : Tile) : Option TOut :=
  match t.integ.copyOut, t.integ.checks.find? (fun c => c.copied) with
  | p :: ps, some c =>
    if !mayInject t false then none
    else if !routableTo env p then some ⟨copyFailed t c.passNo, [.log (unroutableNote env t p)]⟩
    else
      let t := { t with integ := { t.integ with copyOut := ps } }
      some ⟨outstanding t p 0 0 env.ackTimeout (.copy c.passNo), [.inject p]⟩
  | _, _ => none

/-- The sending state of a channel's stream (R242). -/
def Chan.stream (c : Chan) (i : Nat) : SendStream := SMap.get SendStream.new c.streams i

/-- Whether an entry is pinned (R241). -/
def Chan.pinned (c : Chan) (l : CacheLine) : Bool := decide ((c.stream l.index.toNat).out ≠ [])

/-- Whether the channel cache has a line for one more entry: a free one, or one that is not pinned (R241). -/
def Chan.hasLine (c : Chan) : Bool := decide (c.cache.length < 64) || c.cache.any (fun l => !c.pinned l)

/-- The READ of a channel table entry (R243). DESIGN CHOICE (log entry 110): AUX holds the channel index and bit 31. -/
def entryPacket (env : TileEnv) (t : Tile) (chan : BitVec 16) : Packet :=
  let a := env.chBase + 64 * chan.toNat
  sealPacket { basePacket env t with
    typ := tyRead, last := true, dport := BitVec.ofNat 3 (env.edge a).2, dsite := BitVec.ofNat 9 (env.edge a).1,
    addr := BitVec.ofNat 48 a, len := 64, aux := BitVec.ofNat 32 (chan.toNat + 2 ^ 31) }

/-- The READ of an entry that the tile misses and has not asked for leaves, where it may (R195, R243). To an unroutable
edge router it is not injected, and it fails after one cycle (R192). -/
def pumpEntry (env : TileEnv) (t : Tile) : Option TOut :=
  match t.chan.misses.find? (fun i => !t.outst.any (fun o => decide (o.use = .entry i))) with
  | none => none
  | some i =>
    let p := entryPacket env t i
    if !mayInject t false || !t.chan.hasLine then none
    else if routableTo env p then some ⟨outstanding t p 0 0 env.ackTimeout (.entry i), [.inject p]⟩
    else some ⟨outstanding t p 0 0 0 (.entry i), [.log (unroutableNote env t p)]⟩

/-- The READs of the entries that the tile misses leave, at most `n` of them. -/
def pumpReadsN (env : TileEnv) : Nat → Tile → TOut
  | 0, t => TOut.pure t
  | n + 1, t => match pumpEntry env t with
    | some o => o.andThen (pumpReadsN env n)
    | none => TOut.pure t

/-- The READs of the entries that the tile misses leave as far as they may (R241, R243). -/
def pumpReads (env : TileEnv) (t : Tile) : TOut := pumpReadsN env t.chan.misses.length t

/-- Inject what waits, in order: moves, then a check copy, then reads of channel entries (log entry 110); at most `n`
packets. -/
def pump (env : TileEnv) : Nat → Tile → TOut
  | 0, t => TOut.pure t
  | n + 1, t => match ((pumpMove env t).or (pumpCopy env t)).or (pumpEntry env t) with
    | some o => o.andThen (pump env n)
    | none => TOut.pure t

/-- As many packets as may be waiting. -/
def pumpAll (env : TileEnv) (t : Tile) : TOut :=
  pump env ((t.moveQ.map (fun m => m.waiting.length)).sum + t.integ.copyOut.length + t.chan.misses.length) t

/-- The local range of a MOVE or MOVEC (R111, R112). -/
def localRange (cola : Bool) (row word rows : Nat) (write : Bool) : List Range :=
  [walkRange cola row word rows write]

/-- A move joins the queue and begins to inject (R132, R314). -/
def startMove (env : TileEnv) (t : Tile) (m : MoveOp) : TOut :=
  pumpAll env { t.outside with moveQ := t.moveQ ++ [{ m with ident := t.nextIdent }],
                               nextIdent := t.nextIdent + 1 }

/-- Issue of MOVE (R157 to R160, R185, R192, R195, R309). -/
def tryMove (env : TileEnv) (t : Tile) (fetch : Bool) (f : MoveFields) : Tried :=
  let row := (t.greg f.ga).toNat
  let rem := (t.greg (blockReg f.ga 1)).toNat
  let rows := (t.greg (blockReg f.ga 2)).toNat
  let fab := bitOf rem 63
  let d : MoveDest :=
    { fab := fab, fdest := BitVec.ofNat 15 (bitsOf rem 48 15), remote := remoteOf (rem % 2 ^ 48) }
  let hbm : Bool := match d.remote with | .hbm _ => true | _ => false
  let rs := localRange f.cola row f.word.toNat rows fetch
  if blockTooLong f.ga 3 ∨ f.red = 3 then .bad excIllegalInstr 0
  else if rows = 0 ∨ 65536 < rows then .operand 0x03 0
  else if d.remote = .bad ∨ (!fab ∧ bitsOf rem 48 15 ≠ 0) ∨ (f.red ≠ 0 ∧ hbm ∧ !fetch) then .operand 0x09 0
  else if f.cola && walkCrosses row f.word.toNat rows then .operand 0x04 row
  else issueWith t rs (decide (8 ≤ t.moveQ.length)) (fun t =>
    let cuts := cutRows hbm (rows + 1) (rem % 2 ^ 48) rows
    if fetch then
      startMove env t
        { waiting := fetchPackets env t f d row 0 0 cuts, tally := none, readRanges := [], writeRanges := rs,
          rowsDue := rows, localRow := row, cola := f.cola, word := f.word.toNat, red := f.red.toNat,
          fetch := true, ident := 0 }
    else
      let spans := (List.range rows).flatMap (accessSpans f.cola row f.word.toNat)
      let ps := pushPackets env t f d (coverOf spans) row 0 0 cuts
      let tally := if f.red = 0 then none else
        some (tallyOf f.red.toNat (readSpans t.spad spans) false 0
          (BitVec.ofNat 9 (destFields env d 0).1) f.dcc fab d.fdest)
      (checkReads env t spans).andThen (fun t => startMove env t
        { waiting := ps, tally := tally, readRanges := rs, writeRanges := [], rowsDue := 0, localRow := row,
          cola := f.cola, word := f.word.toNat, red := f.red.toNat, fetch := false, ident := 0 }))

/-- Whether a circuit entry may be entered by the running context at the tile port (R206). -/
def circuitUsable (env : TileEnv) (t : Tile) (n : Nat) : Bool :=
  let v := (SMap.get 0 env.circuits n).toNat
  bitOf v 63 && decide (bitsOf v 58 5 = env.part.toNat) && decide (some (BitVec.ofNat 3 (bitsOf v 55 3)) = t.ctx)
    && decide (bitsOf v 7 3 = 4)

/-- Issue of MOVEC (R157, R159, R160, R185, R206, R309). -/
def tryMovec (env : TileEnv) (t : Tile) (f : MovecFields) : Tried :=
  let row := (t.greg f.ga).toNat
  let dst := (t.greg (blockReg f.ga 1)).toNat
  let rows := (t.greg (blockReg f.ga 2)).toNat
  let rs := localRange f.cola row f.word.toNat rows false
  if blockTooLong f.ga 3 ∨ f.red = 3 then .bad excIllegalInstr 0
  else if rows = 0 ∨ 65536 < rows then .operand 0x03 0
  else if !circuitUsable env t f.circ.toNat then .operand 0x09 0
  else if f.cola && walkCrosses row f.word.toNat rows then .operand 0x04 row
  else issueWith t rs (decide (8 ≤ t.moveQ.length)) (fun t =>
    let spans := (List.range rows).flatMap (accessSpans f.cola row f.word.toNat)
    let ps := circuitPackets env t f (coverOf spans) row dst 0 0 (cutRows false (rows + 1) 0 rows)
    let tally := if f.red = 0 then none else
      some (tallyOf f.red.toNat (readSpans t.spad spans) true f.circ 0x1FF f.dcc false 0)
    (checkReads env t spans).andThen (fun t => startMove env t
      { waiting := ps, tally := tally, readRanges := rs, writeRanges := [], rowsDue := 0, localRow := row,
        cola := f.cola, word := f.circ.toNat, red := f.red.toNat, fetch := false, ident := 0 }))

/-! ### Packets that reach the tile -/

/-- The header of an answer to a packet (R187, R194): addressed to its source, carrying its SCC as DCC. -/
def answerTo (env : TileEnv) (p : Packet) (ty : BitVec 8) (nack : Bool) : Packet :=
  { blankPacket with typ := ty, fab := p.fab, nack := nack, last := p.last, rgen := env.rgen, dport := 4,
                     dsite := p.ssite, ssite := BitVec.ofNat 9 env.site, fdest := p.fsrc, fsrc := env.selfFab,
                     seq := p.seq, ctx := p.ctx, part := p.part, dcc := p.scc }

/-- The ACK of a row packet (R194); AUX names the rows. -/
def ackOf (env : TileEnv) (p : Packet) (nack : Bool) : Packet :=
  sealPacket { answerTo env p tyAck nack with aux := BitVec.ofNat 32 (rowsOf p.payload) }

/-- The READ_DATA with NACK that refuses a READ (R194). -/
def readNack (env : TileEnv) (p : Packet) : Packet :=
  sealPacket { answerTo env p tyReadData true with aux := p.aux }

/-- A row packet is dropped at the tile (R197, R206): its rows fail at the destination counter, a free
packet is answered with NACK, and the drop is logged and counted. -/
def dropRows (env : TileEnv) (t : Tile) (p : Packet) (f : FaultNote) : TOut :=
  let o : TOut := ⟨t.addFailed p.dcc.toNat (rowsOf p.payload), [.log f, .dropped]⟩
  if p.circ then o else o.emit (.inject (ackOf env p true))

/-- Why rows from outside are closed at the tile (R117, R118, R123, R197, R305): 1 another context's
moored area, 2 a row beyond the scratchpad, the receive-queue area, a code area or the check area. -/
def inboundClosed (t : Tile) (first n : Nat) : Nat :=
  if rowCount < first + n then 2
  else match firstRowWith (otherCtxRow t) first (first + n - 1) with
    | some _ => 1
    | none => match firstRowWith (writeClosed t) first (first + n - 1) with
      | some _ => 2
      | none => 0

/-- The fault of a drop for a row of R197's table. -/
def dropNote (env : TileEnv) (t : Tile) (sev row : Nat) (p : Packet) : FaultNote :=
  tileNote env t sev 0x0203 none (p.typ.toNat + row * 256) 0

/-- A packet or message fails R297 or R298: TRANSPORT is counted and logged. -/
def countTransport (env : TileEnv) (t : Tile) (p : Packet) : TOut :=
  ⟨{ t with integ := { t.integ with transport := bump8 t.integ.transport, transportSeen := true } },
   [.log (tileNote env t 1 0x0401 (some p.ssite.toNat) 0 0)]⟩

/-- The writes that put a payload into rows from `row` on. -/
def payloadWrites (row : Nat) (bs : List Byte) : List (Nat × List Byte) := [(row * 256, bs)]

/-- Elementwise addition of two byte strings of one RED format (R159, R277). -/
def addElems (red : Nat) (old new : List Byte) : List Byte :=
  if red = 1 then
    ((elemsOf 4 (new.length / 4) old).zip (elemsOf 4 (new.length / 4) new)).flatMap
      (fun p => leBytes (add32 p.1 p.2) 4)
  else
    ((elemsOf 2 (new.length / 2) old).zip (elemsOf 2 (new.length / 2) new)).flatMap
      (fun p => leBytes (fbf16.enc ((fbf16.dec p.1).add (fbf16.dec p.2))) 2)

/-- The tally test of R310 for a packet: none when it is skipped, else whether it fails. -/
def tallyFails (red : Nat) (tr old inc new : List Byte) : Option Bool :=
  let eo := redElems red old
  let ei := redElems red inc
  let en := redElems red new
  let sin := sum64 ei
  let sabs := sum64 (abs64s ei)
  let so := sum64 eo
  let sao := sum64 (abs64s eo)
  let sn := sum64 en
  let tsum := leNat ((tr.drop 16).take 8)
  let tabs := leNat ((tr.drop 24).take 8)
  let c := ei.length
  let add (x y : Nat) : Nat := f64.enc ((f64.dec x).add (f64.dec y))
  let mul (x y : Nat) : Nat := f64.enc ((f64.dec x).mul (f64.dec y))
  if [sin, sabs, so, sao, sn, tsum, tabs].any (fun x => !(f64.dec x).isFin) then none
  else if sin ≠ tsum ∨ sabs ≠ tabs then some true
  else
    let u : FVal := if red = 1 then .fin false 1 (-24) else .fin false 1 (-8)
    let eta : FVal := if red = 1 then .fin false 1 (-149) else .fin false 1 (-133)
    let t := add so sin
    let d := f64.enc ((f64.dec sn).sub (f64.dec t)).abs
    let a := add sao tabs
    let k := add (f64.enc u) (mul (f64.enc (.fin false (c + 2) 0)) (f64.enc (.fin false 1 (-51))))
    let tau := add (mul k a) (f64.enc ((FVal.fin false c 0).mul eta))
    some ((f64.dec tau).lt (f64.dec d))

/-- What a checked reduce-on-receive packet leaves (R310, R311), its rows being written. -/
def settleTally (env : TileEnv) (t : Tile) (p : Packet) (fails : Option Bool) : TOut :=
  let rows := rowsOf p.payload
  match fails with
  | some true =>
    let i := { t.integ with tallyMismatch := true, tally := bump8 t.integ.tally }
    ⟨{ t with integ := i }.addFailed p.dcc.toNat rows,
     [.log (tileNote env t 1 0x0402 (some p.ssite.toNat) p.dcc.toNat 0)]⟩
  | some false => TOut.pure (t.addCount p.dcc.toNat rows)
  | none => TOut.pure ({ t with integ := { t.integ with skipped := bump8 t.integ.skipped } }.addCount
      p.dcc.toNat rows)

/-- A checked row packet is written or added, and counted (R159, R277, R294, R310, R311). -/
def applyRows (env : TileEnv) (t : Tile) (p : Packet) : TOut :=
  let red := redOfType p.typ
  let row := p.addr.toNat
  let rows := rowsOf p.payload
  let t := noteInbound t row (row + rows - 1)
  if red = 0 then TOut.pure ((t.writeAll env (payloadWrites row p.payload)).addCount p.dcc.toNat rows)
  else
    let old := Memory.readBytes t.spad.mem (row * 256) p.payload.length
    let new := addElems red old p.payload
    let hit := t.spad.parityHit (row * 256) p.payload.length
    let fails := if trailerParityMode p.trailer then some false else tallyFails red p.trailer old p.payload new
    ((TOut.pure t).andIf hit (parityFound env)).andThen
      (fun t => settleTally env (t.writeAll env (payloadWrites row new)) p fails)

/-- Whether a row packet is part of a check copy (R306). DESIGN CHOICE (log entry 46): AUX [31] of a WRITE marks it. -/
def isCopy (p : Packet) : Bool := decide (p.typ = tyWrite) && !p.circ && bitOf p.aux.toNat 31

/-- Whether a check copy's rows lie in the check area of a context at level 2 or 3 (R305). -/
def copyFits (t : Tile) (p : Packet) : Bool :=
  decide (2 ≤ t.integ.level.toNat) && decide (checkAreaRow ≤ p.addr.toNat)
    && decide (p.addr.toNat + rowsOf p.payload ≤ queueAreaRow)

/-- The check area after one more packet of a copy: packet 0 begins a new copy. -/
def CheckIn.take (c : Option CheckIn) (p : Packet) : CheckIn :=
  let c : CheckIn := match c with
    | some c => if c.origin = p.ssite.toNat ∧ p.seq ≠ 0 then c else ⟨p.ssite.toNat, [], none⟩
    | none => ⟨p.ssite.toNat, [], none⟩
  { c with got := c.got ++ [p.seq.toNat], last := if p.last then some p else c.last }

/-- A checked packet of a check copy is written into the check area; its last packet is answered by the verdict (R305,
R306, R308). -/
def takeCopy (env : TileEnv) (t : Tile) (p : Packet) : TOut :=
  let t := noteInbound t p.addr.toNat (p.addr.toNat + rowsOf p.payload - 1)
  let t := t.writeAll env (payloadWrites p.addr.toNat p.payload)
  let o := TOut.pure { t with integ := { t.integ with checkIn := some (CheckIn.take t.integ.checkIn p) } }
  if p.last then o else o.emit (.inject (ackOf env p false))

/-- A packet of a check copy at the partner (R297, R305, R306). -/
def tileCopy (env : TileEnv) (t : Tile) (p : Packet) : TOut :=
  if !copyFits t p then dropRows env t p (dropNote env t 1 9 p)
  else if !rowPacketOk p then (countTransport env t p).emit (.inject (ackOf env p true))
  else takeCopy env t p

/-- WRITE, WRITE_ADD32 or WRITE_ADD16 at a tile that the router delivers it to (R194, R197, R206, R297,
R310). -/
def tileRows (env : TileEnv) (t : Tile) (p : Packet) : TOut :=
  if isCopy p then tileCopy env t p
  else match inboundClosed t p.addr.toNat (rowsOf p.payload) with
  | 1 => dropRows env t p (tileNote env t 1 0x0204 (some p.ssite.toNat) 0 0)
  | 2 => dropRows env t p (dropNote env t 1 9 p)
  | _ =>
    if !rowPacketOk p then
      let o := countTransport env t p
      if p.circ then o.map (fun t => t.addFailed p.dcc.toNat (rowsOf p.payload))
      else o.emit (.inject (ackOf env p true))
    else
      let o := applyRows env t p
      if p.circ then o else o.emit (.inject (ackOf env p false))

/-- READ at a tile (R194): the rows go back in READ_DATA, or NACK where they are closed. -/
def tileRead (env : TileEnv) (t : Tile) (p : Packet) : TOut :=
  let row := p.addr.toNat
  let n := p.len.toNat / 256
  if rowCount < row + n then
    ⟨t, [.log (dropNote env t 1 9 p), .dropped, .inject (readNack env p)]⟩
  else if (firstRowWith (otherCtxRow t) row (row + n - 1)).isSome then
    ⟨t, [.log (tileNote env t 1 0x0204 (some p.ssite.toNat) 0 0), .dropped, .inject (readNack env p)]⟩
  else
    let spans := rowSpans row n
    let c := coverOf spans
    (checkReads env t spans).emit
      (.inject (withRows env t.spad c 0 spans { answerTo env p tyReadData false with aux := p.aux }))

/-- Whether an outstanding packet is the one that an answer answers (R194, R195). -/
def answers (p : Packet) (o : Outstanding) : Bool :=
  decide (o.pkt.seq = p.seq) && decide (o.pkt.scc = p.dcc) && decide (o.pkt.fab = p.fab)
    && (decide (p.typ = tyReadData) == decide (o.pkt.typ = tyRead))
    && (if p.typ = tyReadData then decide (o.pkt.aux = p.aux) else true)
    && (p.fab || decide (o.pkt.dsite = p.ssite))

/-- The first outstanding packet that passes `q`, and the others. -/
def takeOut (q : Outstanding → Bool) : List Outstanding → Option (Outstanding × List Outstanding)
  | [] => none
  | o :: r => if q o then some (o, r) else (takeOut q r).map (fun x => (x.1, o :: x.2))

/-- Rows of a fetch are done, written or failed; the fetch ends with its last (R114, R166). -/
def rowsDone (ident rows : Nat) : List MoveOp → List MoveOp
  | [] => []
  | m :: ms =>
    if m.ident = ident ∧ m.fetch then
      if m.rowsDue ≤ rows ∧ m.waiting = [] then ms else { m with rowsDue := m.rowsDue - rows } :: ms
    else m :: rowsDone ident rows ms

/-- An outstanding packet of a move or of a check copy is finished as failed (R194, R195, R308). -/
def finishFailed (env : TileEnv) (t : Tile) (o : Outstanding) (rest : List Outstanding) : TOut :=
  match o.use with
  | .copy n => pumpAll env (copyFailed { t with outst := rest } n)
  | _ => pumpAll env
    { (t.addFailed o.pkt.scc.toNat o.rows) with outst := rest, moveQ := rowsDone o.ident o.rows t.moveQ }

/-- ACK at its source (R194, R195): the rows join COUNT or FAILED of the source counter, and a waiting
packet may go; that of a check copy's last packet carries the verdict in AUX [31] (R308); an answer after the timeout is
discarded and counted. -/
def tileAck (env : TileEnv) (t : Tile) (p : Packet) : TOut :=
  match takeOut (answers p) t.outst with
  | none => ⟨t, [.lateAck]⟩
  | some (o, rest) =>
    if p.nack then finishFailed env t o rest
    else match o.use with
      | .copy n =>
        let t := { t with outst := rest }
        (if o.pkt.last then tileVerdict env t n (bitOf p.aux.toNat 31) else TOut.pure t).andThen (pumpAll env)
      | _ => pumpAll env { (t.addCount p.dcc.toNat p.aux.toNat) with outst := rest }

/-- The writes of fetched rows: `done` rows into the fetch (R154, R159). -/
def fetchWrites (m : MoveOp) (t : Tile) (done : Nat) (bs : List Byte) : List (Nat × List Byte) :=
  let spans := (List.range (rowsOf bs)).flatMap (fun i => accessSpans m.cola m.localRow m.word (done + i))
  let new := if m.red = 0 then bs else addElems m.red (readSpans t.spad spans) bs
  writeSpans new spans

/-- The spans that a fetch adds into: with RED their old rows are read (R128, R159). -/
def fetchSpans (m : MoveOp) (done : Nat) (bs : List Byte) : List (Nat × Nat) :=
  if m.red = 0 then [] else (List.range (rowsOf bs)).flatMap (fun i => accessSpans m.cola m.localRow m.word (done + i))

/-- READ_DATA of a fetch at its requester (R128, R194, R195, R297): its rows are checked, written and counted, or
fail. -/
def fetchData (env : TileEnv) (t : Tile) (p : Packet) (o : Outstanding) (rest : List Outstanding) : TOut :=
  if p.nack then finishFailed env t o rest
  else if !rowPacketOk p then
    (countTransport env t p).andThen (fun t => finishFailed env t o rest)
  else match t.moveQ.find? (fun m => decide (m.ident = o.ident) && m.fetch) with
    | none => pumpAll env { t with outst := rest }
    | some m =>
      let rows := rowsOf p.payload
      let done := o.pkt.aux.toNat - m.localRow
      ((TOut.pure t).andIf ((fetchSpans m done p.payload).any (fun s => t.spad.parityHit s.1 s.2)) (parityFound env)).andThen
        (fun t =>
          let t := t.writeAll env (fetchWrites m t done p.payload)
          pumpAll env { (t.addCount p.dcc.toNat rows) with outst := rest, moveQ := rowsDone o.ident rows t.moveQ })

/-! ### Check copies (R306 to R308) -/

/-- A part of a check copy cut into packets of up to 32 rows: rows from the check area's first, and their bytes. -/
def copyChunks (parts : List (Nat × List Byte)) : List (Nat × List Byte) :=
  parts.flatMap (fun x => (List.range (ceilDiv x.2.length 8192)).map (fun i =>
    (x.1 + 32 * i, (x.2.drop (8192 * i)).take 8192)))

/-- The packets of a check copy (R306), which name no counter of the program. -/
def copyPackets (env : TileEnv) (t : Tile) (j : CheckJob) : List Packet :=
  let cs := copyChunks (checkParts j)
  (List.range cs.length).map (fun k =>
    let c := cs.getD k (0, [])
    sealPacket { basePacket env t with
      typ := tyWrite, last := decide (k + 1 = cs.length), dport := 4, dsite := t.integ.partner, seq := BitVec.ofNat 24 k,
      addr := BitVec.ofNat 48 (checkAreaRow + c.1), len := BitVec.ofNat 14 c.2.length, aux := 0x80000000, payload := c.2,
      trailer := rowTrailer 0 env.parityMode false none none c.2 })

/-- CHECK_COPY (R306): the oldest selected pass whose digests are all formed is pushed to the partner. -/
def tileCheckCopy (env : TileEnv) (t : Tile) : TOut :=
  match t.integ.checks.find? (fun c => !c.copied && decide (c.job.digests.length = c.job.rows.length)) with
  | none => TOut.pure t
  | some c =>
    if !env.partnerFree ∨ t.integ.copyOut ≠ [] then TOut.pure t
    else
      let cs := t.integ.checks.map (fun d => if d.passNo = c.passNo then { d with copied := true } else d)
      pumpAll env { t with integ := { t.integ with
        checks := cs, copyOut := copyPackets env t { c.job with origin := env.site } } }

/-- The answer to a check copy's last packet, with the verdict (R308). -/
def verdictPacket (env : TileEnv) (p : Packet) (mism : Bool) : Packet :=
  sealPacket { answerTo env p tyAck false with
    aux := BitVec.ofNat 32 (rowsOf p.payload + fieldAt (flagNat mism) 31 1) }

/-- CHECK_PASS (R307, R308): with a whole copy in its check area, and once its array engine would begin a WLOAD or has
nothing issued, the partner forms every row digest, compares, frees its area and answers. -/
def tileCheckPass (env : TileEnv) (t : Tile) : TOut :=
  match t.integ.checkIn with
  | none => TOut.pure t
  | some c =>
    match c.last with
    | none => TOut.pure t
    | some p =>
      if !c.whole || !checkMayRun t.arr.queue then TOut.pure t
      else
        let j := checkJobOf t
        let mism := decide (jobDigests j ≠ j.digests)
        let hit := t.spad.parityHit (checkAreaRow * 256) (4424 * 256)
        let o : TOut := ⟨{ t with integ := { t.integ with checkIn := none } }, [.inject (verdictPacket env p mism)]⟩
        let o := if mism then
            o.emit (.log { tileNote env t 0 0x0103 (some env.site) 0 0 with site := some p.ssite.toNat })
          else o
        o.andIf hit (parityFound env)

end Sys2Proof.Machine
end

