-- ==== Sys2Proof/Machine/TileChan.lean ====
section
/-! DEFINITION. The channel engine of one tile: SEND, RECV, MESSAGE and CREDIT packets, the channel
cache, handlers' messages (chapter 07). -/

namespace Sys2Proof.Machine

/-- Status codes of 14_command_reference.md. -/
def stOk : Nat := 0x00
def stAccepted : Nat := 0x01
def stNotReady : Nat := 0x02
def stBadOpcode : Nat := 0x03
def stBadParam : Nat := 0x04
def stBusy : Nat := 0x05
def stDenied : Nat := 0x06
def stNoLicence : Nat := 0x07
def stTableBusy : Nat := 0x08
def stRetiredTile : Nat := 0x09
def stFaulted : Nat := 0x0A
def stTimeout : Nat := 0x0B
def stAlarmed : Nat := 0x0C
def stClosed : Nat := 0x0D
def stFullTimeout : Nat := 0x0E

/-- A field of an entry's bytes. -/
def entryField (bs : List Byte) (byte lo w : Nat) : Nat := bitsOf (leNat (bs.drop byte)) lo w

/-- Read a channel table entry from its 64 bytes (R215). -/
def parseEntry (bs : List Byte) : ChEntry :=
  let g (byte lo w : Nat) : Nat := entryField (bs.take 64) byte lo w
  { version := BitVec.ofNat 16 (g 0 0 16), state := BitVec.ofNat 2 (g 2 6 2), kind := BitVec.ofNat 2 (g 2 4 2),
    ctrl := decide (g 2 3 1 = 1), ctx := BitVec.ofNat 3 (g 2 0 3), part := BitVec.ofNat 5 (g 3 0 5),
    rsite := BitVec.ofNat 9 (g 4 0 9), rqueue := BitVec.ofNat 4 (g 6 0 4), circ := BitVec.ofNat 8 (g 7 0 8),
    maxlen := BitVec.ofNat 11 (g 8 0 11), credits := BitVec.ofNat 8 (g 10 0 8),
    fanout := BitVec.ofNat 6 (g 11 0 6), timeout := BitVec.ofNat 32 (g 12 0 32),
    handler := BitVec.ofNat 27 (g 16 0 27), rccEn := decide (g 20 15 1 = 1), rcc := BitVec.ofNat 12 (g 20 0 12),
    sccEn := decide (g 22 15 1 = 1), scc := BitVec.ofNat 12 (g 22 0 12), sx0 := BitVec.ofNat 8 (g 24 0 8),
    sy0 := BitVec.ofNat 8 (g 25 0 8), sx1 := BitVec.ofNat 8 (g 26 0 8), sy1 := BitVec.ofNat 8 (g 27 0 8),
    good := decide (g 60 0 32 = crc32c (bs.take 60)) }

/-- Slots that a message takes (R220). -/
def slotsOf (len : Nat) : Nat := ceilDiv len 128

/-- Whether a site is a sender of an entry (R216). -/
def isSender (placement : List Nat) (e : ChEntry) (site : Nat) : Bool :=
  decide (e.sx0.toNat ≤ site % 16) && decide (site % 16 ≤ e.sx1.toNat)
    && decide (e.sy0.toNat ≤ site / 16) && decide (site / 16 ≤ e.sy1.toNat) && placement.contains site

/-- Slots of the messages of a list that a receiver has returned (R225). -/
def returnedBy (out : List OutMsg) (r : Nat) : Nat :=
  (out.map (fun m => if m.returned.contains r then m.slots else 0)).sum

/-- The receivers that have returned any message of a list. -/
def returners (out : List OutMsg) : List Nat := (out.flatMap (fun m => m.returned)).eraseDups

/-- Outstanding slots of a stream (R225): those sent less the smallest count that a receiver has returned, which is 0
while some receiver has returned none. -/
def SendStream.slots (s : SendStream) : Nat :=
  let sent := (s.out.map (fun m => m.slots)).sum
  let rs := returners s.out
  if rs = [] ∨ s.out.any (fun m => decide (rs.length < m.fanout)) then sent
  else sent - rs.foldl (fun a r => min a (returnedBy s.out r)) sent

/-- A receive queue (R219). -/
def Chan.queue (c : Chan) (q : Nat) : Queue := SMap.get Queue.empty c.queues q

/-- Slots reserved in a queue (R222). -/
def Queue.used (q : Queue) : Nat := (q.msgs.map (fun m => m.slots)).sum

/-- The cached entry of a channel (R241). -/
def Chan.entry (c : Chan) (i : BitVec 16) : Option ChEntry :=
  (c.cache.find? (fun l => decide (l.index = i))).map (fun l => l.entry)

/-- A cache line is used (R241). -/
def Chan.touch (c : Chan) (i : BitVec 16) : Chan :=
  { c with useClock := c.useClock + 1,
           cache := c.cache.map (fun l => if l.index = i then { l with used := c.useClock + 1 } else l) }

/-- The least recently used of some lines. -/
def oldestLine : List CacheLine → Option CacheLine
  | [] => none
  | l :: ls => match oldestLine ls with
    | none => some l
    | some m => some (if m.used < l.used then m else l)

/-- The route that an entry gives its streams (R234). -/
def routeOf (e : ChEntry) : Route := ⟨e.rsite, e.rqueue, e.kind, e.circ, (e.sx0, e.sy0, e.sx1, e.sy1)⟩

/-- The streams of a channel that has no numbers yet begin at 0 on the entry's route (R234). -/
def Chan.keepRoute (c : Chan) (i : BitVec 16) (e : ChEntry) : Chan :=
  if (SMap.get none c.routes i.toNat).isSome then c
  else { c with routes := SMap.set none c.routes i.toNat (some (routeOf e)) }

/-- Put an entry into the cache (R241): none while all 64 lines are pinned. -/
def Chan.install (c : Chan) (i : BitVec 16) (e : ChEntry) : Option Chan :=
  let line : CacheLine := ⟨i, e, c.useClock + 1⟩
  let rest := c.cache.filter (fun l => decide (l.index ≠ i))
  if rest.length < 64 then some { c with cache := rest ++ [line], useClock := c.useClock + 1 }
  else match oldestLine (rest.filter (fun l => !c.pinned l)) with
    | none => none
    | some v => some { c with cache := rest.filter (fun l => decide (l.index ≠ v.index)) ++ [line],
                              useClock := c.useClock + 1 }

/-- Ask for an entry to be read from the channel table (R243): its READ leaves as soon as it may. -/
def askEntry (env : TileEnv) (t : Tile) (i : BitVec 16) : TOut :=
  if t.chan.misses.contains i then pumpReads env t
  else pumpReads env { t with chan := { t.chan with misses := t.chan.misses ++ [i] } }

/-- The MESSAGE packet of an accepted SEND (R224), on the class that R216 gives. -/
def messagePacket (env : TileEnv) (t : Tile) (s : SendCur) (e : ChEntry) (seq : BitVec 24) : Packet :=
  let payload := Memory.readBytes t.spad.mem (s.row * 256) s.len
  sealPacket { basePacket env t with
    typ := tyMessage, circ := decide (e.kind = 2), last := true, dport := 4,
    dsite := if e.kind = 2 then 0x1FF else e.rsite, seq := seq,
    dcc := if e.rccEn then e.rcc else 0, scc := if e.sccEn then e.scc else 0,
    len := BitVec.ofNat 14 payload.length,
    addr := BitVec.ofNat 48 (e.rqueue.toNat + e.version.toNat * 16),
    aux := s.chan.setWidth 32, payload := payload,
    trailer := if env.parityMode then [] else messageTrailer payload, ctrl := e.ctrl && decide (e.kind ≠ 2) }

/-- The message leaves the tile (R223 step 8). -/
def messageOut (p : Packet) (circ : BitVec 8) : TEff :=
  if p.circ then .circuit circ.toNat p else .inject p

/-- Where a SEND's checks leave it (R223 steps 1 to 6). -/
inductive SendCheck where
  | fail (code : Nat)
  | miss
  | wait
  | go (e : ChEntry)

/-- The checks of a SEND in the order of R223. -/
def sendCheck (env : TileEnv) (t : Tile) (s : SendCur) : SendCheck :=
  if env.chCount = 0 then .fail stDenied
  else if env.chCount ≤ s.chan.toNat then .fail stBadParam
  else match t.chan.entry s.chan with
    | none => .miss
    | some e =>
      if e.part ≠ env.part ∨ some e.ctx ≠ t.ctx ∨ !isSender env.placement e env.site then .fail stDenied
      else if e.maxlen.toNat < s.len then .fail stBadParam
      else if e.state ≠ 1 then .fail stClosed
      else if e.credits.toNat < (t.chan.stream s.chan.toNat).slots + slotsOf s.len then .wait
      else .go e

/-- A SEND is accepted: credits, sequence number, SENT, the outside effect, and the injection, which a
STOP delays (R209, R223, R225, R228, R314). -/
def acceptSend (env : TileEnv) (t : Tile) (s : SendCur) (e : ChEntry) : TOut × SendCur :=
  let st := t.chan.stream s.chan.toNat
  let m : OutMsg :=
    { seq := st.next, slots := slotsOf s.len, sentAt := t.seq.activeCycles, timeout := env.ackTimeout, returned := [],
      fanout := if e.kind = 2 then e.fanout.toNat else 1, scc := if e.sccEn then some e.scc else none }
  let p := messagePacket env t s e st.next
  let c := { (t.chan.touch s.chan) with
    sent := t.chan.sent + 1,
    streams := SMap.set SendStream.new t.chan.streams s.chan.toNat ⟨st.next + 1, st.out ++ [m]⟩ }
  let t' := { t.outside with chan := c }
  let k := (s.len + 255) / 256
  let o := checkReads env t' (rowSpans s.row k)
  if t.stopped.isSome then (o, { s with phase := .injecting p, circ := e.circ })
  else (o.emit (messageOut p e.circ), { s with phase := .done stOk })

/-- A SEND goes as far as it can (R223): the SEND with its new phase. CLOSED is counted. -/
def runSend (env : TileEnv) (t : Tile) (s : SendCur) : TOut × SendCur :=
  match sendCheck env t s with
  | .fail code =>
    let c := if code = stClosed then { t.chan with closed := bump8 t.chan.closed } else t.chan
    (TOut.pure { t with chan := c }, { s with phase := .done code })
  | .miss => (askEntry env t s.chan, { s with phase := .miss })
  | .wait => (TOut.pure t, { s with phase := .credits })
  | .go e => acceptSend env t s e

/-- Whether a SEND parks when it waits for credits (R172, R229). -/
def SendCur.yields (s : SendCur) : Bool := !s.ny && !s.fromHandler

/-- Whether a SEND stands in the wait slot: it yields and waits for its credits, or a handler runs meanwhile and its
outcome waits for the main program (R172, R229). -/
def standsAside (t : Tile) (s : SendCur) : Bool :=
  s.yields && (match s.phase with
    | .credits => true
    | .done _ => t.seq.handler
    | _ => false)

/-- Put a SEND where its phase has it: the wait slot, or the queue (R229). -/
def placeSend (o : TOut × SendCur) : TOut :=
  o.1.map (fun t =>
    if standsAside t o.2 then { t with chan := { t.chan with parked := some o.2 } }
    else { t with chan := { t.chan with cur := some o.2 } })

/-- Issue of SEND (R161, R162, R223, R227). -/
def trySend (env : TileEnv) (t : Tile) (f : SendFields) : Tried :=
  let row := (t.greg f.gb).toNat
  let len := f.len.toNat
  if len = 0 ∨ 1024 < len then .operand 0x03 0
  else issueWith t (rangeOf row (ceilDiv len 256) false) t.chan.cur.isSome (fun t =>
    placeSend (runSend env t
      { gd := f.gd, fromHandler := t.seq.handler, chan := (t.greg f.ga).setWidth 16, row := row, len := len,
        ny := f.ny, phase := .credits, start := t.seq.activeCycles, excluded := 0, circ := 0 }))

/-- A SEND that waits in the queue tries again (R223, R246). -/
def retryCur (env : TileEnv) (t : Tile) : TOut :=
  match t.chan.cur with
  | some s =>
    if s.phase = .credits ∨ s.phase = .miss then
      placeSend (runSend env { t with chan := { t.chan with cur := none } } s)
    else TOut.pure t
  | none => TOut.pure t

/-- PARKED_SEND_ACCEPT (R229): with no handler running, the parked SEND is checked for its credits. -/
def tileParkedAccept (env : TileEnv) (t : Tile) : TOut :=
  match t.chan.parked with
  | some s =>
    if t.seq.handler ∨ t.chan.cur.isSome ∨ (s.phase ≠ .credits ∧ s.phase ≠ .miss) then TOut.pure t
    else placeSend (runSend env { t with chan := { t.chan with parked := none } } s)
  | none => TOut.pure t

/-- The send timer of R227 in active cycles: it does not count while the tile's scope is DRAINING or SLACK. -/
def sendTimer (t : Tile) (s : SendCur) : Nat :=
  let stop := match t.chan.draining with
    | none => 0
    | some a => (t.seq.activeCycles - (if a.toNat < s.start.toNat then s.start else a)).toNat
  (t.seq.activeCycles - s.start - s.excluded).toNat - stop

/-- The limit of a SEND's timer (R215, R227): 65,536 for TIMEOUT 0, and while its entry is not yet read. -/
def sendLimit (t : Tile) (s : SendCur) : Nat :=
  match t.chan.entry s.chan with
  | none => 65536
  | some e => if e.timeout = 0 then 65536 else e.timeout.toNat

/-- Whether a SEND before acceptance has run out of time (R227, R228). -/
def sendExpired (t : Tile) (s : SendCur) : Bool :=
  (decide (s.phase = .credits) || decide (s.phase = .miss)) && decide (sendLimit t s ≤ sendTimer t s)

/-- FULL_TIMEOUT (R227): a SEND whose timer has reached its limit ends. -/
def tileFullTimeout (t : Tile) : TOut :=
  let c := { t.chan with timeouts := bump8 t.chan.timeouts }
  match t.chan.cur, t.chan.parked with
  | some s, p =>
    if sendExpired t s then TOut.pure { t with chan := { c with cur := some { s with phase := .done stFullTimeout } } }
    else match p with
      | some q => if sendExpired t q then
          TOut.pure { t with chan := { c with parked := some { q with phase := .done stFullTimeout } } }
        else TOut.pure t
      | none => TOut.pure t
  | none, some q =>
    if sendExpired t q then
      TOut.pure { t with chan := { c with parked := some { q with phase := .done stFullTimeout } } }
    else TOut.pure t
  | none, none => TOut.pure t

/-- The outcome of a SEND is written to gd and the sequencer goes on (R162). -/
def endSend (t : Tile) (s : SendCur) (code : Nat) : Tile :=
  (t.setGreg s.gd (BitVec.ofNat 64 code)).advance 8

/-- Whether the sequencer waits at a SEND. -/
def waitsAtSend (t : Tile) : Bool :=
  match t.seq.cur with
  | some h => match h.ins with | .send _ => true | _ => false
  | none => false

/-- SEND_OUTCOME (R162): the engine reports an outcome to the SEND that the sequencer waits at. -/
def sendOutcome (t : Tile) : TOut :=
  if !waitsAtSend t then TOut.pure t
  else match t.chan.cur with
  | some s => match s.phase with
    | .done code =>
      if s.fromHandler = t.seq.handler then
        TOut.pure (endSend { t with chan := { t.chan with cur := none } } s code)
      else TOut.pure t
    | _ => TOut.pure t
  | none => match t.chan.parked with
    | some s => match s.phase with
      | .done code =>
        if t.seq.handler then TOut.pure t
        else TOut.pure (endSend { t with chan := { t.chan with parked := none } } s code)
      | _ => TOut.pure t
    | none => TOut.pure t

/-- SEND_OUTCOME (R162, R178): a PAUSE that waits takes effect at the boundary behind the SEND. -/
def tileSendOutcome (t : Tile) : TOut := (sendOutcome t).map settlePause

/-! ### Receive queues -/

/-- Address of byte j of a message whose first slot is h in queue q (R219, R220). -/
def queueByte (q h j : Nat) : Nat := 0x6FF0000 + q * 0x1000 + (h * 128 + j) % 4096

/-- The bytes of a message in its queue. -/
def queueBytes (t : Tile) (q h len : Nat) : List Byte :=
  (List.range len).map (fun j => Memory.read t.spad.mem (queueByte q h j))

/-- The CREDIT that answers or releases a message (R235, R236). -/
def creditPacket (env : TileEnv) (t : Tile) (sender : BitVec 9) (seq : BitVec 24) (chan : BitVec 16)
    (slots : Nat) (refused : Bool) : Packet :=
  sealPacket { basePacket env t with
    typ := tyCredit, last := true, dport := 4, dsite := sender, seq := seq,
    aux := BitVec.ofNat 32 (chan.toNat + fieldAt slots 16 6 + fieldAt (flagNat refused) 31 1) }

/-- The refusing CREDIT that answers a message (R197, R235): it carries the message's own partition and context. -/
def refusal (env : TileEnv) (t : Tile) (p : Packet) : Packet :=
  sealPacket { creditPacket env t p.ssite p.seq (p.aux.setWidth 16) (slotsOf p.payload.length) true with
    ctx := p.ctx, part := p.part }

/-- Release the head message of a queue (R236, R240, R314). -/
def releaseHead (env : TileEnv) (t : Tile) (q : Nat) : TOut :=
  let qu := t.chan.queue q
  match qu.msgs with
  | [] => TOut.pure t
  | m :: ms =>
    let qu' : Queue := ⟨(qu.head + m.slots) % 32, ms⟩
    ⟨{ t.outside with chan := { t.chan with queues := SMap.set Queue.empty t.chan.queues q qu' } },
     [.inject (creditPacket env t m.sender m.seq m.chan m.slots false)]⟩

/-- The result of a RECV that takes a message (R163). -/
def recvResult (m : QMsg) : Word :=
  BitVec.ofNat 64 (2 ^ 63 + m.sender.toNat * 2 ^ 48 + m.chan.toNat * 2 ^ 32 + m.len)

/-- RECV takes the head message: copies it unless it discards it, releases it and writes gd (R163, R239). -/
def takeMessage (env : TileEnv) (t : Tile) (f : RecvFields) (q row : Nat) (m : QMsg) (head : Nat) : TOut :=
  let bs := queueBytes t q head m.len
  let hit := !f.discard && (List.range m.len).any (fun j => t.spad.parityHit (queueByte q head j) 1)
  let t1 := if f.discard then t else t.writeAll env [(row * 256, bs)]
  let o := (((TOut.pure t1).andIf (!f.discard) (fun t => checkBlocks env t [(queueByte q head 0, 1)])).andIf hit
    (parityFound env)).andThen (fun t => releaseHead env t q)
  o.map (fun t =>
    let t := t.setGreg f.gd (recvResult m)
    let taken := t.seq.handlerTaken || (t.seq.handler && decide (q = t.seq.handlerQ))
    { t with seq := { t.seq with handlerTaken := taken } })

/-- Issue of RECV (R161, R163, R229): none in the last component while it waits for a message. -/
def tryRecv (env : TileEnv) (t : Tile) (f : RecvFields) : Tried :=
  let q := (t.greg f.ga).toNat % 16
  let row := (t.greg f.gb).toNat
  let rs := if f.discard then [] else rangeOf row 4 true
  if !t.seq.handler && bitOf t.seq.handlerMask.toNat q then .operand 0x0A 0
  else match rangesFault t rs with
  | some e => .bad e.1 e.2
  | none =>
    if boardHolds t rs then .wait .scoreboard
    else if t.chan.cur.isSome then .wait .queueFull
    else match (t.chan.queue q).msgs with
    | m :: _ => .done ((takeMessage env t f q row m (t.chan.queue q).head).map
        (fun t => if t.seq.mode = .exception then t else t.advance 4))
    | [] =>
      if f.wait then .wait .recv else .done (TOut.pure ((t.setGreg f.gd 0).advance 4))

/-! ### Messages that arrive -/

/-- How a sequence number stands to the expected one (R231): modulo 2^24 within a half range. -/
def seqOrder (seq expected : BitVec 24) : Ordering :=
  let d := (seq - expected).toNat
  if d = 0 then .eq else if d < 2 ^ 23 then .gt else .lt

/-- The key of a stream at its receiver (R234). -/
def streamKey (chan : BitVec 16) (sender : BitVec 9) : Nat := chan.toNat * 512 + sender.toNat

/-- A message is refused: counted in DROPPED, and answered with a refusing CREDIT (R235, R250). -/
def refuseMessage (env : TileEnv) (t : Tile) (p : Packet) : TOut :=
  ⟨{ t with chan := { t.chan with dropped := bump8 t.chan.dropped } },
   [.inject (refusal env t p)]⟩

/-- The bytes that fill a message's last slot beyond its length are undefined (R220): free values. -/
def slotFiller (clock len : Nat) : List Byte :=
  (List.range ((128 - len % 128) % 128)).map (fun i => Config.freeByte (clock * 128 + i))

/-- A message enters its queue (R220, R222, R230 steps 4 to 6). -/
def enqueueMessage (env : TileEnv) (t : Tile) (e : ChEntry) (p : Packet) : TOut :=
  let q := e.rqueue.toNat
  let qu := t.chan.queue q
  let n := slotsOf p.payload.length
  if 32 < qu.used + n then refuseMessage env t p
  else
    let h := (qu.head + qu.used) % 32
    let bs := p.payload ++ slotFiller t.chan.useClock p.payload.length
    let sp := ((List.range bs.length).zip bs).foldl
      (fun sp x => sp.putBytes (queueByte q h x.1) [x.2]) t.spad
    let m : QMsg := ⟨p.aux.setWidth 16, p.ssite, p.seq, p.payload.length, n⟩
    let key := streamKey (p.aux.setWidth 16) p.ssite
    let c := { (t.chan.touch (p.aux.setWidth 16)) with
      queues := SMap.set Queue.empty t.chan.queues q ⟨qu.head, qu.msgs ++ [m]⟩,
      expected := SMap.set 0 t.chan.expected key (p.seq + 1),
      received := t.chan.received + 1 }
    let rows := (List.range n).map (fun i => queueByte q h (i * 128) / 256)
    let t1 := rows.foldl (fun t r => noteInbound t r r) { t with spad := sp, chan := c }
    TOut.pure (if e.rccEn then t1.addCount p.dcc.toNat 1 else t1)

/-- Whether a held message is the next of its stream (R231). -/
def nextInTurn (t : Tile) (key : Nat) (h : HeldMsg) : Bool :=
  decide (streamKey (h.pkt.aux.setWidth 16) h.pkt.ssite = key)
    && decide (h.pkt.seq = SMap.get 0 t.chan.expected key)

/-- Held messages that are next in turn leave the reorder window (R231); `n` bounds their number. -/
def drainWindow (env : TileEnv) (e : ChEntry) (key : Nat) : Nat → Tile → TOut
  | 0, t => TOut.pure t
  | n + 1, t =>
    match t.chan.window.find? (nextInTurn t key) with
    | none => TOut.pure t
    | some h =>
      let t1 := { t with chan := { t.chan with window := t.chan.window.filter (fun x => decide (x ≠ h)) } }
      (enqueueMessage env t1 e h.pkt).andThen (drainWindow env e key n)

/-- Whether a version is newer than another, modulo 2^16 within a half range (R230). -/
def versionNewer (v w : BitVec 16) : Bool :=
  decide (0 < (v - w).toNat) && decide ((v - w).toNat < 2 ^ 15)

/-- Whether an entry admits a message (R230 step 2). -/
def entryAdmits (env : TileEnv) (t : Tile) (e : ChEntry) (p : Packet) : Bool :=
  decide (e.part = env.part) && decide (some e.ctx = t.ctx) && (decide (e.state = 1) || decide (e.state = 2))
    && isSender env.placement e p.ssite.toNat && decide (e.rqueue.toNat = p.addr.toNat % 16)

/-- A message whose entry is cached: step 2 and the order of R231. -/
def orderMessage (env : TileEnv) (t : Tile) (e : ChEntry) (p : Packet) : TOut :=
  let key := streamKey (p.aux.setWidth 16) p.ssite
  if !entryAdmits env t e p then refuseMessage env t p
  else match seqOrder p.seq (SMap.get 0 t.chan.expected key) with
  | .eq => (enqueueMessage env t e p).andThen (drainWindow env e key 8)
  | .gt =>
    if t.chan.window.length < 8 then
      let h : HeldMsg := ⟨p, t.seq.activeCycles, env.ackTimeout⟩
      TOut.pure { t with chan := { t.chan with window := t.chan.window ++ [h],
                                               reordered := bump8 t.chan.reordered } }
    else (refuseMessage env { t with chan := { t.chan with reorderFull := true } } p)
  | .lt => TOut.pure { t with chan := { t.chan with stale := bump8 t.chan.stale } }

/-- A message waits for its entry to be read (R230 step 1, R243). -/
def waitEntry (env : TileEnv) (t : Tile) (p : Packet) (refetch : Bool) : TOut :=
  let c := { t.chan with waiting := t.chan.waiting ++ [p], refetch := t.chan.refetch || refetch }
  askEntry env { t with chan := c } (p.aux.setWidth 16)

/-- MESSAGE at a tile that the router delivers it to (R230, R231, R235, R298). -/
def tileMessage (env : TileEnv) (t : Tile) (p : Packet) : TOut :=
  if !messageOk env.parityMode p then
    refuseMessage env
      { t with integ := { t.integ with transport := bump8 t.integ.transport, transportSeen := true } } p
  else match t.chan.entry (p.aux.setWidth 16) with
  | none => waitEntry env t p false
  | some e =>
    if versionNewer (BitVec.ofNat 16 (bitsOf p.addr.toNat 4 16)) e.version then waitEntry env t p true
    else orderMessage env t e p

/-- Messages that waited for an entry go on (R230). -/
def resumeMessages (env : TileEnv) (e : Option ChEntry) : List Packet → Tile → TOut
  | [], t => TOut.pure t
  | p :: ps, t =>
    (match e with
     | some e => orderMessage env t e p
     | none => (refuseMessage env t p).emit
        (.log (tileNote env t 1 0x0301 none (p.aux.toNat % 65536) 0))).andThen (resumeMessages env e ps)

/-- A SEND that waits for an entry ends FAULTED (R223 step 2). -/
def failSend (chan : BitVec 16) (s : Option SendCur) : Option SendCur :=
  s.map (fun s => if s.phase = .miss ∧ s.chan = chan then { s with phase := .done stFaulted } else s)

/-- Enter the handler of a queue once its entry is at hand (R171). -/
def enterHandler (t : Tile) (e : ChEntry) : Tile :=
  { t with seq := { t.seq with dispatching := none, pc := e.handler.setWidth 64 } }

/-- A dispatch that waits for a channel's entry goes on (R171). -/
def resumeDispatch (t : Tile) (chan : BitVec 16) (e : ChEntry) : Tile :=
  match t.seq.dispatching with
  | none => t
  | some q => match (t.chan.queue q).msgs with
    | m :: _ => if m.chan = chan then enterHandler t e else t
    | [] => t

/-- A channel-cache miss read completes with an entry (R243). -/
def entryArrives (env : TileEnv) (t : Tile) (chan : BitVec 16) (e : ChEntry) : TOut :=
  match t.chan.install chan e with
  | none => TOut.pure t
  | some c =>
    let c := c.keepRoute chan e
    let ps := c.waiting.filter (fun p => decide (p.aux.setWidth 16 = chan))
    let c := { c with misses := c.misses.filter (fun i => decide (i ≠ chan)),
                      waiting := c.waiting.filter (fun p => decide (p.aux.setWidth 16 ≠ chan)) }
    ((resumeMessages env (some e) ps (resumeDispatch { t with chan := c } chan e)).andThen
      (retryCur env)).andThen (tileParkedAccept env)

/-- A channel-cache miss read fails, or the entry's CHK does not match (R223, R230, R243). DESIGN CHOICE (log entry 111):
of a dispatch that waits for this entry the spec says nothing; the tile stays dispatching in handler mode and issues
nothing. -/
def entryFails (env : TileEnv) (t : Tile) (chan : BitVec 16) : TOut :=
  let ps := t.chan.waiting.filter (fun p => decide (p.aux.setWidth 16 = chan))
  let c := { t.chan with misses := t.chan.misses.filter (fun i => decide (i ≠ chan)), entryBad := true,
                         waiting := t.chan.waiting.filter (fun p => decide (p.aux.setWidth 16 ≠ chan)),
                         cur := failSend chan t.chan.cur, parked := failSend chan t.chan.parked }
  resumeMessages env none ps { t with chan := c }

/-- The read of an entry that the tile asked for ends, with the entry's bytes or without (R243). -/
def tileEntryRead (env : TileEnv) (t : Tile) (chan : BitVec 16) (bytes : Option (List Byte)) : TOut :=
  if !t.chan.misses.contains chan then TOut.pure t
  else match bytes with
  | none => entryFails env t chan
  | some bs => if (parseEntry bs).good then entryArrives env t chan (parseEntry bs)
    else entryFails env t chan

/-- An outstanding read of an entry is finished, and what waited for its place may go (R195, R243). -/
def endEntryRead (env : TileEnv) (t : Tile) (chan : BitVec 16) (rest : List Outstanding) (bytes : Option (List Byte)) :
    TOut :=
  ((tileEntryRead env { t with outst := rest } chan bytes).andThen (pumpAll env)).map settlePause

/-- READ_DATA that answers the read of an entry (R243, R297): its bytes, none where it is refused or fails. -/
def entryData (env : TileEnv) (t : Tile) (p : Packet) (chan : BitVec 16) (rest : List Outstanding) : TOut :=
  if p.nack then endEntryRead env t chan rest none
  else if !rowPacketOk p then
    (countTransport env t p).andThen (fun t => endEntryRead env t chan rest none)
  else endEntryRead env t chan rest (some p.payload)

/-- READ_DATA at its requester (R194, R195, R243): a fetch's rows, or a channel table entry; an answer after the timeout
is discarded and counted. -/
def tileReadData (env : TileEnv) (t : Tile) (p : Packet) : TOut :=
  match takeOut (answers p) t.outst with
  | none => ⟨t, [.lateAck]⟩
  | some (o, rest) => match o.use with
    | .entry chan => entryData env t p chan rest
    | _ => fetchData env t p o rest

/-- Whether the timeout of an outstanding packet has run (R195, R196). -/
def timedOut (t : Tile) (o : Outstanding) : Bool :=
  decide (2 ^ o.timeout ≤ (t.seq.activeCycles - o.sentAt).toNat)

/-- ACK_TIMEOUT (R195, R196): the oldest outstanding packet whose timeout has run is finished as failed. -/
def tileAckTimeout (env : TileEnv) (t : Tile) : TOut :=
  match takeOut (timedOut t) t.outst with
  | none => TOut.pure t
  | some (o, rest) => match o.use with
    | .entry chan => endEntryRead env t chan rest none
    | _ => finishFailed env t o rest

/-- The read of an entry has run out of time (R195, R243): it ends FAULTED. -/
def tileEntryLate (env : TileEnv) (t : Tile) (chan : BitVec 16) : TOut :=
  match takeOut (fun o => decide (o.use = .entry chan) && timedOut t o) t.outst with
  | none => TOut.pure t
  | some (_, rest) => endEntryRead env t chan rest none

/-! ### Answers at the sender -/

/-- The outstanding message of a sequence number. -/
def findMsg (seq : BitVec 24) (out : List OutMsg) : Option OutMsg := out.find? (fun m => decide (m.seq = seq))

/-- A failed message counts at the SCC of the copy that it was accepted with (R235, R237, R246). -/
def countScc (t : Tile) (m : OutMsg) : Tile :=
  match m.scc with
  | some n => t.addFailed n.toNat 1
  | none => t

/-- A message after one receiver has answered it (R225, R236). -/
def OutMsg.answered (m : OutMsg) (receiver : Nat) : OutMsg :=
  if m.returned.contains receiver then m else { m with returned := m.returned ++ [receiver] }

/-- A message's slots come back from a receiver (R225, R236): it keeps its place in the order until its last receiver has
answered. -/
def returnSlots (seq : BitVec 24) (receiver : Nat) : List OutMsg → List OutMsg
  | [] => []
  | m :: r =>
    if m.seq = seq then
      if (m.answered receiver).returned.length < m.fanout then m.answered receiver :: r else r
    else m :: returnSlots seq receiver r

/-- CREDIT at its sender (R235, R236, R237): slots come back, or a refusal is counted; an answer for a
reclaimed message is discarded. -/
def tileCredit (env : TileEnv) (t : Tile) (p : Packet) : TOut :=
  let chan : BitVec 16 := p.aux.setWidth 16
  let st := t.chan.stream chan.toNat
  match findMsg p.seq st.out with
  | none => TOut.pure t
  | some m =>
    let out := returnSlots p.seq p.ssite.toNat st.out
    let streams := SMap.set SendStream.new t.chan.streams chan.toNat ⟨st.next, out⟩
    let t1 := { t with chan := { t.chan with streams := streams } }
    let t2 := if bitOf p.aux.toNat 31 then
        countScc { t1 with chan := { t1.chan with refused := bump8 t1.chan.refused } } m
      else t1
    (retryCur env t2).andThen (pumpReads env)

/-- LOST (R237): a stream's oldest outstanding message has had no answer for its timeout. -/
def tileLost (env : TileEnv) (t : Tile) (chan : BitVec 16) : TOut :=
  let st := t.chan.stream chan.toNat
  match st.out with
  | [] => TOut.pure t
  | m :: rest =>
    if (t.seq.activeCycles - m.sentAt).toNat < 2 ^ m.timeout then TOut.pure t
    else
      let streams := SMap.set SendStream.new t.chan.streams chan.toNat ⟨st.next, rest⟩
      let t1 := countScc t m
      (retryCur env { t1 with chan := { t1.chan with streams := streams, lost := bump8 t1.chan.lost } }).andThen
        (pumpReads env)

/-- The lowest held sequence number of a stream, counted from the expected one (R232). -/
def lowestHeld (expected : BitVec 24) : List HeldMsg → Option (BitVec 24)
  | [] => none
  | h :: hs => match lowestHeld expected hs with
    | none => some h.pkt.seq
    | some s => some (if (h.pkt.seq - expected).toNat < (s - expected).toNat then h.pkt.seq else s)

/-- GAP_SKIPPED (R232): the oldest held message of a stream has waited its timeout. -/
def tileGapSkipped (env : TileEnv) (t : Tile) (chan : BitVec 16) (sender : BitVec 9) : TOut :=
  let key := streamKey chan sender
  let mine := t.chan.window.filter (fun h => decide (streamKey (h.pkt.aux.setWidth 16) h.pkt.ssite = key))
  let late := mine.any (fun h => decide (2 ^ h.timeout ≤ (t.seq.activeCycles - h.since).toNat))
  match (if late then lowestHeld (SMap.get 0 t.chan.expected key) mine else none), t.chan.entry chan with
  | some s, some e =>
    let c := { t.chan with expected := SMap.set 0 t.chan.expected key s, gapSkipped := true,
                           gaps := bump8 t.chan.gaps }
    (drainWindow env e key 8 { t with chan := c }).emit
      (.log (tileNote env t 1 0x0302 (some sender.toNat) chan.toNat 0))
  | some _, none => askEntry env t chan
  | none, _ => TOut.pure t

/-! ### Stopping and invalidation -/

/-- STOP (R209): engines stop injecting at the next packet boundary. -/
def tileStop (t : Tile) : TOut :=
  if t.stopped.isSome then TOut.pure t else TOut.pure { t with stopped := some t.seq.activeCycles }

/-- A send timer does not count the time in which the tile's scope was DRAINING or SLACK (R227). -/
def excludeDrain (t : Tile) (s : SendCur) : SendCur :=
  match t.chan.draining with
  | none => s
  | some a => { s with excluded := s.excluded
      + (t.seq.activeCycles - (if a.toNat < s.start.toNat then s.start else a)) }

/-- The tile's scope leaves normal service (R209 step 1, R227). -/
def beginDraining (t : Tile) : Tile :=
  if t.chan.draining.isSome then t else { t with chan := { t.chan with draining := some t.seq.activeCycles } }

/-- The tile's scope is in normal service again (R209 step 5, R227). -/
def endDraining (t : Tile) : Tile :=
  { t with chan := { t.chan with cur := t.chan.cur.map (excludeDrain t), parked := t.chan.parked.map (excludeDrain t),
                                 draining := none } }

/-- An accepted SEND that a drain held is injected under the copy it was accepted with (R228, R246). -/
def injectHeld (t : Tile) : TOut :=
  match t.chan.cur with
  | some s => match s.phase with
    | .injecting p =>
      (placeSend (TOut.pure { t with chan := { t.chan with cur := none } }, { s with phase := .done stOk })).emit
        (messageOut p s.circ)
    | _ => TOut.pure t
  | none => TOut.pure t

/-- RESUME (R209): injection continues. -/
def tileResume (env : TileEnv) (t : Tile) : TOut :=
  if t.stopped.isNone then TOut.pure t
  else (injectHeld { t with stopped := none }).andThen (pumpAll env)

/-- Whether a change of an entry would break traffic at the tile (R244 step 2). -/
def invalidateBusy (t : Tile) (chan : BitVec 16) : Bool :=
  decide ((t.chan.stream chan.toNat).out ≠ [])
    || t.chan.queues.any (fun q => q.2.msgs.any (fun m => decide (m.chan = chan)))
    || t.chan.window.any (fun h => decide (h.pkt.aux.setWidth 16 = chan))

/-- Whether a new entry gives a channel's streams another route than their numbers hold for (R234, R244). -/
def tileChanged (t : Tile) (chan : BitVec 16) (e : ChEntry) : Bool :=
  match SMap.get none t.chan.routes chan.toNat with
  | some r => decide (r ≠ routeOf e)
  | none => false

/-- The stream table is refilled for a channel (R234): on another route its numbers begin again. -/
def renumber (t : Tile) (chan : BitVec 16) (e : ChEntry) : Tile :=
  if tileChanged t chan e then
    { t with chan := { t.chan with
        streams := SMap.drop chan.toNat t.chan.streams,
        expected := SMap.keep (fun k => decide (k / 512 ≠ chan.toNat)) t.chan.expected,
        routes := SMap.set none t.chan.routes chan.toNat (some (routeOf e)) } }
  else t

/-- The tile drops its copy of an entry; of a changed stream the numbers begin again (R234, R244, R246). -/
def tileInvalidate (env : TileEnv) (t : Tile) (chan : BitVec 16) (e : ChEntry) : TOut :=
  let again (s : SendCur) : SendCur :=
    if s.chan = chan ∧ s.phase = .credits then { s with phase := .miss } else s
  let t := renumber t chan e
  let c := { t.chan with
    cache := t.chan.cache.filter (fun l => decide (l.index ≠ chan)),
    cur := t.chan.cur.map again, parked := t.chan.parked.map again }
  ((TOut.pure { t with chan := c }).andThen (retryCur env)).andThen (tileParkedAccept env)

end Sys2Proof.Machine
end

