-- ==== Sys2Proof/Machine/Flags.lean ====
section
/-! DEFINITION. The tile registers of R176, R250 and R320: what each reads as, and what a write does. -/

namespace Sys2Proof.Machine

/-- MODE of TS_SEQ_STATUS (R177): an exception that a paused tile records shows as exception (R173). DESIGN CHOICE (log
entry 112): a launched tile that waits for START reads 1, running, with WAIT_KIND 0. -/
def modeCode (t : Tile) : Nat :=
  match t.seq.mode with
  | .exception => 4
  | .idle => if t.seq.paused then 5 else 0
  | .running => if t.seq.paused then 5 else match t.seq.cur with
    | none => 1
    | some _ => 2
  | .halted => if t.seq.paused then 5 else 3

/-- WAIT_KIND of TS_SEQ_STATUS (R177). -/
def waitCode (t : Tile) : Nat :=
  match t.seq.cur with
  | none => 0
  | some h => match h.kind with
    | .waitc => 1 | .tidewait => 2 | .send => 3 | .recv => 4 | .scoreboard | .partner => 5 | .queueFull => 6 | .fence => 7

/-- TS_ID (R177): region ry × 4 + rx of the site's column and row (R17). -/
def tsId (site : Nat) : Nat := site + fieldAt (site / 16 / 6 * 4 + site % 16 / 4) 16 5

/-- TS_SEQ_STATUS (R177). -/
def tsSeqStatus (t : Tile) : Nat :=
  modeCode t + fieldAt (flagNat t.seq.handler) 6 1 + fieldAt (waitCode t) 7 3
    + fieldAt (flagNat t.seq.excMore) 11 1 + fieldAt t.arr.queue.length 12 4 + fieldAt t.moveQ.length 16 4
    + fieldAt t.vecQ.length 20 4

/-- Whether the drain unit executes (R96). DESIGN CHOICE (log entry 113): it does from the issue of a DRAIN on, also while
the DRAIN still waits for its first read. -/
def drainBusy (t : Tile) : Bool :=
  t.arr.queue.any (fun o => match o with | .drain _ => true | .stream _ | .wload _ => false)

/-- TS_ARRAY_STATUS (R96). -/
def tsArrayStatus (t : Tile) : Nat :=
  let w := t.arr.cells.getD ⟨0, 0, 0, [], [], false, [], []⟩
  flagNat t.arr.checkMismatch + fieldAt (flagNat t.arr.nanSeen) 1 1 + fieldAt (flagNat t.arr.infSeen) 2 1
    + fieldAt (flagNat t.arr.satSeen) 3 1 + fieldAt (flagNat t.arr.cells.isSome) 5 1
    + fieldAt (flagNat (drainBusy t)) 6 1 + fieldAt t.arr.queue.length 7 4 + fieldAt w.ncount 11 8
    + fieldAt w.kcount 19 9 + fieldAt w.fmt 28 4

/-- TS_SPAD_STATUS (R129). -/
def tsSpadStatus (t : Tile) : Nat :=
  fieldAt (flagNat t.spad.narrowForced) 1 1 + fieldAt (flagNat t.spad.widePromoted) 2 1
    + fieldAt (flagNat t.spad.parityError) 3 1 + fieldAt (flagNat t.spad.readsetOverflow) 4 1
    + fieldAt (flagNat t.spad.inboundReadset) 5 1 + fieldAt t.spad.stores.length 6 4
    + fieldAt (registered t).length 10 6 + fieldAt t.spad.readSet.length 16 8

/-- TS_MOOR[n] (R123). -/
def moorWord (m : Moor) : Nat :=
  m.first.toNat + fieldAt m.count.toNat 16 12 + fieldAt m.ctx.toNat 35 3 + fieldAt (flagNat m.code) 38 1
    + fieldAt (flagNat m.valid) 39 1

/-- A moored descriptor from its register layout (R123, R421). -/
def moorOfWord (x : Nat) : Moor :=
  ⟨bitOf x 39, bitOf x 38, BitVec.ofNat 3 (bitsOf x 35 3), BitVec.ofNat 12 (bitsOf x 16 12),
   BitVec.ofNat 12 (bitsOf x 0 12)⟩

/-- TS_COMPLETION[n] (R177). -/
def compWord (c : Comp) : Nat := c.count.toNat + fieldAt c.failed.toNat 32 16

/-- TS_CHK_CONFIG (R320). -/
def tsChkConfig (t : Tile) : Nat :=
  t.integ.passes.toNat + fieldAt t.integ.partner.toNat 32 9 + fieldAt t.integ.level.toNat 41 2

/-- Whether a held instruction waits for the check partner's area (R306). -/
def heldForPartner (h : Option Held) : Bool := match h with
  | some x => decide (x.kind = .partner)
  | none => false

/-- TS_CHK_STATUS (R320). -/
def tsChkStatus (t : Tile) : Nat :=
  let i := t.integ
  flagNat i.blockCrcSeen + fieldAt (flagNat i.transportSeen) 1 1 + fieldAt (flagNat i.tallyMismatch) 2 1
    + fieldAt (flagNat (heldForPartner t.seq.cur || heldForPartner t.seq.mainCur)) 3 1 + fieldAt (flagNat (i.checks ≠ [])) 4 1
    + fieldAt (flagNat i.outside) 5 1 + fieldAt (flagNat i.unclean) 6 1 + fieldAt (flagNat i.replaying) 7 1
    + fieldAt (flagNat i.suspect) 8 1 + fieldAt i.lastReason.toNat 16 8 + fieldAt i.lastCheck.toNat 24 8

/-- TS_CHK_COUNTS (R320). -/
def tsChkCounts (t : Tile) : Nat :=
  let i := t.integ
  i.tally.toNat + fieldAt i.transport.toNat 8 8 + fieldAt i.unchecked.toNat 16 8 + fieldAt i.skipped.toNat 24 8
    + fieldAt i.unverified.toNat 32 16 + fieldAt i.replays.toNat 48 16

/-- A TS_TALLY_LOG entry as a 384-bit number (R320). -/
def tallyWord (y : Tally) : Nat :=
  y.fdest.toNat + fieldAt (flagNat y.fab) 15 1 + fieldAt y.dcc.toNat 24 12 + fieldAt y.circuit.toNat 40 8
    + fieldAt y.dsite.toNat 48 9 + fieldAt (flagNat y.viaCircuit) 60 1 + fieldAt y.red.toNat 61 2
    + fieldAt (flagNat y.valid) 63 1 + fieldAt y.seqno.toNat 64 32 + fieldAt y.count.toNat 96 32
    + fieldAt y.absSum.toNat 128 64 + fieldAt y.sum.toNat 192 64 + fieldAt y.crc.toNat 256 64
    + fieldAt y.tide.toNat 320 64

/-- CH_STATUS (R250). -/
def chStatus (t : Tile) : Nat :=
  let c := t.chan
  flagNat c.invalidating + fieldAt (flagNat c.entryBad) 1 1 + fieldAt (flagNat c.refetch) 2 1
    + fieldAt (flagNat c.reorderFull) 3 1 + fieldAt (flagNat c.gapSkipped) 4 1 + fieldAt c.window.length 12 4
    + fieldAt ((c.cache.filter c.pinned).length) 16 8

/-- CH_SEND_STATS (R250). -/
def chSendStats (c : Chan) : Nat :=
  c.lost.toNat + fieldAt c.refused.toNat 8 8 + fieldAt c.timeouts.toNat 16 8 + fieldAt c.closed.toNat 24 8
    + fieldAt c.sent.toNat 32 32

/-- CH_RECV_STATS (R250). -/
def chRecvStats (c : Chan) : Nat :=
  c.gaps.toNat + fieldAt c.reordered.toNat 8 8 + fieldAt c.stale.toNat 16 8 + fieldAt c.dropped.toNat 24 8
    + fieldAt c.received.toNat 32 32

/-- CH_QUEUE[q] (R250). -/
def chQueue (q : Queue) : Nat :=
  q.head + fieldAt q.used 12 6 + fieldAt q.msgs.length 18 6

/-- CH_QHEAD[q] (R250). -/
def chQhead (q : Queue) : Nat :=
  match q.msgs with
  | [] => 0
  | m :: _ => m.len + fieldAt m.chan.toNat 32 16 + fieldAt m.sender.toNat 48 9 + 2 ^ 63

/-- CH_CACHE[i] (R250). DESIGN CHOICE (log entry 114): line i is the entry at place i of the cache's list, the entry last
read in being the last, so that lines move up when one is dropped. -/
def chCache (c : Chan) (i : Nat) : Nat :=
  match c.cache[i]? with
  | none => 0
  | some l => l.index.toNat + fieldAt l.entry.version.toNat 32 16
      + fieldAt (c.stream l.index.toNat).slots 56 6 + fieldAt (flagNat (c.pinned l)) 62 1 + 2 ^ 63

/-- CH_TABLE (R250): the table's entry count and base. -/
def chTable (env : TileEnv) : Nat := env.chBase / 64 + fieldAt env.chCount 42 17

/-- What the register at an offset of the tile registers reads as; offsets not listed read as zero
(R176, R250, R320). TS_GREG is read only in debug mode. -/
def tsRead (env : TileEnv) (t : Tile) (off : Nat) : Nat :=
  if off = 0x0000 then tsId env.site
  else if off = 0x0008 then tsSeqStatus t
  else if off = 0x0010 then t.seq.pc.toNat % 2 ^ 27
  else if off = 0x0018 then t.seq.activeCycles.toNat
  else if off = 0x0020 then t.seq.excDetail.toNat + fieldAt t.seq.excCause.toNat 32 8
  else if off = 0x0028 then t.seq.excPc.toNat % 2 ^ 27
  else if off = 0x0030 then t.seq.handlerMask.toNat
  else if off = 0x0038 then t.seq.handlerPc.toNat % 2 ^ 27
  else if off = 0x0040 then t.seq.stepTag.toNat
  else if off = 0x0050 then t.seq.srSeed.toNat
  else if off = 0x0058 then t.seq.srCount.toNat
  else if off = 0x0060 then tsArrayStatus t
  else if off = 0x0068 then tsSpadStatus t
  else if 0x0080 ≤ off ∧ off < 0x0100 then moorWord (SMap.get Moor.none t.spad.moors ((off - 0x80) / 8))
  else if 0x0100 ≤ off ∧ off < 0x0200 then
    if env.debug then (t.greg (BitVec.ofNat 5 ((off - 0x100) / 8))).toNat else 0
  else if off = 0x0200 then chStatus t
  else if off = 0x0208 then chTable env
  else if off = 0x0210 then chSendStats t.chan
  else if off = 0x0218 then chRecvStats t.chan
  else if 0x0280 ≤ off ∧ off < 0x0300 then chQueue (t.chan.queue ((off - 0x280) / 8))
  else if 0x0300 ≤ off ∧ off < 0x0380 then chQhead (t.chan.queue ((off - 0x300) / 8))
  else if 0x0400 ≤ off ∧ off < 0x0600 then chCache t.chan ((off - 0x400) / 8)
  else if off = 0x0C00 then tsChkConfig t
  else if off = 0x0C08 then tsChkStatus t
  else if off = 0x0C10 then tsChkCounts t
  else if 0x0D00 ≤ off ∧ off < 0x1000 then
    bitsOf (tallyWord (SMap.get Tally.empty t.integ.tallyLog ((off - 0xD00) / 48)))
      ((off - 0xD00) % 48 / 8 * 64) 64
  else if 0x1000 ≤ off ∧ off < 0x9000 then compWord (t.comp ((off - 0x1000) / 8))
  else 0

/-- A bit that clears when written as 1 (R176). -/
def w1c (old : Bool) (v i : Nat) : Bool := old && !bitOf v i

/-- A write of TS_COMPLETION[n] (R176, R177). -/
def writeComp (t : Tile) (n v : Nat) : Tile :=
  t.setComp n ⟨BitVec.ofNat 16 (bitsOf v 32 16), BitVec.ofNat 32 (bitsOf v 0 32)⟩

/-- A write of the register at an offset of the tile registers: RO fields stay, RW fields take the value,
W1C bits written as 1 clear; offsets not listed ignore it (R61, R96, R129, R176, R250, R320). -/
def tsWrite (t : Tile) (off v : Nat) : Tile :=
  if off = 0x0008 then { t with seq := { t.seq with excMore := w1c t.seq.excMore v 11 } }
  else if off = 0x0030 then { t with seq := { t.seq with handlerMask := BitVec.ofNat 16 v } }
  else if off = 0x0050 then { t with seq := { t.seq with srSeed := BitVec.ofNat 64 v } }
  else if off = 0x0058 then { t with seq := { t.seq with srCount := BitVec.ofNat 64 v } }
  else if off = 0x0060 then
    { t with arr := { t.arr with
        checkMismatch := w1c t.arr.checkMismatch v 0, nanSeen := w1c t.arr.nanSeen v 1,
        infSeen := w1c t.arr.infSeen v 2, satSeen := w1c t.arr.satSeen v 3 } }
  else if off = 0x0068 then
    { t with spad := { t.spad with
        narrowForced := w1c t.spad.narrowForced v 1, widePromoted := w1c t.spad.widePromoted v 2,
        parityError := w1c t.spad.parityError v 3, readsetOverflow := w1c t.spad.readsetOverflow v 4,
        inboundReadset := w1c t.spad.inboundReadset v 5 } }
  else if off = 0x0200 then
    { t with chan := { t.chan with
        entryBad := w1c t.chan.entryBad v 1, refetch := w1c t.chan.refetch v 2,
        reorderFull := w1c t.chan.reorderFull v 3, gapSkipped := w1c t.chan.gapSkipped v 4 } }
  else if off = 0x0C08 then
    { t with integ := { t.integ with
        blockCrcSeen := w1c t.integ.blockCrcSeen v 0, transportSeen := w1c t.integ.transportSeen v 1,
        tallyMismatch := w1c t.integ.tallyMismatch v 2 } }
  else if 0x1000 ≤ off ∧ off < 0x9000 then writeComp t ((off - 0x1000) / 8) v
  else t

end Sys2Proof.Machine
end

