-- ==== Sys2Proof/Machine/TileVec.lean ====
section
/-! DEFINITION. The vector engine of one tile (R149 to R156). A VEC reads all its sources and then
writes, in the step that issues it; it stays in the engine's queue, its ranges registered, until the engine's time has
come (log entries 15, 109). -/

namespace Sys2Proof.Machine

/-- Whether the operation takes a second source (R151). -/
def vecTakesS2 : VecOp → Bool
  | .add | .sub | .mul | .fma | .max_ | .min_ => true
  | _ => false

/-- Whether the operation is a reduction (R153). -/
def vecReduces : VecOp → Bool
  | .rsum | .rmax | .rmin | .rsumsq => true
  | _ => false

/-- The compute format (R149). -/
def vecFmt (cf : Bool) : FFmt := if cf then fbf16 else f32
/-- The code of the compute format (R46). -/
def vecFmtCode (cf : Bool) : Nat := if cf then 0xB else 0xC
/-- Elements in a step (R150). -/
def vecL (cf : Bool) : Nat := if cf then 128 else 64
/-- Bytes of an element in the compute format. -/
def vecBytes (cf : Bool) : Nat := if cf then 2 else 4

/-- A binary32 number in the compute format, rounded to nearest even (R151). -/
def toCompute (cf : Bool) (x : Nat) : Nat := if cf then fbf16.enc (f32.dec x) else x

/-- One element's result in the compute format, rounded once (R151, R152). -/
def vecElem (op : VecOp) (cf : Bool) (x y d : Nat) : Nat :=
  let f := vecFmt cf
  let a := f.dec x
  match op with
  | .movb => x
  | .cvt => x
  | .add => f.enc (a.add (f.dec y))
  | .sub => f.enc (a.sub (f.dec y))
  | .mul => f.enc (a.mul (f.dec y))
  | .fma => f.enc ((a.mul (f.dec y)).add (f.dec d))
  | .max_ => maxIn f x y
  | .min_ => minIn f x y
  | .abs => f.enc a.abs
  | .neg => f.enc a.neg
  | .exp2 => f.enc a.exp2
  | .log2 => f.enc a.log2
  | .rsqrt => f.enc a.rsqrt
  | .recip => f.enc a.recip
  | .exp => f.enc (f.dec (f.enc (a.mul (f32.dec log2e32)))).exp2
  | .rsum | .rmax | .rmin | .rsumsq => x

/-- One combination of a reduction (R153). -/
def vecCombine (op : VecOp) (cf : Bool) (x y : Nat) : Nat :=
  match op with
  | .rmax => maxIn (vecFmt cf) x y
  | .rmin => minIn (vecFmt cf) x y
  | _ => (vecFmt cf).enc (((vecFmt cf).dec x).add ((vecFmt cf).dec y))

/-- An element as a reduction takes it: its square, rounded, for RSUMSQ (log entry 16). -/
def vecTerm (op : VecOp) (cf : Bool) (x : Nat) : Nat :=
  let f := vecFmt cf
  match op with
  | .rsumsq => f.enc ((f.dec x).mul (f.dec x))
  | _ => f.enc (f.dec x)

/-- Lane j: elements j, j + L, j + 2L and onward combined in ascending order (R153); `n` bounds the steps. -/
def laneFrom (op : VecOp) (cf : Bool) (xs : List Nat) (l : Nat) : Nat → Nat → Nat → Nat
  | 0, _, acc => acc
  | n + 1, j, acc =>
    match xs[j]? with
    | none => acc
    | some x => laneFrom op cf xs l n (j + l) (vecCombine op cf acc x)

/-- Pairs of a list combined (R153). -/
def pairUp (op : VecOp) (cf : Bool) : List Nat → List Nat
  | x :: y :: r => vecCombine op cf x y :: pairUp op cf r
  | r => r

/-- The pairwise tree of R153, `n` levels. -/
def treeOf (op : VecOp) (cf : Bool) : Nat → List Nat → List Nat
  | 0, xs => xs
  | n + 1, xs => treeOf op cf n (pairUp op cf xs)

/-- The value of a reduction over all elements (R153). -/
def vecReduce (op : VecOp) (cf : Bool) (xs : List Nat) : Nat :=
  let ts := xs.map (vecTerm op cf)
  let l := vecL cf
  let lanes := (List.range l).map (fun j => laneFrom op cf ts l (ts.length / l) (j + l) (ts.getD j 0))
  (treeOf op cf 7 lanes).headD 0

/-- Operands of a VEC as its register block gives them (R149). -/
structure VecArgs where
  dst : Nat
  s1 : Nat
  third : Word
  dscale : Nat

/-- Read the register block of a VEC (R149). -/
def vecArgs (t : Tile) (ga : BitVec 5) : VecArgs :=
  { dst := (t.greg ga).toNat, s1 := (t.greg (blockReg ga 1)).toNat, third := t.greg (blockReg ga 2),
    dscale := (t.greg (blockReg ga 3)).toNat }

/-- Rows that `n` elements of a format take from byte 0 of a row (R150). -/
def elemRows (fmt n : Nat) : Nat := ceilDiv (fmtBytes fmt n) 256

/-- Whether s2 is read as rows (R149). -/
def s2Rows (op : VecOp) (f : VecFields) : Bool := vecTakesS2 op && !f.s2s

/-- The ranges of a VEC (R111, R112, R156). -/
def vecRanges (op : VecOp) (f : VecFields) (a : VecArgs) : List Range :=
  let n := f.count.toNat * vecL f.cf
  match op with
  | .movb => [walkRange f.cola a.s1 f.word.toNat f.count.toNat false,
              walkRange f.cold a.dst f.word.toNat f.count.toNat true]
  | _ =>
    rangeOf a.s1 (elemRows f.sfmt.toNat n) false
      ++ (if s2Rows op f then rangeOf a.third.toNat (elemRows (vecFmtCode f.cf) n) false else [])
      ++ (if fmtScaled f.sfmt.toNat then rangeOf a.third.toNat (ceilDiv (ceilDiv n 32) 256) false else [])
      ++ (if vecReduces op then rangeOf a.dst 1 true else rangeOf a.dst (elemRows f.dfmt.toNat n) true)
      ++ (if !(vecReduces op) && fmtScaled f.dfmt.toNat then
            rangeOf a.dscale (ceilDiv (ceilDiv n 32) 256) true else [])

/-- The accesses that a VEC reads (R108, R150). -/
def vecReadSpans (op : VecOp) (f : VecFields) (a : VecArgs) : List (Nat × Nat) :=
  match op with
  | .movb => (List.range f.count.toNat).flatMap (accessSpans f.cola a.s1 f.word.toNat)
  | .fma => rangeSpans ((vecRanges op f a).filter (fun r => !r.write))
      ++ rowSpans a.dst (elemRows f.dfmt.toNat (f.count.toNat * vecL f.cf))
  | _ => rangeSpans ((vecRanges op f a).filter (fun r => !r.write))

/-- Source element i of s1, decoded and brought to the compute format (R150, R151). -/
def vecS1 (t : Tile) (f : VecFields) (a : VecArgs) (i : Nat) : Nat :=
  let fmt := f.sfmt.toNat
  let w := fmtWidth fmt
  let bytes := Memory.readBytes t.spad.mem (a.s1 * 256 + i * w / 8) 4
  let x := bitsOf (leNat bytes) (i * w % 8) w
  let e := if fmtScaled fmt then (Memory.read t.spad.mem (a.third.toNat * 256 + i / 32)).toNat else 127
  toCompute f.cf (decode32 fmt x e)

/-- An element of a row operand in the compute format. -/
def vecPlain (t : Tile) (cf : Bool) (row i : Nat) : Nat :=
  leNat (Memory.readBytes t.spad.mem (row * 256 + i * vecBytes cf) (vecBytes cf))

/-- Element i of s2: a row element or the scalar (R149, R150). -/
def vecS2 (t : Tile) (f : VecFields) (a : VecArgs) (i : Nat) : Nat :=
  if f.s2s then a.third.toNat % 2 ^ (8 * vecBytes f.cf) else vecPlain t f.cf a.third.toNat i

/-- All results of an elementwise VEC in binary32. -/
def vecResults (op : VecOp) (t : Tile) (f : VecFields) (a : VecArgs) : List Nat :=
  (List.range (f.count.toNat * vecL f.cf)).map (fun i =>
    let y := if vecTakesS2 op then vecS2 t f a i else 0
    let d := match op with | .fma => vecPlain t f.cf a.dst i | _ => 0
    let r := vecElem op f.cf (vecS1 t f a i) y d
    if f.cf then r <<< 16 else r)

/-- The first element whose first bit lies in destination row n (log entry 17). -/
def firstElemOfRow (fmt n : Nat) : Nat := ceilDiv (n * 2048) (fmtWidth fmt)

/-- The draw of R59 for element i of a VEC: its row, and its index within the row. -/
def vecDraw (fmt : Nat) (sr : Option (Word × Word)) (i : Nat) : Option Nat :=
  sr.map (fun p =>
    let row := i * fmtWidth fmt / 2048
    srDraw p.1 (p.2 + BitVec.ofNat 64 row) (i - firstElemOfRow fmt row))

/-- Elements from index i on converted at one scale. -/
def vecConvertBlock (fmt e : Nat) (sr : Option (Word × Word)) : Nat → List Nat → List Nat
  | _, [] => []
  | i, x :: xs => (convertElem fmt e (vecDraw fmt sr i) x).1 :: vecConvertBlock fmt e sr (i + 1) xs

/-- Results converted into the destination format, block by block: scale bytes and elements (R150). -/
def vecConvert (fmt : Nat) (sr : Option (Word × Word)) : Nat → Nat → List Nat → List Nat × List Nat
  | 0, _, _ => ([], [])
  | _, _, [] => ([], [])
  | n + 1, i, xs =>
    let blk := xs.take 32
    let e := blockScale fmt blk
    let r := vecConvert fmt sr n (i + 32) (xs.drop 32)
    ((if nanScale fmt blk then 255 else e) :: r.1, vecConvertBlock fmt e sr i blk ++ r.2)

/-- The writes of a VEC (R150, R151, R153, R154). -/
def vecWrites (op : VecOp) (t : Tile) (f : VecFields) (a : VecArgs) : List (Nat × List Byte) :=
  match op with
  | .movb =>
    let n := f.count.toNat
    (List.range n).flatMap (fun i =>
      writeSpans (readSpans t.spad (accessSpans f.cola a.s1 f.word.toNat i))
        (accessSpans f.cold a.dst f.word.toNat i))
  | _ =>
    if vecReduces op then
      let xs := (List.range (f.count.toNat * vecL f.cf)).map (vecS1 t f a)
      [(a.dst * 256, leBytes (vecReduce op f.cf xs) (vecBytes f.cf))]
    else
      let fmt := f.dfmt.toNat
      let rs := vecResults op t f a
      let sr := if f.round then some (t.seq.srSeed, t.seq.srCount) else none
      let cv := vecConvert fmt sr (rs.length / 32 + 1) 0 rs
      [(a.dst * 256, packElems fmt cv.2)]
        ++ (if fmtScaled fmt then [(a.dscale * 256, cv.1.map (BitVec.ofNat 8))] else [])

/-- Why a VEC's fields are refused: a sub-code of R175; 0 when they are not (R48, R156). DESIGN CHOICE (log entry 107):
where several conditions hold, the model records the first of format, count, operand combination, rounding and walk. -/
def vecRefusal (op : VecOp) (f : VecFields) (a : VecArgs) : Nat :=
  let movb := decide (op = .movb)
  if !movb && (decide (0xC < f.sfmt.toNat) || decide (0xC < f.dfmt.toNat)) then 0x01
  else if f.count.toNat = 0 ∨ 4096 < f.count.toNat then 0x03
  else if !movb && (f.cola || f.cold) then 0x08
  else if !movb && fmtScaled f.sfmt.toNat && s2Rows op f then 0x08
  else if (vecReduces op || decide (op = .fma)) && decide (f.dfmt.toNat ≠ vecFmtCode f.cf) then 0x08
  else if !movb && f.round && !stochOk f.dfmt.toNat then 0x07
  else if movb && ((f.cola && walkCrosses a.s1 f.word.toNat f.count.toNat)
      || (f.cold && walkCrosses a.dst f.word.toNat f.count.toNat)) then 0x04
  else 0

/-- The row that a refused VEC records (R174). -/
def vecRefusalRow (f : VecFields) (a : VecArgs) (sub : Nat) : Nat :=
  if sub = 0x04 then (if f.cola && walkCrosses a.s1 f.word.toNat f.count.toNat then a.s1 else a.dst) else 0

/-- The seed counter after a VEC with stochastic rounding (R60). -/
def vecAdvance (op : VecOp) (f : VecFields) (q : Seq) : Seq :=
  if f.round && op != .movb && !(vecReduces op) then
    { q with srCount := q.srCount
        + BitVec.ofNat 64 (elemRows f.dfmt.toNat (f.count.toNat * vecL f.cf)) }
  else q

/-- Issue of VEC (R149 to R156): it joins the vector engine's queue of 4 (R132). -/
def tryVec (env : TileEnv) (t : Tile) (op : VecOp) (f : VecFields) : Tried :=
  let a := vecArgs t f.ga
  let sub := vecRefusal op f a
  if blockTooLong f.ga 4 then .bad excIllegalInstr 0
  else if sub ≠ 0 then .operand sub (vecRefusalRow f a sub)
  else issueWith t (vecRanges op f a) (decide (4 ≤ t.vecQ.length)) (fun t =>
    (checkReads env t (vecReadSpans op f a)).map (fun u =>
      ({ u with seq := vecAdvance op f u.seq, vecQ := u.vecQ ++ [vecRanges op f a] }.writeAll env (vecWrites op t f a)).count
        .vecStep f.count.toNat))

end Sys2Proof.Machine
end

