-- ==== Sys2Proof/Machine/TileSeq.lean ====
section
/-! DEFINITION. The sequencer of one tile: fetch checks, issue, waits, control, handlers, steps and replay
(chapter 05, R119, R315). -/

namespace Sys2Proof.Machine

/-! ### Scalar operations -/

/-- The register operations of R143. -/
def aluOp (op : AluOp) (a b : Word) : Word :=
  match op with
  | .add => a + b
  | .sub => a - b
  | .and_ => a &&& b
  | .or_ => a ||| b
  | .xor_ => a ^^^ b
  | .sll => a <<< (b.toNat % 64)
  | .srl => a >>> (b.toNat % 64)
  | .sra => BitVec.sshiftRight a (b.toNat % 64)
  | .slt => if BitVec.slt a b then 1 else 0
  | .sltu => if BitVec.ult a b then 1 else 0
  | .mul => a * b
  | .mulhu => BitVec.ofNat 64 (a.toNat * b.toNat / 2 ^ 64)
  | .divu => if b = 0 then BitVec.allOnes 64 else a / b
  | .remu => if b = 0 then a else a % b
  | .min_ => if BitVec.slt b a then b else a
  | .max_ => if BitVec.slt a b then b else a

/-- The register operation that an immediate operation applies (R144). -/
def immAlu : ImmOp → AluOp
  | .addi => .add | .andi => .and_ | .ori => .or_ | .xori => .xor_ | .slti => .slt | .sltiu => .sltu
  | .slli => .sll | .srli => .srl | .srai => .sra

/-- IMM14 and OFF14, sign-extended (R141, R144). -/
def sext14 (v : BitVec 14) : Word := v.signExtend 64

/-- The conditions of R146. -/
def branchTaken (op : BranchOp) (a b : Word) : Bool :=
  match op with
  | .beq => decide (a = b)
  | .bne => decide (a ≠ b)
  | .blt => BitVec.slt a b
  | .bge => !BitVec.slt a b
  | .bltu => BitVec.ult a b
  | .bgeu => !BitVec.ult a b

/-- Size of a load in bytes (R145). -/
def loadSize : LoadOp → Nat
  | .lb | .lbu => 1 | .lh | .lhu => 2 | .lw | .lwu => 4 | .ld => 8

/-- Size of a store in bytes (R145). -/
def storeSize : StoreOp → Nat
  | .sb => 1 | .sh => 2 | .sw => 4 | .sd => 8

/-- The loaded bytes as a register value (R145). -/
def loadExtend (op : LoadOp) (x : Nat) : Word :=
  match op with
  | .lb => (BitVec.ofNat 8 x).signExtend 64
  | .lh => (BitVec.ofNat 16 x).signExtend 64
  | .lw => (BitVec.ofNat 32 x).signExtend 64
  | .lbu | .lhu | .lwu | .ld => BitVec.ofNat 64 x

/-- The result of an engine instruction's issue, with pc moved past it. -/
def Tried.past (r : Tried) (n : Nat) : Tried :=
  match r with
  | .done o => .done (o.map (fun t => if t.seq.mode = .exception then t else t.advance n))
  | x => x

/-! ### Loads and stores -/

/-- Base of the tile registers in a tile window (R145). -/
def tileRegBase : Nat := 0x07F00000

/-- Where a sequencer access lies (R145). -/
inductive Place where
  | spad (a : Nat)
  | reg (off : Nat)
  | misaligned
  | outside
  deriving DecidableEq, Repr

/-- The place of an access of `n` bytes (R145, R176): naturally aligned, in the scratchpad, or a whole
tile register; TS_GREG is closed to the sequencer. -/
def placeOf (a n : Nat) : Place :=
  if a % n ≠ 0 then .misaligned
  else if a < 0x7000000 then .spad a
  else if tileRegBase ≤ a ∧ a < tileRegBase + 0x9000 ∧ n = 8 then
    if 0x100 ≤ a - tileRegBase ∧ a - tileRegBase < 0x200 then .outside else .reg (a - tileRegBase)
  else .outside

/-- Bytes as a load sees them: a pending store's value in place of the old one (R116). -/
def pendingRead (stores : List PendingStore) (m : Memory) (a : Nat) : Byte :=
  stores.foldl (fun b s => if s.addr ≤ a ∧ a < s.addr + s.bytes.length then s.bytes.getD (a - s.addr) 0 else b)
    (Memory.read m a)

/-- The value of a load from the scratchpad (R116). -/
def spadLoad (t : Tile) (a n : Nat) : Nat :=
  leNat ((List.range n).map (fun i => pendingRead t.spad.stores t.spad.mem (a + i)))

/-- Issue of a load (R116, R118, R119, R123, R128, R145). -/
def tryLoad (env : TileEnv) (t : Tile) (op : LoadOp) (gd ga : BitVec 5) (v : BitVec 14) : Tried :=
  let a := (t.greg ga + sext14 v).toNat
  let n := loadSize op
  match placeOf a n with
  | .misaligned => .bad excMisaligned a
  | .outside => .bad excAddress a
  | .reg off => .done (TOut.pure ((t.setGreg gd (BitVec.ofNat 64 (tsRead env t off))).advance 4))
  | .spad a =>
    let row := a / 256
    if otherCtxRow t row then .operand 0x06 row
    else if (registered t).any (fun r => r.write && decide (r.first ≤ row) && decide (row ≤ r.last)) then
      .wait .scoreboard
    else
      let u := addRead (t.setGreg gd (loadExtend op (spadLoad t a n))) row row
      (Tried.done ((TOut.pure u).andIf (t.spad.parityHit a n) (parityFound env))).past 4

/-- Issue of a store (R116, R118, R120, R123, R145, R314). -/
def tryStore (t : Tile) (op : StoreOp) (ga gb : BitVec 5) (v : BitVec 14) : Tried :=
  let a := (t.greg ga + sext14 v).toNat
  let n := storeSize op
  match placeOf a n with
  | .misaligned => .bad excMisaligned a
  | .outside => .bad excAddress a
  | .reg off => .done (TOut.pure ((tsWrite t off (t.greg gb).toNat).outside.advance 4))
  | .spad a =>
    let row := a / 256
    match rangeFault t ⟨row, row, true⟩ with
    | some f => .bad f.1 f.2
    | none =>
      if (registered t).any (fun r => decide (r.first ≤ row) && decide (row ≤ r.last)) then .wait .scoreboard
      else if 4 ≤ t.spad.stores.length then .wait .queueFull
      else
        let s : PendingStore := ⟨a, leBytes (t.greg gb).toNat n⟩
        .done (TOut.pure ({ t with spad := { t.spad with stores := t.spad.stores ++ [s] } }.advance 4))

/-- PENDING_STORE_WRITE (R116, R294): the oldest pending store is written. -/
def tilePendingStore (env : TileEnv) (t : Tile) : TOut :=
  match t.spad.stores with
  | [] => TOut.pure t
  | s :: r =>
    let sp := { t.spad with stores := r }.putBytes s.addr s.bytes
    TOut.pure { t with spad := touchBlocks env.parityMode (fun _ => false) sp [s.addr / 4096] }

/-! ### Waits -/

/-- Whether a WAITC is complete (R164). -/
def waitcMet (t : Tile) (ga : BitVec 5) (cnt : BitVec 12) : Bool :=
  decide ((t.greg ga).toNat % 2 ^ 32 ≤ (t.comp cnt.toNat).count.toNat + (t.comp cnt.toNat).failed.toNat)

/-- A WAITC completes (R164, R314). -/
def waitcDone (t : Tile) (gd ga : BitVec 5) (cnt : BitVec 12) (consume : Bool) : Tile :=
  let c := t.comp cnt.toNat
  let v := (t.greg ga).toNat % 2 ^ 32
  let t1 := t.setGreg gd (c.failed.setWidth 64)
  let t2 := if consume then
      (t1.setComp cnt.toNat ⟨0, BitVec.ofNat 32 (c.count.toNat + c.failed.toNat - v)⟩).outside
    else t1
  t2.advance 4

/-- The tide mark that a TIDEWAIT with MARK waits for: the first after the present count (R165). -/
def markAfter (env : TileEnv) : BitVec 64 :=
  if env.tide.toNat < env.nextMark.toNat then env.nextMark else env.nextMark + 4096

/-- Whether a TIDEWAIT is complete (R165). -/
def tidewaitMet (env : TileEnv) (t : Tile) (ga : BitVec 5) (mark : Bool) (target : BitVec 64) : Bool :=
  if mark then decide (target.toNat ≤ env.tide.toNat) else decide ((t.greg ga).toNat ≤ env.tide.toNat)

/-- Whether every earlier instruction is complete and every pending store written (R115, R166). -/
def fenceMet (t : Tile) : Bool :=
  workDone t && t.chan.cur.isNone && t.chan.parked.isNone

/-- Whether STEP and HALT may complete: as FENCE, and every check decided (R168, R312). -/
def stepMet (t : Tile) : Bool :=
  fenceMet t && decide (t.integ.checks = []) && t.integ.replayPending.isNone

/-- Wait at the instruction at pc. -/
def Tile.waitAt (t : Tile) (i : TInstr) (kind : WaitKind) (mark : BitVec 64) : Tile :=
  { t with seq := { t.seq with cur := some ⟨i, kind, mark⟩ } }

/-- The PILOT packet of R381: START, DUR, CLASS and PART. -/
def pilotHint (env : TileEnv) (t : Tile) (lead : BitVec 8) (cls : BitVec 3) (dur : BitVec 12) : Packet :=
  let start := (markAfter env).toNat / 4096 + lead.toNat
  sealPacket { basePacket env t with
    typ := tyPilot, last := true, dport := 5, dsite := BitVec.ofNat 9 env.pilotSite, len := 16,
    payload := leBytes start 8 ++ leBytes dur.toNat 2 ++ leBytes cls.toNat 1 ++ leBytes env.part.toNat 1
      ++ zeroBytes 4 }

/-- Issue of PILOT (R167, R381). -/
def tryPilot (env : TileEnv) (t : Tile) (lead : BitVec 8) (cls : BitVec 3) (dur : BitVec 12) : Tried :=
  if lead = 0 ∨ dur = 0 then .operand 0x03 0
  else .done ⟨t.advance 4, [.inject (pilotHint env t lead cls dur)]⟩

/-- HRET (R172): the head message is released if the handler has not taken it, and the main program goes
on, its hold or wait entered afresh. -/
def tryHret (env : TileEnv) (t : Tile) : Tried :=
  if !t.seq.handler then .bad excIllegalInstr 0
  else
    let o := if t.seq.handlerTaken then TOut.pure t else releaseHead env t t.seq.handlerQ
    .done (o.map (fun t =>
      { t with seq := { t.seq with handler := false, handlerTaken := false, pc := t.seq.handlerPc,
                                   cur := t.seq.mainCur, mainCur := none } }))

/-- Try the instruction at pc (R131, R143 to R169). `mark` is the mark that a waiting TIDEWAIT keeps. -/
def tryInstr (env : TileEnv) (t : Tile) (i : TInstr) (mark : BitVec 64) : Tried :=
  match i with
  | .alu op gd ga gb => .done (TOut.pure ((t.setGreg gd (aluOp op (t.greg ga) (t.greg gb))).advance 4))
  | .imm op gd ga v =>
    if immIsShift op && decide (64 ≤ v.toNat) then .bad excIllegalInstr 0
    else .done (TOut.pure ((t.setGreg gd (aluOp (immAlu op) (t.greg ga) (sext14 v))).advance 4))
  | .li gd v => .done (TOut.pure ((t.setGreg gd (v.signExtend 64)).advance 8))
  | .lih gd v => .done (TOut.pure ((t.setGreg gd (v ++ (t.greg gd).setWidth 32)).advance 8))
  | .load op gd ga v => tryLoad env t op gd ga v
  | .store op ga gb v => tryStore t op ga gb v
  | .branch op ga gb off =>
    if branchTaken op (t.greg ga) (t.greg gb) then
      .done (TOut.pure { t with seq := { t.seq with pc := t.seq.pc + 4 * sext14 off, cur := none } })
    else .done (TOut.pure (t.advance 4))
  | .jal gd off =>
    let u := t.setGreg gd (t.seq.pc + 4)
    .done (TOut.pure { u with seq := { u.seq with pc := t.seq.pc + 4 * off.signExtend 64, cur := none } })
  | .jalr gd ga v =>
    let u := t.setGreg gd (t.seq.pc + 4)
    .done (TOut.pure { u with seq := { u.seq with pc := t.greg ga + sext14 v, cur := none } })
  | .hret => tryHret env t
  | .wload f => (tryWload env t f).past 8
  | .stream f => (tryStream env t f).past 8
  | .drain f => (tryDrain env t f).past 8
  | .vec op f => (tryVec env t op f).past 8
  | .move fetch f => (tryMove env t fetch f).past 8
  | .movec f => (tryMovec env t f).past 8
  | .send f => match trySend env t f with
    | .done o => .done (o.map (fun t => if t.seq.mode = .exception then t else t.holdAt i .send))
    | x => x
  | .recv f => tryRecv env t f
  | .waitc gd ga cnt c =>
    if waitcMet t ga cnt then .done (TOut.pure (waitcDone t gd ga cnt c)) else .wait .waitc
  | .tidewait ga m =>
    if tidewaitMet env t ga m mark then .done (TOut.pure (t.advance 4))
    else .done (TOut.pure (t.waitAt i .tidewait mark))
  | .fence => if fenceMet t then .done (TOut.pure (t.advance 4)) else .wait .fence
  | .pilot lead cls dur => tryPilot env t lead cls dur
  | .step _ => .wait .fence
  | .halt _ => .wait .fence

/-- The first word of an instruction (R174). -/
def firstWord (i : TInstr) : Nat := encodeT i % 2 ^ 32

/-- What becomes of a tried instruction (R131, R173): an exception, a hold, or its effect. -/
def settleTried (env : TileEnv) (t : Tile) (i : TInstr) (r : Tried) : TOut :=
  match r with
  | .bad cause d => raiseExc env t cause (if cause = excIllegalInstr then firstWord i else d)
  | .wait kind => TOut.pure (t.holdAt i kind)
  | .done o => o

/-- Whether the word at an address lies in a moored code area of the running context (R122, R139). -/
def fetchOk (t : Tile) (a : Nat) : Bool :=
  decide (a % 4 = 0) && decide (a < 0x7000000) && codeRow t (a / 256) && !otherCtxRow t (a / 256)

/-- The address that a fetch fails at, none when the whole instruction may be fetched (R139). -/
def fetchFault (t : Tile) (i : TInstr) : Option Nat :=
  let pc := t.seq.pc.toNat
  if !fetchOk t pc then some pc
  else if lengthT i = 8 ∧ !fetchOk t (pc + 4) then some (pc + 4) else none

/-- Whether the sequencer may issue at all (R131, R134, R137, R173, R178, R315). -/
def mayIssue (env : TileEnv) (t : Tile) : Bool :=
  decide (t.seq.mode = .running) && !t.seq.paused && t.seq.excDue.isNone && t.integ.replayPending.isNone
    && t.seq.dispatching.isNone && !t.inReset && decide (t.seq.startAt.toNat ≤ env.tide.toNat)

/-- The instruction-cache line that holds the word at an address (R138): direct-mapped on bits [12:6]. -/
def lineOf (t : Tile) (a : Nat) : ILine := SMap.get ILine.none t.seq.icache (a / 64 % 128)

/-- Whether the word at an address is cached (R138). -/
def lineHit (t : Tile) (a : Nat) : Bool := (lineOf t a).valid && decide ((lineOf t a).base = a / 64 * 64)

/-- A miss fills the line by eight narrow accesses of 8 bytes, each with its parity check (R128, R138). -/
def fillLine (env : TileEnv) (t : Tile) (a : Nat) : TOut :=
  if lineHit t a then TOut.pure t
  else
    let base := a / 64 * 64
    let l : ILine := ⟨true, base, Memory.readBytes t.spad.mem base 64⟩
    (TOut.pure { t with seq := { t.seq with icache := SMap.set ILine.none t.seq.icache (a / 64 % 128) l } }).andIf
      (t.spad.parityHit base 64) (parityFound env)

/-- The lines of an instruction of `n` bytes at pc are brought into the cache (R138). -/
def fillLines (env : TileEnv) (t : Tile) (n : Nat) : TOut :=
  (fillLine env t t.seq.pc.toNat).andIf (decide (n = 8)) (fun u => fillLine env u (t.seq.pc.toNat + 4))

/-- Whether a tile may go on with the fetched instruction: no error was found in its lines. -/
def fetchGood (t : Tile) : Bool :=
  decide (t.seq.mode = .running) && t.seq.excDue.isNone && t.integ.replayPending.isNone

/-- Fetch checks and issue of the instruction at pc (R131, R138, R139). -/
def issueAt (env : TileEnv) (t : Tile) (i : TInstr) (mark : BitVec 64) : TOut :=
  match fetchFault t i with
  | some a => raiseExc env t excFetch a
  | none => (fillLines env t (lengthT i)).andThen (fun u =>
      if fetchGood u then settleTried env u i (tryInstr env u i mark) else TOut.pure u)

/-- An instruction of the program is issued (R131): only when the sequencer may issue and no earlier
instruction is held. -/
def tileIssue (env : TileEnv) (i : TInstr) (t : Tile) : TOut :=
  if mayIssue env t && t.seq.cur.isNone then
    (issueAt env t i (markAfter env)).map settlePause
  else TOut.pure t

/-- The cached word at an address. -/
def cachedWord (t : Tile) (a : Nat) : Nat := leNat (((lineOf t a).code.drop (a % 64)).take 4)

/-- The instruction that the cache holds at pc (R138 to R140), its lines being there; its first word when it decodes to
none. -/
def fetchAt (t : Tile) : Nat × Option TInstr :=
  let w := cachedWord t t.seq.pc.toNat
  if bitOf w 7 then (w, decodeT (w + cachedWord t (t.seq.pc.toNat + 4) * 2 ^ 32)) else (w, decodeT w)

/-- Issue of the instruction that the cache holds at pc. -/
def issueFetched (env : TileEnv) (t : Tile) : TOut :=
  match (fetchAt t).2 with
  | some i => settleTried env t i (tryInstr env t i (markAfter env))
  | none => raiseExc env t excIllegalInstr (fetchAt t).1

/-- The instruction at pc is fetched and issued (R138, R139): the first word, and where its bit [7] says so the second, is
checked to lie in a code area and is read through the cache. -/
def fetchAndIssue (env : TileEnv) (t : Tile) : TOut :=
  let pc := t.seq.pc.toNat
  if !fetchOk t pc then raiseExc env t excFetch pc
  else (fillLine env t pc).andThen (fun t =>
    if !fetchGood t then TOut.pure t
    else if !bitOf (cachedWord t pc) 7 then issueFetched env t
    else if !fetchOk t (pc + 4) then raiseExc env t excFetch (pc + 4)
    else (fillLine env t (pc + 4)).andThen (fun t => if fetchGood t then issueFetched env t else TOut.pure t))

/-- ISSUE_AFTER_HOLD (R131): the held instruction is tried again, the engines having gone on meanwhile (log entry 109);
with none held, the instruction at pc is fetched, decoded and issued. -/
def tileIssueAfterHold (env : TileEnv) (t : Tile) : TOut :=
  if !mayIssue env t then TOut.pure t
  else match t.seq.cur with
  | some h =>
    if h.kind = .send then TOut.pure t
    else (settleTried env (enginesRun t) h.ins (tryInstr env (enginesRun t) h.ins h.mark)).map settlePause
  | none => (fetchAndIssue env t).map settlePause

/-- A wait of one kind is tried again (R163 to R166). -/
def retryWait (env : TileEnv) (t : Tile) (p : TInstr → Bool) : TOut :=
  match t.seq.cur with
  | some h =>
    if mayIssue env t && p h.ins then
      (settleTried env t h.ins (tryInstr env t h.ins h.mark)).map settlePause
    else TOut.pure t
  | none => TOut.pure t

/-- WAITC_COMPLETE (R164). -/
def tileWaitcComplete (env : TileEnv) (t : Tile) : TOut :=
  retryWait env t (fun i => match i with | .waitc _ _ _ _ => true | _ => false)

/-- TIDEWAIT_COMPLETE (R165). -/
def tileTidewaitComplete (env : TileEnv) (t : Tile) : TOut :=
  retryWait env t (fun i => match i with | .tidewait _ _ => true | _ => false)

/-- FENCE_COMPLETE (R166); the engines have gone on meanwhile (log entry 109). -/
def tileFenceComplete (env : TileEnv) (t : Tile) : TOut :=
  retryWait env (enginesRun t) (fun i => match i with | .fence => true | _ => false)

/-- RECV_WAIT_END (R163). -/
def tileRecvWaitEnd (env : TileEnv) (t : Tile) : TOut :=
  retryWait env t (fun i => match i with | .recv _ => true | _ => false)

/-- What a tile does of itself as time goes on (log entry 109): its engines do the VECs and WLOADs that have no row for
it, and an exception that waited for issued work is recorded (R173). -/
def tileClock (env : TileEnv) (t : Tile) : TOut := settleExc env (enginesRun t)

/-- Whether a tile has such work. -/
def clockDue (t : Tile) : Bool :=
  decide (t.vecQ ≠ []) || t.seq.excDue.isSome || (loadFrom t.arr.queue).2.isSome

/-! ### Steps, halting, replay and handlers -/

/-- The tile digest of R287: the 64 bytes that a STEP commit sends in pair mode. -/
def digestBytes (env : TileEnv) (t : Tile) (tag : BitVec 16) (seq : BitVec 64) : List Byte :=
  let ys := t.integ.stepTallies
  leBytes env.site 2 ++ leBytes env.part.toNat 1 ++ leBytes (t.ctx.getD 0).toNat 1 ++ leBytes tag.toNat 2
    ++ zeroBytes 2 ++ leBytes seq.toNat 8 ++ leBytes ys.length 4 ++ zeroBytes 4
    ++ leBytes (crc64 (ys.flatMap (fun y => leBytes y.crc.toNat 8))) 8
    ++ leBytes (sum64 (ys.map (fun y => y.sum.toNat))) 8 ++ leBytes (sum64 (ys.map (fun y => y.absSum.toNat))) 8
    ++ leBytes ((ys.map (fun y => y.count.toNat)).sum) 8 ++ leBytes env.tide.toNat 8

/-- The packet that carries a tile digest (R287). -/
def digestPacket (env : TileEnv) (t : Tile) (tag : BitVec 16) (seq : BitVec 64) : Packet :=
  sealPacket { basePacket env t with
    typ := tyWrite, last := true, dport := 5, dsite := BitVec.ofNat 9 env.collectorSite,
    addr := 0xFFFFFFFFFFC0, len := 64, payload := digestBytes env t tag seq }

/-- The commit of a step (R119, R168, R313, R287). -/
def commitStep (env : TileEnv) (t : Tile) (tag : BitVec 16) : TOut :=
  let pc := t.seq.pc + 4
  let n := t.integ.stepSeq + 1
  let rp : ReplayPoint :=
    { gregs := t.seq.gregs, hbank := t.seq.hbank, pc := pc, srCount := t.seq.srCount,
      mask := t.seq.handlerMask, passes := t.integ.passes, handler := t.seq.handler }
  let integ := { t.integ with replayPoint := some rp, unclean := false, outside := false, replaying := false,
                              stepSeq := n, stepTallies := [] }
  let spad := { t.spad with readSet := [], stepOverflow := false, stepInbound := false }
  let o := TOut.pure { t with
    seq := { t.seq with stepTag := tag, pc := pc, cur := none }, integ := integ, spad := spad,
    arr := { t.arr with slotRows := [] } }
  if env.pairMode then o.emit (.inject (digestPacket env t tag n)) else o

/-- STEP_COMMIT (R168): a waiting STEP commits when its wait has ended. -/
def tileStepCommit (env : TileEnv) (t : Tile) : TOut :=
  match t.seq.cur with
  | some h => match h.ins with
    | .step tag =>
      let t := enginesRun t
      if mayIssue env t && stepMet t then (commitStep env t tag).map settlePause else TOut.pure t
    | _ => TOut.pure t
  | none => TOut.pure t

/-- HALT_STOP (R169): a waiting HALT stops the sequencer and reports CODE. -/
def tileHaltStop (env : TileEnv) (t : Tile) : TOut :=
  match t.seq.cur with
  | some h => match h.ins with
    | .halt code =>
      let t := enginesRun t
      if mayIssue env t && stepMet t then
        ⟨{ t.advance 4 with seq := { (t.advance 4).seq with mode := .halted, haltCode := code } }, [.halted]⟩
      else TOut.pure t
    | _ => TOut.pure t
  | none => TOut.pure t

/-- REPLAY (R315): once issued work is complete, the replay point is restored and the open step runs again;
a SEND not accepted is withdrawn, and verdicts still due are discarded. -/
def tileReplay (env : TileEnv) (t : Tile) : TOut :=
  match t.integ.replayPending, t.integ.replayPoint with
  | some ck, some rp =>
    let t := enginesRun t
    if workDone t then
      let integ := { t.integ with passes := rp.passes, replaying := true, replayPending := none, checks := [],
                                  copyOut := [], replays := bump16 t.integ.replays, unclean := false }
      let q := { t.seq with gregs := rp.gregs, hbank := rp.hbank, pc := rp.pc, srCount := rp.srCount,
                            handlerMask := rp.mask, handler := rp.handler, handlerTaken := false,
                            dispatching := none, cur := none, mainCur := none, icache := [] }
      let c := { t.chan with cur := none, parked := none }
      ⟨settlePause { t with seq := q, integ := integ, chan := c, arr := { t.arr with slotRows := [] } },
       [.log (tileNote env t 1 0x0102 none ck.toNat 0)]⟩
    else TOut.pure t
  | _, _ => TOut.pure t

/-- The queue whose dispatch request is taken: the lowest with a complete message at its head and its mask
bit set (R170). -/
def dispatchQueue (t : Tile) : Option Nat :=
  (List.range 16).find? (fun q => bitOf t.seq.handlerMask.toNat q && decide ((t.chan.queue q).msgs ≠ []))

/-- Handler mode is entered for queue q with message m at its head (R171). -/
def enterMode (t : Tile) (q : Nat) (m : QMsg) (head : Nat) : Tile :=
  let hb := t.seq.hbank
  let hb := SMap.set 0 hb 24 (BitVec.ofNat 64 q)
  let hb := SMap.set 0 hb 25 (m.chan.setWidth 64)
  let hb := SMap.set 0 hb 26 (BitVec.ofNat 64 m.len)
  let hb := SMap.set 0 hb 27 (BitVec.ofNat 64 (queueByte q head 0))
  let hb := SMap.set 0 hb 28 (m.sender.setWidth 64)
  { t with seq := { t.seq with hbank := hb, handler := true, handlerPc := t.seq.pc, handlerQ := q,
                               handlerTaken := false, mainCur := t.seq.cur, cur := none,
                               dispatching := some q } }

/-- HANDLER_DISPATCH (R170, R171): a request is accepted at a dispatch point; the handler's address comes
from the cached entry, or the entry is read first. -/
def tileDispatch (env : TileEnv) (t : Tile) : TOut :=
  if mayIssue env t && atDispatchPoint t then
    match dispatchQueue t with
    | none => TOut.pure t
    | some q => match (t.chan.queue q).msgs with
      | [] => TOut.pure t
      | m :: _ =>
        let u := enterMode t q m (t.chan.queue q).head
        match t.chan.entry m.chan with
        | some e => TOut.pure (enterHandler u e)
        | none => askEntry env u m.chan
  else TOut.pure t

/-- The program state that LAUNCH gives a tile (R137, R247): pc and the registers of the table, everything
else of the sequencer and the channels cleared; slots, hold and cells stay. -/
def launchTile (t : Tile) (ctx : BitVec 3) (site pos count : Nat) (entry : Nat) (arg : Word)
    (start : BitVec 64) (level : BitVec 2) (partner : BitVec 9) : Tile :=
  let q0 := { Seq.clear with mode := .running, pc := BitVec.ofNat 64 entry, startAt := start }
  let g := SMap.set 0 (SMap.set 0 (SMap.set 0 (SMap.set 0 [] 3 (BitVec.ofNat 64 site)) 4 (BitVec.ofNat 64 pos)) 5
    (BitVec.ofNat 64 count)) 6 arg
  { t with
    seq := { q0 with gregs := g }, ctx := some ctx, chan := Chan.clear,
    arr := { t.arr with slotRows := [], wloadIssued := false },
    spad := { t.spad with readSet := [], stepOverflow := false, stepInbound := false },
    integ := { Integ.clear with
      level := level, partner := partner, suspect := t.integ.suspect, replays := t.integ.replays,
      unverified := t.integ.unverified, skipped := t.integ.skipped, unchecked := t.integ.unchecked,
      transport := t.integ.transport, tally := t.integ.tally,
      tallyMismatch := t.integ.tallyMismatch, transportSeen := t.integ.transportSeen,
      blockCrcSeen := t.integ.blockCrcSeen, lastCheck := t.integ.lastCheck,
      lastReason := t.integ.lastReason, tallyLog := t.integ.tallyLog } }

/-- A tile after a tile reset (R95, R124, R249): SUSPECT and the counts belong to the tile and stay. -/
def resetTile (t : Tile) : Tile :=
  { Tile.clear with
    inReset := true,
    integ := { Integ.clear with
      suspect := t.integ.suspect, replays := t.integ.replays, unverified := t.integ.unverified,
      skipped := t.integ.skipped, unchecked := t.integ.unchecked, transport := t.integ.transport,
      tally := t.integ.tally } }

end Sys2Proof.Machine
end

