-- ==== Sys2Proof/Machine/Ops.lean ====
section
/-! DEFINITION. Operations that every block of the device shares: the geometry of the die, the files of
units, the reply ring, answers to commands, the fault log and the entry to HALTED. -/

namespace Sys2Proof.Machine

/-! ### Geometry (R16, R17, R21, R372) -/

/-- Column of a site (R17). -/
def siteX (n : Nat) : Nat := n % 16
/-- Row of a site (R17). -/
def siteY (n : Nat) : Nat := n / 16
/-- Region index of a site (R16, R17). -/
def regionOf (n : Nat) : Nat := n / 16 / 6 * 4 + n % 16 / 4
/-- The sites of a region, ascending (R17). -/
def regionSites (r : Nat) : List Nat :=
  (List.range 6).flatMap (fun j => (List.range 4).map (fun i => (r / 4 * 6 + j) * 16 + r % 4 * 4 + i))
/-- All sites (R17). -/
def allSites : List Nat := List.range 480

/-! ### Files of units -/

/-- Read a partition. -/
def State.part (s : State) (p : Nat) : Partn := SMap.get Partn.none s.parts p
/-- Write a partition. -/
def State.setPart (s : State) (p : Nat) (v : Partn) : State := { s with parts := SMap.set Partn.none s.parts p v }
/-- Change a partition. -/
def State.modPart (s : State) (p : Nat) (f : Partn → Partn) : State := s.setPart p (f (s.part p))
/-- The number of context c of partition p (R428). -/
def ctxNo (p c : Nat) : Nat := 8 * p + c
/-- Read a context. -/
def State.ctx (s : State) (n : Nat) : Ctxt := SMap.get Ctxt.none s.ctxs n
/-- Write a context. -/
def State.setCtx (s : State) (n : Nat) (v : Ctxt) : State := { s with ctxs := SMap.set Ctxt.none s.ctxs n v }
/-- Change a context. -/
def State.modCtx (s : State) (n : Nat) (f : Ctxt → Ctxt) : State := s.setCtx n (f (s.ctx n))
/-- Read a tile. -/
def State.tile (s : State) (n : Nat) : Tile := SMap.get Tile.clear s.tiles n
/-- Write a tile. -/
def State.setTile (s : State) (n : Nat) (v : Tile) : State := { s with tiles := SMap.set Tile.clear s.tiles n v }
/-- Change a tile. -/
def State.modTile (s : State) (n : Nat) (f : Tile → Tile) : State := s.setTile n (f (s.tile n))
/-- Read a router. -/
def State.router (s : State) (n : Nat) : Router := SMap.get Router.clear s.net.routers n
/-- Write a router. -/
def State.setRouter (s : State) (n : Nat) (v : Router) : State :=
  { s with net := { s.net with routers := SMap.set Router.clear s.net.routers n v } }
/-- Change a router. -/
def State.modRouter (s : State) (n : Nat) (f : Router → Router) : State := s.setRouter n (f (s.router n))
/-- Read a link die. -/
def State.link (s : State) (n : Nat) : Link := SMap.get (Link.fresh .absent) s.fab.links n
/-- Write a link die. -/
def State.setLink (s : State) (n : Nat) (v : Link) : State :=
  { s with fab := { s.fab with links := SMap.set (Link.fresh .absent) s.fab.links n v } }
/-- Change a link die. -/
def State.modLink (s : State) (n : Nat) (f : Link → Link) : State := s.setLink n (f (s.link n))
/-- Read a stack. -/
def State.stack (s : State) (n : Nat) : Stack := SMap.get (Stack.fresh .absent) s.hbm.hbmStacks n
/-- Write a stack. -/
def State.setStack (s : State) (n : Nat) (v : Stack) : State :=
  { s with hbm := { s.hbm with hbmStacks := SMap.set (Stack.fresh .absent) s.hbm.hbmStacks n v } }
/-- Change a stack. -/
def State.modStack (s : State) (n : Nat) (f : Stack → Stack) : State := s.setStack n (f (s.stack n))
/-- Read a rail. -/
def State.rail (s : State) (n : Nat) : Rail := SMap.get Rail.clear s.pwr.rails n
/-- Write a rail. -/
def State.setRail (s : State) (n : Nat) (v : Rail) : State :=
  { s with pwr := { s.pwr with rails := SMap.set Rail.clear s.pwr.rails n v } }
/-- Change a rail. -/
def State.modRail (s : State) (n : Nat) (f : Rail → Rail) : State := s.setRail n (f (s.rail n))
/-- Read a region's power state. -/
def State.pregion (s : State) (n : Nat) : PwrRegion := SMap.get PwrRegion.clear s.pwr.regions n
/-- Change a region's power state. -/
def State.modPregion (s : State) (n : Nat) (f : PwrRegion → PwrRegion) : State :=
  { s with pwr := { s.pwr with regions := SMap.set PwrRegion.clear s.pwr.regions n (f (s.pregion n)) } }
/-- Read a region's clock state. -/
def State.cregion (s : State) (n : Nat) : ClkRegion := SMap.get ClkRegion.clear s.clk.regions n
/-- Change a region's clock state. -/
def State.modCregion (s : State) (n : Nat) (f : ClkRegion → ClkRegion) : State :=
  { s with clk := { s.clk with regions := SMap.set ClkRegion.clear s.clk.regions n (f (s.cregion n)) } }
/-- Read a UCIe module. -/
def State.uciModule (s : State) (n : Nat) : UciModule := SMap.get UciModule.clear s.uci.modules n
/-- Change a UCIe module. -/
def State.modUciModule (s : State) (n : Nat) (f : UciModule → UciModule) : State :=
  { s with uci := { s.uci with modules := SMap.set UciModule.clear s.uci.modules n (f (s.uciModule n)) } }
/-- Read a site record. -/
def State.siteRec (s : State) (n : Nat) : SiteRec := SMap.get SiteRec.good s.bring.sites n
/-- Change a site record. -/
def State.modSite (s : State) (n : Nat) (f : SiteRec → SiteRec) : State :=
  { s with bring := { s.bring with sites := SMap.set SiteRec.good s.bring.sites n (f (s.siteRec n)) } }

/-- The regions of a partition (R409). -/
def Partn.regions (p : Partn) : List Nat :=
  if p.valid then (List.range 20).filter (fun r =>
    decide (p.c0 ≤ r % 4) && decide (r % 4 ≤ p.c1) && decide (p.r0 ≤ r / 4) && decide (r / 4 ≤ p.r1))
  else []
/-- The partition that holds a region (R409). -/
def State.partOfRegion (s : State) (r : Nat) : Option Nat :=
  (List.range 20).find? (fun p => (s.part p).regions.contains r)
/-- The partition that holds a site. -/
def State.partOfSite (s : State) (n : Nat) : Option Nat := s.partOfRegion (regionOf n)
/-- The sites of a partition, ascending. -/
def State.partSites (s : State) (p : Nat) : List Nat :=
  let rs := (s.part p).regions
  allSites.filter (fun n => rs.contains (regionOf n))
/-- Whether a site's STATUS is good (R457). -/
def State.siteGood (s : State) (n : Nat) : Bool := decide ((s.siteRec n).status = 0)
/-- Number of good sites (R467). -/
def State.goodTiles (s : State) : Nat := (allSites.filter s.siteGood).length
/-- GOOD_TILES (R460, R467): before the floor plan is published every tested site still reads untested. -/
def State.shownGood (s : State) : Nat := if s.bring.published then s.goodTiles else 0
/-- Sites that a context's launch names, in placement order (R421). -/
def Ctxt.sites (c : Ctxt) : List Nat :=
  match c.launch with
  | some l => l.plan.places.map (fun p => p.site)
  | .none => []
/-- Whether a context is launched: LOADING, RUNNING, READY or PAUSED (R412). -/
def Ctxt.launched (c : Ctxt) : Bool :=
  decide (c.state = .loading) || decide (c.state = .running) || decide (c.state = .ready) || decide (c.state = .paused)
/-- The contexts of a partition, by index. -/
def ctxsOf (p : Nat) : List Nat := (List.range 8).map (ctxNo p)
/-- All contexts. -/
def allCtxs : List Nat := List.range 160
/-- All partitions. -/
def allParts : List Nat := List.range 20
/-- Stacks in service (R346). -/
def State.stacksInService (s : State) : List Nat :=
  (List.range 24).filter (fun k => decide ((s.stack k).state = .inService))

/-- Fold a step over a list of numbers. -/
def State.each (s : State) (f : State → Nat → State) (ns : List Nat) : State := ns.foldl f s

/-- The level held of a licence; 0 when it is not held (R439, R464). -/
def State.licence (s : State) (f : Nat) : Nat := SMap.get 0 s.bring.licences f

/-- The rails (R372): VLOG of a region, VMEM of a region, VLNK and the four VHIO. -/
def railVlog (r : Nat) : Nat := r
def railVmem (r : Nat) : Nat := 20 + r

/-! ### The host's memory and the reply ring (R399, R404 to R406, R432) -/

/-- Something leaves the device. -/
def State.emit (s : State) (o : Out) : State := { s with out := s.out ++ [o] }

/-- Cut a write at 4,096 bytes (R399); `n` bounds the number of pieces. -/
def hostPieces (addr : Nat) : Nat → List Byte → List Out
  | 0, _ => []
  | n + 1, bs =>
    if bs = [] then []
    else
      let k := 4096 - addr % 4096
      .hostWrite addr (bs.take k) :: hostPieces (addr + k) n (bs.drop k)

/-- Device writes of a byte string (R399, R431). -/
def State.hostOut (s : State) (addr : Nat) (bs : List Byte) : State :=
  { s with out := s.out ++ hostPieces addr (bs.length / 4096 + 2) bs }

/-- The content of a record (R432). -/
def Rec.bytes (r : Rec) (seq : Nat) : List Byte :=
  leBytes r.typ 1 ++ leBytes r.status 1 ++ leBytes r.tag.toNat 2 ++ leBytes r.opcode 2 ++ leBytes r.body.length 2
    ++ leBytes r.part 1 ++ leBytes r.ctx 1 ++ leBytes seq 2 ++ zeroBytes 4 ++ leBytes r.tide.toNat 8 ++ r.body

/-- Ring entries that a record takes (R432). -/
def Rec.entries (r : Rec) : Nat := ceilDiv (24 + r.body.length) 63

/-- The ring's size in entries (R404). -/
def Uci.size (u : Uci) : Nat := 2 ^ u.sizeLog2

/-- The room of R405. -/
def Uci.room (u : Uci) : Nat := (u.consumer + 2 * u.size - u.producer - 1) % u.size

/-- Write the entries of a record: content pieces of 63 bytes, each with its byte 63 (R404). -/
def ringEntries (base : Nat) : Nat → Uci → List Byte → Uci × List Out
  | 0, u, _ => (u, [])
  | n + 1, u, bs =>
    let piece := (bs.take 63) ++ zeroBytes (63 - (bs.take 63).length)
    let last := leBytes (n + fieldAt (flagNat u.phase) 7 1) 1
    let next := u.producer + 1
    let u' := if next = u.size then { u with producer := 0, phase := !u.phase } else { u with producer := next }
    let r := ringEntries base n u' (bs.drop 63)
    (r.1, .hostWrite (base + u.producer * 64) (piece ++ last) :: r.2)

/-- The message interrupt after a record (R406): sent at once, or due when the moderation interval ends. -/
def State.interrupt (s : State) (noIrq : Bool) : State :=
  if !s.uci.irqEnable || noIrq then s
  else
    let ready := match s.uci.irqAt with
      | none => true
      | some t => decide (s.uci.moderation * 100 ≤ (s.clk.tide - t).toNat)
    if ready then
      let s1 := { s with uci := { s.uci with irqAt := some s.clk.tide, irqDue := false } }
      s1.emit (.interrupt s.uci.irqAddr.toNat s.uci.irqData)
    else { s with uci := { s.uci with irqDue := true } }

/-- Write a record into the ring, which has room for it (R404, R432). -/
def State.putRecord (s : State) (r : Rec) : State :=
  let res := ringEntries (s.uci.ringBase * 4096) r.entries s.uci (r.bytes s.uci.recSeq)
  let u := { res.1 with recSeq := (s.uci.recSeq + 1) % 65536 }
  ({ s with uci := u, out := s.out ++ res.2 }).interrupt r.noIrq

/-- Whether a record may be written now (R405). -/
def State.ringTakes (s : State) (r : Rec) : Bool := s.uci.enable && decide (r.entries ≤ s.uci.room)

/-- A saturating count of 16 bits of discarded records (R503). -/
def State.countDropped (s : State) : State :=
  { s with faults := { s.faults with dropped := satAdd s.faults.dropped 1 0xFFFF } }

/-- A record is produced (R404, R405, R503): written in order, or waiting in the backlog, or, of a FAULT of
severity 0 or 1 that finds the backlog full, discarded. A harbour master that has fallen silent writes
nothing (R506). -/
def State.record (s : State) (r : Rec) : State :=
  if s.hm.silent then s
  else if s.uci.backlog = [] && s.ringTakes r then s.putRecord r
  else
    let s := { s with uci := { s.uci with ringFull := s.uci.ringFull || s.uci.enable } }
    if s.uci.backlog.length < 256 then { s with uci := { s.uci with backlog := s.uci.backlog ++ [r] } }
    else if r.typ = 1 ∧ r.sev ≤ 1 then s.countDropped
    else { s with uci := { s.uci with waiting := s.uci.waiting ++ [r] } }

/-- An event record (R432, R433). -/
def State.event (s : State) (typ : Nat) (part ctx : Option Nat) (body : List Byte) : State :=
  s.record { typ := typ, status := 0, tag := 0, opcode := 0, part := part.getD 0xFF, ctx := ctx.getD 0xFF,
             tide := s.clk.tide, body := body, noIrq := false, sev := 0 }

/-! ### Answers to commands (R403, R432, R433) -/

/-- A command being served: its header and opcode, whether it has been answered ACCEPTED, and its place in
the order of acceptance. -/
structure Call where
  hdr : CmdHdr
  op : Nat
  acc : Bool
  serial : Nat
  deriving DecidableEq, Repr, Inhabited

/-- A record about a command. -/
def State.cmdRecord (s : State) (typ : Nat) (hdr : CmdHdr) (op status : Nat) (results : List Byte) : State :=
  s.record { typ := typ, status := status, tag := hdr.tag, opcode := op, part := hdr.part.toNat, ctx := hdr.ctx.toNat,
             tide := s.clk.tide, body := results, noIrq := bitOf hdr.flags.toNat 0, sev := 0 }

/-- Answer a command finally: by a reply, or by its COMPLETION when it was answered ACCEPTED (R433). -/
def State.answer (s : State) (c : Call) (status : Nat) (results : List Byte) : State :=
  s.cmdRecord (if c.acc then 3 else 0) c.hdr c.op status results

/-- Answer a command ACCEPTED, its work to follow (R403). -/
def State.accept (s : State) (c : Call) (w : Work) : State :=
  let j : Job := ⟨c.hdr, c.op, w, c.serial⟩
  let s := { s with hm := { s.hm with jobs := s.hm.jobs ++ [j] } }
  if c.acc then s else s.cmdRecord 0 c.hdr c.op stAccepted []

/-- The work of a command ends: its COMPLETION (R433). -/
def State.complete (s : State) (j : Job) (status : Nat) (results : List Byte) : State :=
  let s := { s with hm := { s.hm with jobs := s.hm.jobs.filter (fun k => decide (k.serial ≠ j.serial)) } }
  s.cmdRecord 3 j.hdr j.op status results

/-- ACCEPTED and completed in one step: work whose end nothing else marks. -/
def State.acceptDone (s : State) (c : Call) (status : Nat) (results : List Byte) : State :=
  let s := if c.acc then s else s.cmdRecord 0 c.hdr c.op stAccepted []
  s.cmdRecord 3 c.hdr c.op status results

/-- Replace the work of a job. -/
def State.setWork (s : State) (j : Job) (w : Work) : State :=
  { s with hm := { s.hm with jobs := s.hm.jobs.map (fun k => if k.serial = j.serial then { k with work := w } else k) } }

/-- The results of a command whose work is ended early: a copy says how many bytes it wrote (R441), of ciphertext
none, since none was applied. -/
def Work.endResults : Work → List Byte
  | .copyIn c done _ => leBytes (if c.encrypted then 0 else done) 8
  | .copyOut _ => leBytes 0 8
  | _ => []

/-- Complete every job of a list with one status. -/
def State.completeAll (s : State) (js : List Job) (status : Nat) : State :=
  js.foldl (fun s j => s.complete j status (Work.endResults j.work)) s

/-- Commands answered neither finally nor with ACCEPTED (R402, R428). -/
def State.unanswered (s : State) : Nat :=
  s.hm.intake.length + (s.hm.held.filter (fun h => !h.accepted)).length

/-! ### The fault log (R494 to R503) -/

/-- The code of a phase (R449). -/
def Phase.code : Phase → Nat
  | .dark => 0 | .ident => 1 | .loading => 2 | .clocksNet => 3 | .memories => 4 | .links => 5 | .compute => 6
  | .ready => 7 | .halted => 8 | .alarmed => 9

/-- The code of an entry's state (R498). -/
def LogSt.code : LogSt → Nat
  | .unhandled => 0 | .handling => 1 | .suspended => 2 | .done => 3

/-- The entry at an index. -/
def FaultLog.at (l : FaultLog) (i : Nat) : Option LogEntry := SMap.get none l.log i

/-- UNHANDLED entries (R511). -/
def FaultLog.unhandled (l : FaultLog) : Nat :=
  ((List.range 256).filter (fun i => match l.at i with
    | some e => decide (e.st = .unhandled)
    | none => false)).length

/-- Entries held (R511). -/
def FaultLog.held (l : FaultLog) : Nat := ((List.range 256).filter (fun i => (l.at i).isSome)).length

/-- An absent site or unit as the log writes it (R498). -/
def siteOr (n : Option Nat) : Nat := n.getD 0xFFFF

/-- The 64 bytes of an entry (R498). -/
def LogEntry.bytes (e : LogEntry) : List Byte :=
  leBytes (e.note.sev % 8) 1 ++ leBytes e.st.code 1 ++ leBytes e.note.code 2 ++ leBytes e.repeats 4
    ++ leBytes e.firstAt.toNat 8 ++ leBytes e.lastAt.toNat 8 ++ leBytes (e.note.part.getD 0xFF) 1
    ++ leBytes (e.note.ctx.getD 0xFF) 1 ++ leBytes (siteOr e.note.site) 2 ++ leBytes (siteOr e.note.site2) 2
    ++ leBytes e.note.unitKind 1 ++ leBytes e.note.unit 1 ++ leBytes e.note.d0 8 ++ leBytes e.note.d1 8
    ++ leBytes e.serial 8 ++ zeroBytes 8

/-- A note with nothing but a code and a severity. -/
def plainNote (sev code : Nat) : FaultNote :=
  { sev := sev, code := code, part := none, ctx := none, site := none, site2 := none, unitKind := 0, unit := 0xFF,
    d0 := 0, d1 := 0 }

/-- A note that names a unit (R498). -/
def unitNote (sev code kind unit : Nat) : FaultNote := { plainNote sev code with unitKind := kind, unit := unit }

/-- Whether an occurrence merges into an entry (R501). -/
def mergesInto (tide : Word) (f : FaultNote) (e : LogEntry) : Bool :=
  let fresh := decide (e.st = .unhandled) || decide ((tide - e.firstAt).toNat < 100000)
  let n := e.note
  if f.sev = 2 then
    (decide (n.sev = 2) && decide (e.st ≠ .done) && decide (n.part = f.part) && decide (n.ctx = f.ctx)
        && f.part.isSome && f.ctx.isSome)
      || (decide (n.sev = 3) && decide (e.st ≠ .done) && decide (n.part = f.part) && f.part.isSome && f.ctx.isSome)
  else if f.sev ≤ 1 then
    decide (n.sev = f.sev) && fresh && decide (n.code = f.code) && decide (n.part = f.part) && decide (n.ctx = f.ctx)
      && decide (n.site = f.site) && decide (n.unitKind = f.unitKind) && decide (n.unit = f.unit)
  else if f.sev = 3 then
    decide (n.sev = 3) && fresh && decide (n.code = f.code) && decide (n.part = f.part) && decide (n.unit = f.unit)
  else decide (n.sev = 4) && fresh && decide (n.code = f.code)

/-- The entry that an occurrence merges into (R501). -/
def FaultLog.mergeAt (l : FaultLog) (tide : Word) (f : FaultNote) : Option Nat :=
  (List.range 256).find? (fun i => match l.at i with
    | some e => mergesInto tide f e
    | none => false)

/-- The index that a new entry takes: the next one, or the next that is free or DONE (R497). -/
def FaultLog.freeAt (l : FaultLog) : Option Nat :=
  ((List.range 256).map (fun i => (l.next + i) % 256)).find? (fun i => match l.at i with
    | some e => decide (e.st = .done)
    | none => true)

/-- Severity 2 entries of a partition, or of one context of it, become DONE: their contexts end, which is all that they
ask for (R494, R500, R512). -/
def FaultLog.ended (l : FaultLog) (p : Nat) (c : Option Nat) : FaultLog :=
  let mine (e : LogEntry) : Bool := decide (e.note.sev = 2) && decide (e.note.part = some p)
    && (c.isNone || decide (e.note.ctx = c))
  { l with log := l.log.map (fun x => (x.1, x.2.map (fun e => if mine e then { e with st := .done } else e))) }

/-- Put an entry at an index. -/
def FaultLog.put (l : FaultLog) (i : Nat) (e : LogEntry) : FaultLog := { l with log := SMap.set none l.log i (some e) }

/-- A new entry and its FAULT record (R496 to R498, R433). -/
def State.newEntry (s : State) (f : FaultNote) : State :=
  match s.faults.freeAt with
  | none => s.countDropped
  | some i =>
    let e : LogEntry := ⟨f, .unhandled, 0, s.clk.tide, s.clk.tide, s.faults.serial + 1⟩
    let l := { s.faults.put i e with
      next := (i + 1) % 256, serial := s.faults.serial + 1, highest := max s.faults.highest f.sev }
    ({ s with faults := l }).record
      { typ := 1, status := 0, tag := 0, opcode := 0, part := f.part.getD 0xFF, ctx := f.ctx.getD 0xFF,
        tide := s.clk.tide, body := leBytes i 2 ++ zeroBytes 6 ++ e.bytes, noIrq := false, sev := f.sev }

/-- An occurrence is merged: no new entry and no new event (R501). -/
def State.mergeEntry (s : State) (i : Nat) : State :=
  match s.faults.at i with
  | none => s
  | some e =>
    let e' := { e with repeats := satAdd e.repeats 1 0xFFFFFFFF, lastAt := s.clk.tide }
    { s with faults := s.faults.put i e' }

/-- HALT_CAUSE codes (R456). -/
def causeFetch : Nat := 1
def causeVerify : Nat := 2
def causeRollback : Nat := 3
def causeNoUcie : Nat := 4
def causeMeshLock : Nat := 5
def causeRefclk : Nat := 6
def causeNoHbm : Nat := 7
def causeNoTile : Nat := 8
def causeSupply : Nat := 9
def causeIdentity : Nat := 10
def causeService : Nat := 11

/-! ### The end of a launch (R424) -/

/-- A tile of a context: in place, or in its save area (R416). -/
def State.ctxTile (s : State) (n site : Nat) : Tile :=
  match SMap.get none (s.ctx n).saved site with
  | some t => t
  | none => s.tile site

/-- The results of a LAUNCH COMPLETION (R424, R442). -/
def State.launchResults (s : State) (n cause site : Nat) (started : Bool) : List Byte :=
  if started then
    let ts := (s.ctx n).sites.map (s.ctxTile n)
    leBytes (ts.foldl (fun a t => max a t.seq.activeCycles.toNat) 0) 8 ++ leBytes cause 1 ++ zeroBytes 1
      ++ leBytes site 2 ++ leBytes ts.length 2 ++ zeroBytes 2
      ++ ts.flatMap (fun t => leBytes (if t.seq.mode = .halted then t.seq.haltCode.toNat else 0) 2)
  else zeroBytes 8 ++ leBytes cause 1 ++ zeroBytes 1 ++ leBytes site 2 ++ zeroBytes 4

/-- The jobs of one context that wait for its state (R442, R448). -/
def ctxWaits (p c : Nat) (j : Job) : Bool :=
  decide (j.hdr.part.toNat = p) && decide (j.hdr.ctx.toNat = c)
    && (match j.work with | .pause => true | .resume => true | .abort => true | .switchTo => true | _ => false)

/-- Whether a job is the LAUNCH of a context. -/
def isLaunchOf (p c : Nat) (j : Job) : Bool :=
  decide (j.hdr.part.toNat = p) && decide (j.hdr.ctx.toNat = c)
    && (match j.work with | .launch => true | _ => false)

/-- A tile's sequencer stops as its context ends (R173, R424): nothing further issues; what is issued
completes. A SEND not yet accepted is withdrawn. -/
def stopTile (t : Tile) : Tile :=
  let keep (s : Option SendCur) : Option SendCur := match s with
    | some c => (match c.phase with | .injecting p => some { c with phase := .injecting p } | _ => none)
    | none => none
  let q := { t.seq with mode := if t.seq.mode = .running then .idle else t.seq.mode, cur := none, mainCur := none,
                        dispatching := none, pauseReq := false, paused := false }
  { t with seq := q, chan := { t.chan with cur := keep t.chan.cur, parked := none } }

/-- A tile that its context leaves: what it had issued is complete or abandoned. -/
def freeTile (t : Tile) : Tile :=
  let t := stopTile t
  { t with ctx := none, owner := t.ctx, seq := { t.seq with excDue := none }, arr := { t.arr with queue := [] }, vecQ := [], moveQ := [], outst := [],
           stopped := none }

/-! ### Activity (R392) -/

/-- The account of a partition's context, or of none (R392). -/
def account (part ctx : Nat) : Nat := if part < 20 then ctxNo part ctx else 160

/-- The account of a packet: by its PART and CTX. -/
def packetAccount (p : Packet) : Nat := account p.part.toNat p.ctx.toNat

/-- Counted events join an account. -/
def State.countAct (s : State) (n : Nat) (k : Act) (c : Nat) : State :=
  { s with pwr := { s.pwr with counts := SMap.mod 0 s.pwr.counts (16 * n + k.code) (fun x => x + c) } }

/-- The account of what a tile has counted: the context it runs. -/
def State.tileAccount (s : State) (i : Nat) : Nat := match s.partOfSite i, (s.tile i).ctx with
  | some p, some c => account p c.toNat
  | _, _ => 160

/-- What a tile has counted is collected for the context it runs. -/
def State.collectSite (s : State) (i : Nat) : State :=
  let cs := (s.tile i).counts
  if cs = [] then s
  else
    let n := s.tileAccount i
    let m := cs.foldl (fun m c => SMap.mod 0 m (16 * n + c.1) (fun x => x + c.2)) s.pwr.counts
    ({ s with pwr := { s.pwr with counts := m } }).modTile i (fun t => { t with counts := [] })

/-- The COMPLETION of a LAUNCH is written, and after it those of the commands that wait for the context;
the context becomes IDLE, its save area is freed, and what the log holds against it is DONE (R424, R442, R500). -/
def State.finishLaunch (s : State) (n : Nat) (e : Ending) : State :=
  let p := n / 8
  let c := n % 8
  let body := s.launchResults n e.cause e.site e.started
  let launches := s.hm.jobs.filter (isLaunchOf p c)
  let s := launches.foldl (fun s j => s.complete j e.status body) s
  let waits := s.hm.jobs.filter (ctxWaits p c)
  let s := waits.foldl (fun s j => s.complete j (match j.work with | .abort => stOk | _ => e.status) []) s
  let sites := if (s.ctx n).onTiles then (s.ctx n).sites else []
  let s := s.each (fun s i => (s.collectSite i).modTile i freeTile) sites
  let s := s.modCtx n (fun x => { x with
    state := .idle, onTiles := false, userPause := false, heatPause := false, launch := none, ending := none,
    volume := 0, saveArea := [], saved := [] })
  let s := { s with faults := s.faults.ended p (some c) }
  s.modPart p (fun x => { x with running := if x.running = some c then none else x.running })

/-- The device enters HALTED (R494, R456): tile issue stops, every ACCEPTED command completes FAULTED, the
cause and the phase are kept, and a HALTED entry is written. HALTED and ALARMED are left as they are. -/
def State.halt (s : State) (cause : Nat) : State :=
  if s.bring.phase = .halted ∨ s.bring.phase = .alarmed then s
  else
    let ph := s.bring.phase.code
    let wait := if s.bring.phase = .loading then some s.clk.tide else none
    let b := { s.bring with phase := .halted, haltCause := cause, haltPhase := ph, fetch := none, waitFrom := wait }
    let s := { s with bring := b, clk := { s.clk with stress := false } }
    let s := s.newEntry { plainNote 4 0x0A01 with d0 := cause + fieldAt ph 8 4 }
    let s := s.each (fun s n => if (s.ctx n).launched then
      s.finishLaunch n ⟨stFaulted, 0, 0xFFFF, decide ((s.ctx n).state ≠ .loading)⟩ else s) allCtxs
    let s := s.completeAll s.hm.jobs stFaulted
    let late := s.hm.held.filter (fun h => h.accepted)
    let s := { s with hm := { s.hm with reading := [], held := s.hm.held.filter (fun h => !h.accepted) } }
    late.foldl (fun s h => s.cmdRecord 3 h.hdr h.op stFaulted []) s

/-- The cause of a severity 4 fault (R494). -/
def fatalCause (code : Nat) : Nat :=
  if code = 0x0703 then causeRefclk else if code = 0x0805 then causeSupply else causeService

/-- A fault occurs (R496 to R503): merged, or a new entry; a storm in READY; a device-fatal fault halts. -/
def State.logFault (s : State) (f : FaultNote) : State :=
  if s.hm.silent then s
  else match s.faults.mergeAt s.clk.tide f with
  | some i => s.mergeEntry i
  | none =>
    let n := s.faults.unhandled
    if 64 ≤ n ∧ s.bring.phase = .ready then
      let s := s.newEntry f
      let s := s.newEntry { plainNote 4 0x0A02 with d0 := s.faults.unhandled }
      let s := { s with faults := { s.faults with storm := true } }
      s.halt (if f.sev = 4 then fatalCause f.code else causeService)
    else if 64 ≤ n ∧ f.sev ≤ 3 then s.countDropped
    else
      let s := s.newEntry f
      if f.sev = 4 then s.halt (fatalCause f.code) else s

/-- Several faults in order. -/
def State.logAll (s : State) (fs : List FaultNote) : State := fs.foldl State.logFault s

end Sys2Proof.Machine
end

