-- ==== Sys2Proof/Machine/HbmOps.lean ====
section
/-! DEFINITION. The HBM controllers: mapping, SEC-DED, the check shelf and encryption (R322 to R341). -/

namespace Sys2Proof.Machine

/-- Size of a band (R325). -/
def bandSize : Nat := 33554432
/-- Bands of a stack (R325). -/
def bandCount : Nat := 3069
/-- Size of a window of a local grant (R328). -/
def windowSize : Nat := 0x1800000000
/-- Where a stack's bytes lie in the model's HBM file. -/
def stackSpace : Nat := 0x2000000000

/-! ### Grants and mapping (R326, R328, R329) -/

/-- The run of bands that a grant holds on a stack: first band and count. -/
def Grant.on (g : Grant) (k : Nat) : Nat × Nat :=
  if g.isLocal then g.runs.getD k (0, 0) else if g.hbmStacks.contains k then (g.first, g.count) else (0, 0)

/-- Whether a grant has bands on a stack. -/
def Grant.touches (g : Grant) (k : Nat) : Bool := decide (0 < (g.on k).2)

/-- Whether a grant holds a band of a stack. -/
def Grant.holds (g : Grant) (k b : Nat) : Bool := decide ((g.on k).1 ≤ b) && decide (b < (g.on k).1 + (g.on k).2)

/-- The stack and the stack offset of a device address without the grant limits: its home (R328). -/
def Grant.home (g : Grant) (a : Nat) : Nat × Nat :=
  if g.isLocal then (min (a / windowSize) 23, (g.on (a / windowSize)).1 * bandSize + a % windowSize)
  else
    let n := max g.hbmStacks.length 1
    let k := a / 4096
    (g.hbmStacks.getD (k % n) 0, g.first * bandSize + k / n * 4096 + a % 4096)

/-- Whether a device address is mapped in a partition (R327, R328, R347). -/
def Partn.maps (p : Partn) (a : Nat) : Bool :=
  p.valid && !p.zeroing &&
    (if p.grant.isLocal then decide (a < 24 * windowSize) && decide (a % windowSize < (p.grant.on (a / windowSize)).2 * bandSize)
     else decide (a < p.grant.hbmStacks.length * p.grant.count * bandSize))

/-- Whether a range of device addresses is mapped: its every 4 KiB block. -/
def Partn.mapsRange (p : Partn) (a len : Nat) : Bool :=
  decide (0 < len) && p.maps a && p.maps (a + len - 1) &&
    (if p.grant.isLocal then decide (a / windowSize = (a + len - 1) / windowSize) else true)

/-- How many of `len` bytes from a device address on are mapped before the first that is not (R328). -/
def Partn.mappedLen (p : Partn) (a len : Nat) : Nat :=
  if !p.maps a then 0
  else if p.grant.isLocal then min len ((p.grant.on (a / windowSize)).2 * bandSize - a % windowSize)
  else min len (p.grant.hbmStacks.length * p.grant.count * bandSize - a)

/-- The two routers of a stack, lower site first (R21, R323). -/
def stackRouters (k : Nat) : Nat × Nat :=
  if k < 10 then (16 * (3 * k), 16 * (3 * k + 1))
  else if k < 20 then (16 * (3 * (k - 10)) + 15, 16 * (3 * (k - 10) + 1) + 15)
  else if k = 20 then (0, 1) else if k = 21 then (14, 15) else if k = 22 then (464, 465) else (478, 479)

/-- The attachment port of a stack at a router (R23): B where the corner's other stack holds A. -/
def stackPort (k site : Nat) : Nat := if (k = 20 ∧ site = 0) ∨ (k = 21 ∧ site = 15) then 6 else 5

/-- The edge router and port of an offset of a stack (R22, R329). -/
def stackEdge (k off : Nat) : Nat × Nat :=
  let r := stackRouters k
  let site := if off / 4096 % 2 = 0 then r.1 else r.2
  (site, stackPort k site)

/-- The edge router and port to which a packet of a partition for a device address goes (R190, R328). -/
def Partn.edge (p : Partn) (a : Nat) : Nat × Nat :=
  let h := p.grant.home a
  stackEdge h.1 h.2

/-- A stack's edge group (R385): west, east, north, south. -/
def edgeGroup (k : Nat) : Nat := if k < 10 then 0 else if k < 20 then 1 else if k < 22 then 2 else 3

/-! ### Stored transfers -/

/-- An access to bytes of one block of one stack for a partition: where it lies, its device address, and
the key under which it is read or written. -/
structure HAcc where
  stack : Nat
  off : Nat
  addr : Nat
  key : Option (List Byte)
  deriving DecidableEq, Repr, Inhabited

/-- The access to a mapped device address of a partition (R328, R339). -/
def Partn.acc (p : Partn) (a : Nat) : HAcc :=
  let h := p.grant.home a
  { stack := h.1, off := h.2, addr := a, key := if p.confidential then p.hbmKey else .none }

/-- The key and tweak of the transfer that holds offset `o` (R339). -/
def HAcc.tag (x : HAcc) (o : Nat) : Option KeyTag :=
  x.key.map (fun k => ⟨k, (x.addr + o - x.off) / 32⟩)

/-- The number of the transfer that holds offset `o` of a stack. -/
def transferNo (k o : Nat) : Nat := (k * stackSpace + o) / 32

/-- The key and tweak of a tag. -/
def tagPair (t : Option KeyTag) : Option (List Byte × Nat) := t.map (fun t => (t.key, t.tweak))

/-- Cut or fill a byte string to 32 bytes. -/
def to32 (bs : List Byte) : List Byte := (bs ++ zeroBytes 32).take 32

/-- The 32 bytes of a transfer as an access reads them (R339, R340). -/
def Hbm.transfer (h : Hbm) (x : HAcc) (o : Nat) : List Byte :=
  let n := transferNo x.stack o
  let plain := Memory.readBytes h.mem (n * 32) 32
  let stored := SMap.get none h.keyed n
  if stored = x.tag o then plain else to32 (Config.xtsOther (tagPair stored) (tagPair (x.tag o)) plain)

/-- The 32 bytes of a transfer as it is stored (R339, R341). -/
def Hbm.stored (h : Hbm) (k o : Nat) : List Byte :=
  let n := transferNo k o
  let plain := Memory.readBytes h.mem (n * 32) 32
  match SMap.get none h.keyed n with
  | none => plain
  | some t => to32 (Config.xtsCipher t.key t.tweak plain)

/-- The offsets of the transfers that a range touches, ascending. -/
def transferOffs (o len : Nat) : List Nat :=
  if len = 0 then [] else (List.range ((o + len - 1) / 32 + 1 - o / 32)).map (fun i => (o / 32 + i) * 32)

/-- The error of a stored transfer. -/
def Hbm.err (h : Hbm) (k o : Nat) : Option CellErr := SMap.get none h.errs (transferNo k o)

/-- The first uncorrectable transfer of some offsets (R334). -/
def Hbm.firstBad (h : Hbm) (k : Nat) (os : List Nat) : Option Nat :=
  os.find? (fun o => decide (h.err k o = some .double))

/-- Bytes of a block from the transfers at some offsets. -/
def Hbm.plain (h : Hbm) (x : HAcc) (os : List Nat) : List Byte := os.flatMap (h.transfer x)

/-- The access to the whole block of an access. -/
def HAcc.block (x : HAcc) : HAcc := { x with off := x.off / 4096 * 4096, addr := x.addr - x.off % 4096 }

/-- The number of the block of an offset. -/
def blockNo (k o : Nat) : Nat := (k * stackSpace + o) / 4096

/-- CRC-32C of a block of zeros (R327). -/
def zeroBlockCrc : BitVec 32 := 0x98F94189

/-- The shelf entry of a block (R335). -/
def Hbm.shelfOf (h : Hbm) (k o : Nat) : BitVec 32 := SMap.get zeroBlockCrc h.shelf (blockNo k o)

/-- The key and tweak of the shelf transfer that covers an access's block (R335, R339). -/
def HAcc.shelfTag (x : HAcc) : Option KeyTag := x.key.map (fun k => ⟨k, 2 ^ 127 + x.stack * 2 ^ 32 + x.off / 32768⟩)

/-- The 8 entries of a shelf transfer, as plaintext of what is stored. -/
def Hbm.shelfPlain (h : Hbm) (n : Nat) : List Byte :=
  (List.range 8).flatMap (fun i => leBytes (SMap.get zeroBlockCrc h.shelf (8 * n + i)).toNat 4)

/-- The 8 entries of the shelf transfer of an access's block as the access reads them: under another key than the one they
were stored under, unrelated bytes (R339, R340). -/
def Hbm.shelfRead (h : Hbm) (x : HAcc) : List Byte :=
  let n := blockNo x.stack x.off / 8
  let stored := SMap.get none h.shelfKeyed n
  if stored = x.shelfTag then h.shelfPlain n else to32 (Config.xtsOther (tagPair stored) (tagPair x.shelfTag) (h.shelfPlain n))

/-- The shelf entry of an access's block as the access reads it (R335, R339). -/
def Hbm.shelfFor (h : Hbm) (x : HAcc) : BitVec 32 :=
  let b := blockNo x.stack x.off
  if SMap.get none h.shelfKeyed (b / 8) = x.shelfTag then SMap.get zeroBlockCrc h.shelf b
  else BitVec.ofNat 32 (leNat (((h.shelfRead x).drop (4 * (b % 8))).take 4))

/-- Write the shelf entry of an access's block; its shelf transfer is stored under the access's key (R335, R339). -/
def Hbm.setShelf (h : Hbm) (x : HAcc) (v : BitVec 32) : Hbm :=
  let b := blockNo x.stack x.off
  let n := b / 8
  if SMap.get none h.shelfKeyed n = x.shelfTag then { h with shelf := SMap.set zeroBlockCrc h.shelf b v }
  else
    let bs := h.shelfRead x
    let all := (List.range 8).foldl (fun m i =>
      SMap.set zeroBlockCrc m (8 * n + i) (BitVec.ofNat 32 (leNat ((bs.drop (4 * i)).take 4)))) h.shelf
    { h with shelf := SMap.set zeroBlockCrc all b v, shelfKeyed := SMap.set none h.shelfKeyed n x.shelfTag }

/-- Store transfers: plaintext, tag and good check bits (R334, R339). -/
def Hbm.store (h : Hbm) (x : HAcc) (os : List Nat) (bs : List Byte) : Hbm :=
  let base := (os.headD 0)
  let ns := os.map (transferNo x.stack)
  let keyed := (os.zip ns).foldl (fun m p => SMap.set none m p.2 (x.tag p.1)) h.keyed
  { h with mem := Memory.writeBytes h.mem (transferNo x.stack base * 32) bs, keyed := keyed,
           errs := ns.foldl (fun m n => SMap.drop n m) h.errs }

/-! ### Stacks that leave service (R338) -/

/-- The grant that a partition has: none while its bands are zeroed (R347). -/
def Partn.held (p : Partn) : Grant := if p.zeroing then Grant.none else p.grant

/-- The partitions with bands on a stack. -/
def State.partsOn (s : State) (k : Nat) : List Nat :=
  allParts.filter (fun p => (s.part p).valid && (s.part p).held.touches k)

/-- A stack leaves service in operation (R338, R419): partitions with bands on it fault, and so do contexts
whose save area holds state on it. -/
def State.failStack (s : State) (k : Nat) : State :=
  if (s.stack k).state ≠ .inService then s
  else
    let s := s.modStack k (fun x => { x with state := .failed })
    let s := s.each (fun s p => s.logFault { unitNote 3 0x0604 2 k with part := some p }) (s.partsOn k)
    let lost := allCtxs.filter (fun n => decide ((s.ctx n).saved ≠ []) && (s.ctx n).saveArea.any (fun b => decide (b.1 = k)))
    s.each (fun s n => s.logFault { unitNote 2 0x0605 2 k with part := some (n / 8), ctx := some (n % 8) }) lost

/-- The partition to which the band of a stack offset is granted (R325, R326). -/
def State.bandOwner (s : State) (k o : Nat) : Option Nat :=
  allParts.find? (fun p => (s.part p).valid && (s.part p).held.holds k (o / bandSize))

/-- Uncorrectable transfers are met (R334, R337, R338): counted and logged, with the partition whose band holds them as
the one concerned (R498); the 64th within a tide mark takes the stack out of service. -/
def State.meetBad (s : State) (k o : Nat) : State :=
  let s := s.modStack k (fun x => { x with
    uncorrected := satAdd x.uncorrected 1 0xFF, markUncorrected := x.markUncorrected + 1 })
  let s := s.logFault { unitNote 1 0x0601 2 k with part := s.bandOwner k o, d0 := o }
  if 64 ≤ (s.stack k).markUncorrected then s.failStack k else s

/-- Single-bit errors of some transfers are corrected and written back (R334). -/
def State.correct (s : State) (k : Nat) (os : List Nat) : State :=
  let hit := os.filter (fun o => decide (s.hbm.err k o = some .single))
  if hit = [] then s
  else
    let s := { s with hbm := { s.hbm with errs := hit.foldl (fun m o => SMap.drop (transferNo k o) m) s.hbm.errs } }
    s.modStack k (fun x => { x with corrected := satAdd x.corrected hit.length 0xFFFF })

/-! ### Reads and writes -/

/-- Whether a job is a stress test. -/
def isStress (j : Job) : Bool := match j.work with
  | .stress _ => true
  | _ => false

/-- The stress test that runs. -/
def State.stressTest (s : State) : Option (Job × Stress) :=
  s.hm.jobs.findSome? (fun j => match j.work with | .stress x => some (j, x) | _ => none)

/-- Whether a stress test runs. -/
def State.stressing (s : State) : Bool := s.hm.jobs.any isStress

/-- Parity mode (R299): from CLOCKS_NET to COMPUTE, and while a stress test runs. -/
def State.parityMode (s : State) : Bool :=
  (match s.bring.phase with
   | .clocksNet => true | .memories => true | .links => true | .compute => true
   | _ => false) || s.stressing

/-- What a read found: the bytes, none after an uncorrectable transfer. -/
structure HRead where
  st : State
  bytes : Option (List Byte)

/-- Read bytes of one block (R333, R334). -/
def State.hbmRead (s : State) (x : HAcc) (len : Nat) : HRead :=
  let os := transferOffs x.off len
  let s := s.correct x.stack os
  match s.hbm.firstBad x.stack os with
  | some o => ⟨s.meetBad x.stack o, none⟩
  | none => ⟨s, some (((s.hbm.plain x os).drop (x.off % 32)).take len)⟩

/-- The comparison of a whole-block read with the shelf (R335): a mismatch is counted and logged. -/
def State.checkShelf (s : State) (x : HAcc) (bs : List Byte) : State :=
  if s.parityMode ∨ bs.length ≠ 4096 ∨ s.hbm.shelfFor x = BitVec.ofNat 32 (crc32c bs) then s
  else
    let s := s.modStack x.stack (fun y => { y with shelfMismatch := satAdd y.shelfMismatch 1 0xFF })
    s.logFault { unitNote 1 0x0602 2 x.stack with part := s.bandOwner x.stack x.off, d0 := x.off / 4096 }

/-- What a write did: whether it was performed. -/
structure HWrite where
  st : State
  ok : Bool

/-- The shelf entry that a write leaves (R334, R335): of a whole block the CRC of its bytes, of a part of it
the update by the difference; formed afresh where an uncorrectable transfer was replaced, and left where
another one remains. -/
def shelfAfter (before after : Hbm) (x : HAcc) (len : Nat) (replaced : Bool) : BitVec 32 :=
  let b := x.block
  let os := transferOffs b.off 4096
  let new := crc32c (after.plain b os)
  if replaced then
    if (after.firstBad x.stack os).isSome then before.shelfFor x else BitVec.ofNat 32 new
  else if x.off % 4096 = 0 ∧ len = 4096 then BitVec.ofNat 32 new
  else before.shelfFor x ^^^ BitVec.ofNat 32 (crc32c (before.plain b os) ^^^ new)

/-- Write bytes of one block (R334, R335, R339). A write of part of a block first reads what it replaces; whole
transfers make uncorrectable ones good, and the entry is then formed from a read of the whole block; a write of
part of an uncorrectable transfer is refused. -/
def State.hbmWrite (s : State) (x : HAcc) (bs : List Byte) : HWrite :=
  let os := transferOffs x.off bs.length
  let whole (o : Nat) : Bool := decide (x.off ≤ o) && decide (o + 32 ≤ x.off + bs.length)
  let s := if bs.length = 4096 then s else s.correct x.stack os
  match s.hbm.firstBad x.stack (os.filter (fun o => !whole o)) with
  | some o => ⟨s.meetBad x.stack o, false⟩
  | none =>
    let old := s.hbm.plain x os
    let lead := x.off % 32
    let new := old.take lead ++ bs ++ old.drop (lead + bs.length)
    let h := s.hbm.store x os new
    let replaced := (s.hbm.firstBad x.stack os).isSome
    let t := { s with hbm := h.setShelf x (shelfAfter s.hbm h x bs.length replaced) }
    ⟨if replaced then t.correct x.stack (transferOffs x.block.off 4096) else t, true⟩

/-- Why an access of a partition to memory is refused before any transfer is touched. -/
inductive HRefusal where
  | unmapped
  | outOfService
  deriving DecidableEq, Repr

/-- The refusal of an access to the block of a device address, none when it may proceed (R333). -/
def State.hbmRefuses (s : State) (p : Partn) (a : Nat) : Option HRefusal :=
  if !p.maps a then some .unmapped
  else if (s.stack (p.grant.home a).1).state ≠ .inService then some .outOfService
  else none

/-- Cut a range at 4 KiB boundaries: addresses and lengths; `n` bounds the pieces. -/
def blockPieces : Nat → Nat → Nat → List (Nat × Nat)
  | 0, _, _ => []
  | n + 1, a, len =>
    if len = 0 then []
    else
      let k := min len (4096 - a % 4096)
      (a, k) :: blockPieces n (a + k) (len - k)

/-- Cut a range at 4 KiB boundaries. -/
def blocksOf (a len : Nat) : List (Nat × Nat) := blockPieces (len / 4096 + 2) a len

/-- Read a range of a partition's memory, block by block; the bytes read before a refusal are kept. -/
def State.readRange (s : State) (p : Partn) : List (Nat × Nat) → HRead
  | [] => ⟨s, some []⟩
  | (a, n) :: r =>
    match s.hbmRefuses p a with
    | some _ => ⟨s, none⟩
    | none =>
      let res := s.hbmRead (p.acc a) n
      match res.bytes with
      | none => ⟨res.st, none⟩
      | some bs =>
        let rest := (res.st.checkShelf (p.acc a) bs).readRange p r
        ⟨rest.st, rest.bytes.map (fun x => bs ++ x)⟩

/-- What a write of a range did: the bytes applied and whether all were. -/
structure RangeWrite where
  st : State
  applied : Nat
  ok : Bool

/-- Write a range of a partition's memory block by block, stopping at the first refusal. -/
def State.writeRange (s : State) (p : Partn) : List (Nat × Nat) → List Byte → RangeWrite
  | [], _ => ⟨s, 0, true⟩
  | (a, n) :: r, bs =>
    match s.hbmRefuses p a with
    | some _ => ⟨s, 0, false⟩
    | none =>
      let res := s.hbmWrite (p.acc a) (bs.take n)
      if res.ok then
        let rest := res.st.writeRange p r (bs.drop n)
        ⟨rest.st, n + rest.applied, rest.ok⟩
      else ⟨res.st, 0, false⟩

/-- Zero the bands of a run on a stack (R327). -/
def Hbm.zeroRun (h : Hbm) (k first count : Nat) : Hbm :=
  let lo := k * stackSpace + first * bandSize
  let hi := lo + count * bandSize
  let out (a : Nat) (size : Nat) : Bool := decide (a < lo / size) || decide (hi / size ≤ a)
  { h with mem := Memory.zero h.mem lo hi, keyed := SMap.keep (fun t => out t 32) h.keyed,
           errs := SMap.keep (fun t => out t 32) h.errs, shelf := SMap.keep (fun b => out b 4096) h.shelf,
           shelfKeyed := SMap.keep (fun n => out n 32768) h.shelfKeyed }

/-- Zero every band of a grant on stacks in service (R327). -/
def State.zeroGrant (s : State) (g : Grant) : State :=
  let h := s.stacksInService.foldl (fun h k => h.zeroRun k (g.on k).1 (g.on k).2) s.hbm
  { s with hbm := h }

/-- Whether a band of a stack is granted to a partition other than `p` or lies in a save area (R326). -/
def State.bandTaken (s : State) (except k b : Nat) : Bool :=
  allParts.any (fun p => decide (p ≠ except) && (s.part p).valid && (s.part p).grant.holds k b)
    || allCtxs.any (fun n => (s.ctx n).saveArea.contains (k, b))

/-- Bands of a stack granted to no partition (FREE_BANDS of R346). -/
def State.freeBands (s : State) (k : Nat) : Nat :=
  bandCount - ((allParts.filter (fun p => (s.part p).valid)).map (fun p => ((s.part p).held.on k).2)).sum

/-- A host write into the device's grant or a COPY_IN takes whole or part rows of HBM or a tile; this is the
memory's part of it. -/
def State.writeMapped (s : State) (p : Partn) (a : Nat) (bs : List Byte) : RangeWrite :=
  s.writeRange p (blocksOf a bs.length) bs

/-- Read a mapped range. -/
def State.readMapped (s : State) (p : Partn) (a len : Nat) : HRead := s.readRange p (blocksOf a len)

end Sys2Proof.Machine
end

