-- ==== Sys2Proof/Machine/NetOps.lean ====
section
/-! DEFINITION. The on-die network: attachments, routes, packets in flight, and what one tile's step causes
in the device (chapter 06). -/

namespace Sys2Proof.Machine

/-! ### Ports and attachments (R21 to R23, R179) -/

/-- Port codes of R179. -/
def portN : Nat := 0
def portS : Nat := 1
def portE : Nat := 2
def portW : Nat := 3
def portT : Nat := 4
def portA : Nat := 5
def portB : Nat := 6

/-- What is attached at a port of a router. -/
inductive Attach where
  | nothing
  | hbm (k : Nat)
  | link (l rank : Nat)
  | ucie (m : Nat)
  deriving DecidableEq, Repr

/-- The two routers of a link die, lower site first (R21). -/
def linkRouters (l : Nat) : Nat × Nat :=
  match l with
  | 0 => (3, 4) | 1 => (6, 7) | 2 => (8, 9) | 3 => (11, 12)
  | 4 => (466, 467) | 5 => (468, 469) | 6 => (474, 475) | _ => (476, 477)

/-- The router of a UCIe module (R21, R398). -/
def ucieRouter (m : Nat) : Nat := 470 + m

/-- The router of a link die by rank (R190, R267). -/
def linkRouter (l rank : Nat) : Nat := if rank = 0 then (linkRouters l).1 else (linkRouters l).2

/-- What is attached at a router's port (R21, R23). -/
def attachAt (site port : Nat) : Attach :=
  match (List.range 24).find? (fun k =>
      (decide ((stackRouters k).1 = site) || decide ((stackRouters k).2 = site)) && decide (stackPort k site = port)) with
  | some k => .hbm k
  | none =>
    if port ≠ 5 then .nothing
    else match (List.range 8).find? (fun l => decide ((linkRouters l).1 = site) || decide ((linkRouters l).2 = site)) with
    | some l => .link l (if (linkRouters l).1 = site then 0 else 1)
    | none => if 470 ≤ site ∧ site ≤ 473 then .ucie (site - 470) else .nothing

/-- Link dies that a variant fits (R2, R262). -/
def linkFitted (f : ModuleFacts) (l : Nat) : Bool := decide (l < f.linkDies)

/-- Whether a router is bypassed (R182). -/
def State.bypassed (s : State) (n : Nat) : Bool := (s.router n).bypassed

/-- Whether the variant fits what is attached (R24). -/
def State.attachFitted (s : State) (a : Attach) : Bool :=
  match a with
  | .nothing => false
  | .hbm k => stackFitted s.facts k
  | .link l _ => linkFitted s.facts l
  | .ucie _ => true

/-- The router sites of an attachment. -/
def Attach.sites : Attach → List Nat
  | .nothing => []
  | .hbm k => [(stackRouters k).1, (stackRouters k).2]
  | .link l _ => [(linkRouters l).1, (linkRouters l).2]
  | .ucie m => [ucieRouter m]

/-- Whether an attachment is fitted and in service (R24, R183, R197): no router of it is bypassed. -/
def State.attachServes (s : State) (a : Attach) : Bool :=
  s.attachFitted a && a.sites.all (fun n => !s.bypassed n) &&
    (match a with
     | .hbm k => decide ((s.stack k).state = .inService)
     | .ucie m => decide ((s.uciModule m).state ≠ .outOfService)
     | _ => true)

/-! ### Routes (R190, R191) -/

/-- The site of a column and a row. -/
def siteAt (x y : Nat) : Nat := 16 * y + x

/-- Whether a pair of sites is routable (R191): a straight route, or one of the two turning sites stands. -/
def State.routable (s : State) (a b : Nat) : Bool :=
  decide (siteX a = siteX b) || decide (siteY a = siteY b)
    || !s.bypassed (siteAt (siteX b) (siteY a)) || !s.bypassed (siteAt (siteX a) (siteY b))

/-- The neighbour of a site through a port; none at the mesh's edge. -/
def neighbour (n port : Nat) : Option Nat :=
  if port = 0 then (if siteY n = 0 then none else some (n - 16))
  else if port = 1 then (if siteY n = 29 then none else some (n + 16))
  else if port = 2 then (if siteX n = 15 then none else some (n + 1))
  else if port = 3 then (if siteX n = 0 then none else some (n - 1))
  else none

/-- The port on which a hop arrives. -/
def opposite (port : Nat) : Nat :=
  if port = 0 then 1 else if port = 1 then 0 else if port = 2 then 3 else 2

/-- The first router that stands in a direction (R182); `n` bounds the sites passed. -/
def State.nextRouter (s : State) (port : Nat) : Nat → Nat → Option Nat
  | 0, _ => none
  | n + 1, site => match neighbour site port with
    | none => none
    | some m => if s.bypassed m then s.nextRouter port n m else some m

/-- The direction along X, and along Y. -/
def dirAlongX (a b : Nat) : Nat := if siteX a < siteX b then 2 else 3
def dirAlongY (a b : Nat) : Nat := if siteY a < siteY b then 1 else 0

/-- The free-class virtual channel of a packet that enters the mesh (R191): 1 where the turning site of the X-then-Y
route is bypassed. -/
def State.turnVc (s : State) (a b : Nat) : Nat :=
  if siteX a = siteX b ∨ siteY a = siteY b then 0
  else if s.bypassed (siteAt (siteX b) (siteY a)) then 1 else 0

/-- The output port of a packet at a router on its way (R190, R191): along X first on virtual channel 0, along Y first on
virtual channel 1. -/
def hopPort (vc site dst : Nat) : Nat :=
  if siteX site = siteX dst then dirAlongY site dst
  else if siteY site = siteY dst then dirAlongX site dst
  else if vc = 1 then dirAlongY site dst
  else dirAlongX site dst

/-! ### The fabric direction (R265, R266) -/

/-- Coordinate d (0 X, 1 Y, 2 Z) of a fabric address (R186). -/
def coordOf (a : BitVec 15) (d : Nat) : Nat := bitsOf a.toNat (10 - 5 * d) 5

/-- The direction table of a dimension (R290). -/
def Fab.dir (f : Fab) (d : Nat) : Word := if d = 0 then f.dirX else if d = 1 then f.dirY else f.dirZ

/-- The entry of a dimension's direction table (R265): 0 local, 1 plus, 2 minus, 3 unreachable. -/
def Fab.entry (f : Fab) (d v : Nat) : Nat := bitsOf (f.dir d).toNat (2 * v) 2

/-- What R266 decides for a packet with FAB set. -/
inductive FabRoute where
  | here
  | unreachable
  | out (l : Nat)
  deriving DecidableEq, Repr

/-- Steps 1 to 3 of R266. -/
def Fab.route (f : Fab) (dst : BitVec 15) : FabRoute :=
  if dst = f.self then .here
  else match [0, 1, 2].find? (fun d => decide (coordOf dst d ≠ coordOf f.self d)) with
  | none => .here
  | some d => match f.entry d (coordOf dst d) with
    | 1 => .out (2 * d)
    | 2 => .out (2 * d + 1)
    | _ => .unreachable

/-! ### Where a packet goes on the die (R190) -/

/-- A destination on the die. -/
inductive Target where
  | at (site port : Nat)
  | link (l rank : Nat)
  | unreachable
  deriving DecidableEq, Repr

/-- Whether a packet names HBM by its address; a HOST packet does where it is a transaction and not an answer
(R401). -/
def namesHbm (p : Packet) : Bool :=
  decide (p.dport ≠ 4) && decide (p.addr.toNat < hbmEnd)
    && (decide (p.typ = tyWrite) || decide (p.typ = tyAdd32) || decide (p.typ = tyAdd16) || decide (p.typ = tyRead)
        || (decide (p.typ = tyHost) && decide (bitsOf p.aux.toNat 28 4 ≤ 1)))

/-- The destination of a packet on this device (R190, R266). A source at a server port has the model's own
site numbers 480 and 481 (log entry 31). -/
def State.target (s : State) (p : Packet) : Target :=
  let here : Target :=
    if namesHbm p then .at ((s.part p.part.toNat).edge p.addr.toNat).1 ((s.part p.part.toNat).edge p.addr.toNat).2
    else if p.dsite.toNat = 480 ∨ p.dsite.toNat = 481 then .link (6 + (p.dsite.toNat - 480)) (p.seq.toNat % 2)
    else .at p.dsite.toNat p.dport.toNat
  if p.fab then
    match s.fab.route p.fdest with
    | .here => here
    | .unreachable => .unreachable
    | .out l => .link l (p.seq.toNat % 2)
  else here

/-! ### Packets in flight -/

/-- The site at which a packet leaves the mesh; none where the direction tables call its device unreachable. -/
def State.exitOf (s : State) (p : Packet) : Option Nat :=
  match s.target p with
  | .at d _ => some d
  | .link l r => some (linkRouter l r)
  | .unreachable => none

/-- A packet lies at a router, in the buffer of an input port on a virtual channel. -/
def State.addFlight (s : State) (p : Packet) (w : Spot) (vc via : Nat) : State :=
  { s with net := { s.net with inFlight := s.net.inFlight ++ [⟨p, w, vc, via⟩] } }

/-- A packet enters the mesh at a port of a router (R190, R191). -/
def State.enter (s : State) (site port : Nat) (p : Packet) : State :=
  s.addFlight p (.router site port) (match s.exitOf p with | some d => s.turnVc site d | none => 0) port

/-- Remove the first element that passes a test. -/
def dropFirst {α : Type} (q : α → Bool) : List α → List α
  | [] => []
  | x :: xs => if q x then xs else x :: dropFirst q xs

/-- A packet leaves the spot it waits at. -/
def State.takeFlight (s : State) (p : Packet) (w : Spot) : State :=
  { s with net := { s.net with inFlight := dropFirst (fun f => decide (f.pkt = p) && decide (f.place = w)) s.net.inFlight } }

/-- A packet with the route generation that is current when it is injected (R186, R210). -/
def State.stamp (s : State) (p : Packet) : Packet := sealPacket { p with rgen := s.fab.rgen }

/-- UNROUTABLE of R192, R499: a severity 1 fault that names both sites. -/
def unroutableAt (site d : Nat) (p : Packet) : FaultNote :=
  { plainNote 1 0x0202 with
    part := if p.part.toNat < 20 then some p.part.toNat else none, site := some site, site2 := some d }

/-- A packet is injected at a router's port (R190, R210); to an unroutable destination it is not injected, and the fault
is logged (R192). -/
def State.inject (s : State) (site port : Nat) (p : Packet) : State :=
  let q := s.stamp p
  match s.exitOf q with
  | some d => if s.routable site d then s.enter site port q else s.logFault (unroutableAt site d q)
  | none => s.enter site port q

/-! ### Buffers of routers (R200, R201, R204) -/

/-- Whether a packet type is always of the control class (R187). -/
def controlType (ty : BitVec 8) : Bool := [tyStop, tyResume, tyPilot, tyBeacon].contains ty

/-- Whether a packet is of the control class: a control packet, or a message on a control-class channel (R187, R216). -/
def controlClass (p : Packet) : Bool := controlType p.typ || p.ctrl

/-- The router at which a flight lies. -/
def Spot.site : Spot → Nat
  | .router n _ => n
  | .dest n _ => n

/-- Whether a flight lies in a router's free-class buffers: a packet of a circuit that its tile port holds does not. -/
def Flight.freeAt (f : Flight) (site : Nat) : Bool :=
  decide (f.place.site = site) && !controlClass f.pkt && !f.pkt.circ

/-- Whether a flight lies in a router's control queues. -/
def Flight.controlAt (f : Flight) (site : Nat) : Bool := decide (f.place.site = site) && controlClass f.pkt

/-- Free flits in one virtual channel of a router's input (R201). -/
def State.freeFlits (s : State) (site port vc : Nat) : Nat :=
  ((s.net.inFlight.filter (fun f => f.freeAt site && decide (f.via = port) && decide (f.vc = vc))).map
    (fun f => flitCount f.pkt)).sum

/-- The output of a packet at a router: a port of R179; 7 where its device is unreachable. -/
def State.outputAt (s : State) (site vc : Nat) (p : Packet) : Nat :=
  match s.target p with
  | .at d port => if d = site then port else hopPort vc site d
  | .link l r => if linkRouter l r = site then 5 else hopPort vc site (linkRouter l r)
  | .unreachable => 7

/-- Control flits queued at one output of a router (R200). -/
def State.controlQueued (s : State) (site port : Nat) : Nat :=
  (s.net.inFlight.filter (fun f => f.controlAt site && decide (s.outputAt site f.vc f.pkt = port))).length

/-- Whether a router has room for a packet that arrives at an input (R200, R201): for a free one in the input's virtual
channel of 34 flits, for a control one in the queue of 4 at its output. -/
def State.hasRoom (s : State) (site port vc : Nat) (p : Packet) : Bool :=
  if controlClass p then decide (s.controlQueued site (s.outputAt site vc p) < 4)
  else decide (s.freeFlits site port vc + flitCount p ≤ 34)

/-! ### Circuit entries (R203 to R206) -/

/-- Flits in the buffer of a circuit entry. -/
def Router.entryFlits (r : Router) (n : Nat) : Nat := (SMap.get [] r.buffers n).length

/-- Flits that wait at an entry's input port enter it, as far as its buffer of 2 has room (R204). -/
def Router.feed (n : Nat) (r : Router) : Router :=
  let k := 2 - r.entryFlits n
  let w := SMap.get [] r.feeds n
  { r with buffers := SMap.set [] r.buffers n (SMap.get [] r.buffers n ++ w.take k), feeds := SMap.set [] r.feeds n (w.drop k) }

/-- A packet enters a circuit at its tile's own router (R206, R210). -/
def State.enterCircuit (s : State) (site n : Nat) (p : Packet) : State :=
  let fs := circuitFlits (s.stamp p)
  s.modRouter site (fun r => ({ r with feeds := SMap.set [] r.feeds n (SMap.get [] r.feeds n ++ fs) }).feed n)

/-! ### A tile in its surroundings -/

/-- The context of a partition whose program its tiles hold. -/
def State.onTiles (s : State) (p : Nat) : Option Nat :=
  (List.range 8).find? (fun c => (s.ctx (ctxNo p c)).onTiles)

/-- Whether a region's logic supply is on: not off for heat and not latched off (R385, R388). -/
def State.vlogOn (s : State) (r : Nat) : Bool :=
  !(s.pregion r).thermalOff && !(s.rail (railVlog r)).off && !(s.rail (railVmem r)).off

/-- Whether a tile's logic runs: in READY, with its supply, outside the quiescent window, and neither failed nor in reset;
retired only until the context it runs has ended, for the work it has issued (R98, R134, R362, R388, R425, R461). -/
def State.tileOn (s : State) (n : Nat) : Bool :=
  decide (s.bring.phase = .ready)
    && (s.siteGood n || (decide ((s.siteRec n).status = 3) && (s.tile n).ctx.isSome))
    && !(s.tile n).inReset && s.vlogOn (regionOf n) && !s.clk.quiescent

/-- The pilot router (R381): the first UCIe router neither bypassed nor failed in service. -/
def State.pilotRouter (s : State) : Nat :=
  (((List.range 4).map ucieRouter).find? (fun n => !(s.router n).bypassed && !(s.router n).failed)).getD 470

/-- The router by which a packet for a device leaves this one (R190, R266); a packet for an unreachable one goes nowhere
from its own router, which drops it (R271). -/
def State.exitSite (s : State) (n : Nat) (dst : BitVec 15) (seq : Nat) : Option Nat :=
  match s.fab.route dst with
  | .here => none
  | .out l => some (linkRouter l (seq % 2))
  | .unreachable => some n

/-- Whether a tile's check area holds a whole copy (R306). -/
def holdsWhole (t : Tile) : Bool := match t.integ.checkIn with
  | some c => c.whole
  | none => false

/-- What a tile sees of the device (R16, R177, R190, R216, R303). -/
def State.envOf (s : State) (n : Nat) : TileEnv :=
  let p := s.partOfSite n
  let part := match p with
    | some p => s.part p
    | none => Partn.none
  let ctxAt (x : Option (BitVec 3)) : Ctxt := match p, x with
    | some p, some c => s.ctx (ctxNo p c.toNat)
    | _, _ => Ctxt.none
  let c := ctxAt (s.tile n).ctx
  { site := n, tide := s.clk.tide, nextMark := s.clk.nextMark, part := BitVec.ofNat 5 (p.getD 0x1F),
    selfFab := s.fab.self, rgen := s.fab.rgen, ackTimeout := s.net.ackTimeout, parityMode := s.parityMode,
    pairMode := s.fab.pairEn, circuits := (s.router n).circuits, chBase := part.chBase, chCount := part.chCount,
    placement := c.sites, routable := s.routable n, exitSite := s.exitSite n, edge := part.edge, pilotSite := s.pilotRouter, collectorSite := 474,
    partnerFree := !holdsWhole (s.tile (s.tile n).integ.partner.toNat),
    debug := (ctxAt ((s.tile n).ctx.or (s.tile n).owner)).debug }

/-- Count LATE_ACK at a router (R195, R212). -/
def countLate (r : Router) : Router := { r with lateAck := bump16 r.lateAck }
/-- Count a drop at a tile port (R197, R212). -/
def countAtTile (r : Router) : Router := { r with atTile := bump16 r.atTile, dropSeen := true }
/-- Count a drop at an attachment port (R197, R212). -/
def countAtAttach (r : Router) : Router := { r with atAttach := bump16 r.atAttach, dropSeen := true }

/-- An effect of a tile's step outside it. -/
def State.applyEff (s : State) (n : Nat) (e : TEff) : State :=
  match e with
  | .inject p => s.inject n 4 p
  | .circuit k p => s.enterCircuit n k p
  | .log f => s.logFault f
  | .suspect i => s.modTile i (fun t => { t with integ := { t.integ with suspect := true } })
  | .lateAck => s.modRouter n countLate
  | .dropped => s.modRouter n countAtTile
  | .halted => s

/-! ### Traces (R447) -/

/-- The trace records that a step of a tile makes: kind and value. -/
def traceOf (a b : Tile) : List (Nat × Nat) :=
  (if !a.seq.handler && b.seq.handler then [(0, a.seq.pc.toNat)] else [])
    ++ (if a.integ.stepSeq ≠ b.integ.stepSeq then [(1, a.seq.pc.toNat)] else [])
    ++ (if a.seq.mode ≠ .exception && b.seq.mode = .exception then [(2, b.seq.excCause.toNat)] else [])
    ++ (if a.seq.mode ≠ .halted && b.seq.mode = .halted then [(3, a.seq.pc.toNat)] else [])
    ++ (if a.integ.replayPending.isSome && b.integ.replaying && b.integ.replayPending.isNone then [(4, a.seq.pc.toNat)] else [])

/-- Write one trace record (R447): recording stops when the buffer is full. -/
def State.traceRecord (s : State) (c site : Nat) (r : Nat × Nat) : State :=
  match (s.ctx c).trace with
  | none => s
  | some t =>
    if bitOf t.kinds r.1 ∧ (t.written + 1) * 16 ≤ t.len then
      let bs := leBytes s.clk.tide.toNat 8 ++ leBytes site 2 ++ leBytes r.1 1 ++ zeroBytes 1 ++ leBytes r.2 4
      let s := s.hostOut (t.buf + t.written * 16) bs
      s.modCtx c (fun x => { x with trace := some { t with written := t.written + 1 } })
    else s

/-- The trace of a tile's step. -/
def State.traceStep (s : State) (n : Nat) (a b : Tile) : State :=
  match s.partOfSite n, a.ctx with
  | some p, some c => (traceOf a b).foldl (fun s r => s.traceRecord (ctxNo p c.toNat) n r) s
  | _, _ => s

/-- A tile takes a step in the device. -/
def State.runTile (s : State) (n : Nat) (f : TileEnv → Tile → TOut) : State :=
  let a := s.tile n
  let o := f (s.envOf n) a
  let s' := o.effs.foldl (fun s e => s.applyEff n e) (s.setTile n o.tile)
  if s.ctxs.any (fun c => c.2.trace.isSome) then s'.traceStep n a o.tile else s'

/-- A command to a tile: a site beyond the die is no unit, and a tile whose logic does not run stays as it
is. -/
def State.tileStep (s : State) (n : Nat) (f : TileEnv → Tile → TOut) : Host.Outcome State Fault Refusal :=
  if 480 ≤ n then .fault .noSuchUnit
  else if s.tileOn n then .next (s.runTile n f)
  else .next s

/-! ### Packets dropped (R194, R197, R206, R235) -/

/-- Whether a type is in R187's table. -/
def knownType (ty : BitVec 8) : Bool :=
  [tyWrite, tyAdd32, tyAdd16, tyRead, tyReadData, tyAck, tyMessage, tyCredit, tyHost, tyMgmt, tyStop, tyResume,
   tyPilot, tyBeacon].contains ty

/-- A HOST packet's answer (R401): KIND 2 or 3 with a status. -/
def hostAnswer (env : TileEnv) (p : Packet) (status : Nat) (data : List Byte) : Packet :=
  let kind := if bitsOf p.aux.toNat 28 4 = 1 then 2 else 3
  sealPacket { answerTo env p tyHost false with
    dport := 5, dsite := BitVec.ofNat 9 (ucieRouter (bitsOf p.aux.toNat 16 2)), dcc := 0,
    len := BitVec.ofNat 14 data.length, payload := data, addr := p.addr,
    aux := BitVec.ofNat 32 (bitsOf p.aux.toNat 0 18 + fieldAt status 24 4 + fieldAt kind 28 4) }

/-- The NACK with which a dropping point answers a packet (R194, R197, R235, R401); none where the type has
none. -/
def nackOf (env : TileEnv) (t : Tile) (p : Packet) (status : Nat) : Option Packet :=
  if p.typ = tyMessage then
    some (refusal env t p)
  else if p.circ then none
  else if rowType p.typ then some (ackOf env p true)
  else if p.typ = tyRead then some (readNack env p)
  else if p.typ = tyHost ∧ bitsOf p.aux.toNat 28 4 ≤ 1 then some (hostAnswer env p status [])
  else none

/-- A drop's note for a router site (R499): TYPE and the row of R197's table. -/
def siteDropNote (p : Packet) (site sev row : Nat) : FaultNote :=
  let part := if p.part.toNat < 20 then some p.part.toNat else none
  { plainNote sev 0x0203 with part := part, site := some site, d0 := p.typ.toNat + row * 256 }

/-- A packet for a destination port is dropped at a router for a row of R197's table: counted, logged and answered;
rows of a circuit packet for a tile fail at the destination counter (R206). A drop for a destination port other than
the tile's counts in AT_ATTACH (DESIGN CHOICE for a reserved DPORT, log entry 117). -/
def State.dropAt (s : State) (site port sev row : Nat) (p : Packet) : State :=
  let s := s.modRouter site (if port = 4 then countAtTile else countAtAttach)
  let s := s.logFault (siteDropNote p site sev row)
  let s := if p.circ && rowType p.typ && decide (port = 4) then
      s.modTile site (fun t => t.addFailed p.dcc.toNat (rowsOf p.payload))
    else s
  match nackOf (s.envOf site) (s.tile site) p 2 with
  | some q => s.inject site (max port 4) q
  | none => s

/-- Why a packet that has reached a tile port is dropped there: severity and row of R197's table. A HOST read
of a retired tile is served (R462); HOST packets are not checked against the context (R401). -/
def State.tileRefusal (s : State) (site : Nat) (p : Packet) : Option (Nat × Nat) :=
  let retiredRead := decide ((s.siteRec site).status = 3) && decide (p.typ = tyHost)
    && decide (bitsOf p.aux.toNat 28 4 = 1) && !(s.tile site).inReset
  if !knownType p.typ then some (1, 4)
  else if (!s.siteGood site || (s.tile site).inReset) && !retiredRead then some (0, 5)
  else match s.partOfSite site with
    | none => some (1, 6)
    | some part =>
      if part ≠ p.part.toNat then some (1, 6)
      else if p.typ ≠ tyHost ∧ s.onTiles part ≠ some p.ctx.toNat then some (1, 7)
      else none

end Sys2Proof.Machine
end

