-- ==== Sys2Proof/Machine/Array.lean ====
section
/-! DEFINITION. The matrix array and its checks (chapters 03 and 09). -/

namespace Sys2Proof.Machine

/-- WLOAD (R73): load a stationary operand. -/
def execWload (t : Nat) (f : WloadFields) (s : State) : Host.Outcome State Fault Refusal :=
  s.tileStep t (fun env tl => tileIssue env (.wload f) tl)

/-- STREAM (R79): stream rows through the loaded operand. -/
def execStream (t : Nat) (f : StreamFields) (s : State) : Host.Outcome State Fault Refusal :=
  s.tileStep t (fun env tl => tileIssue env (.stream f) tl)

/-- STREAM_ROW_WRITE (R75): the next row of the oldest STREAM is written. -/
def execStreamRowWrite (t : Nat) (s : State) : Host.Outcome State Fault Refusal :=
  s.tileStep t (tileStreamRow)

/-- DRAIN (R85): read slot rows out. -/
def execDrain (t : Nat) (f : DrainFields) (s : State) : Host.Outcome State Fault Refusal :=
  s.tileStep t (fun env tl => tileIssue env (.drain f) tl)

/-- DRAIN_ROW_OUTPUT (R89): the next row of the oldest DRAIN is written out. -/
def execDrainRowOutput (t : Nat) (s : State) : Host.Outcome State Fault Refusal :=
  s.tileStep t (tileDrainRow)

/-- CHECK_COPY (R306): a selected pass is copied to the check partner. -/
def execCheckCopy (t : Nat) (s : State) : Host.Outcome State Fault Refusal :=
  s.tileStep t (tileCheckCopy)

/-- CHECK_PASS (R307, R308): the partner recomputes and answers. -/
def execCheckPass (t : Nat) (s : State) : Host.Outcome State Fault Refusal :=
  s.tileStep t (tileCheckPass)

end Sys2Proof.Machine
end

