-- ==== Sys2Proof/Machine/FabOps.lean ====
section
/-! DEFINITION. The link dies: framing, credits and replay, and packets that cross between devices
(R255 to R271, R284, R285). -/

namespace Sys2Proof.Machine

/-! ### Flit tags (R189) -/

/-- A flit tag (R189). -/
def flitTag (cls vc circ : Nat) (head tail : Bool) : BitVec 16 :=
  BitVec.ofNat 16 (fieldAt cls 14 2 + fieldAt vc 13 1 + fieldAt (flagNat head) 12 1 + fieldAt (flagNat tail) 11 1
    + circ % 256)

/-- CLASS, VC and CIRCUIT of a tag. -/
def tagClass (t : BitVec 16) : Nat := bitsOf t.toNat 14 2
def tagVc (t : BitVec 16) : Nat := bitsOf t.toNat 13 1
def tagCirc (t : BitVec 16) : Nat := bitsOf t.toNat 0 8
def tagHead (t : BitVec 16) : Bool := bitOf t.toNat 12
def tagTail (t : BitVec 16) : Bool := bitOf t.toNat 11
/-- A tag without HEAD and TAIL: the stream of flits it belongs to. -/
def tagStream (t : BitVec 16) : Nat := fieldAt (tagClass t) 14 2 + fieldAt (tagVc t) 13 1 + tagCirc t

/-- The flits of a whole packet, not yet numbered (R185, R256), from the upper or the lower router of the die. -/
def packetFlits (cls vc circ : Nat) (upper : Bool) (p : Packet) : List TxFlit :=
  (circuitFlits p).map (fun f => ⟨f.data, flitTag cls vc circ f.head f.tail, 0, upper, packetAccount p⟩)

/-- LCRC of R256. -/
def lcrcOf (data : List Byte) (tag lseq : BitVec 16) : BitVec 32 :=
  BitVec.ofNat 32 (crc32c (data ++ leBytes tag.toNat 2 ++ leBytes lseq.toNat 2))

/-- A held flit as it goes on the link. -/
def TxFlit.wire (f : TxFlit) : LinkFlit :=
  { data := f.data, tag := f.tag, lseq := f.lseq, lcrc := lcrcOf f.data f.tag f.lseq, upper := f.upper, codewords := [],
    uncorrectable := false }

/-! ### The scheduled pool (R275) -/

/-- The circuit entries that arrive over a link die, with the slots they own: those of its two routers whose input is the
attachment port. -/
def State.crossing (s : State) (l : Nat) : List (Nat × Nat) :=
  [linkRouter l 0, linkRouter l 1].flatMap (fun n =>
    let r := s.router n
    (r.circuits.filter (fun c => bitOf c.2.toNat 63 && decide (bitsOf c.2.toNat 7 3 = 5))).map (fun c =>
      (c.1, ((List.range 64).filter (bitOf (SMap.get 0 r.slots c.1).toNat)).length)))

/-- The share of the pool that a circuit entry has (R275): of 4,096 flits in proportion to its owned slots, rounded down,
and at least 32. -/
def poolShare (cs : List (Nat × Nat)) (slots : Nat) : Nat :=
  max 32 (4096 * slots / max 1 (cs.map (fun c => c.2)).sum)

/-- At most 60 elements of a list from a place on, round. -/
def roundFrom {α : Type} (from' : Nat) (xs : List α) : List α :=
  let k := from' % max 1 xs.length
  (xs.drop k ++ xs.take k).take 60

/-- The credit totals of the two link virtual channels (R258, R268): the buffer and what has left it. -/
def Link.totalsVc (l : Link) : List (BitVec 16) := l.leftVc.map (fun n => BitVec.ofNat 16 Config.linkBuffer + n)

/-- The scheduled-credit returns of the next control flit (R258, R275). -/
def State.schedReturns (s : State) (l : Nat) : List (Nat × BitVec 16) :=
  let cs := s.crossing l
  (roundFrom (s.link l).ctlFrom cs).map (fun c =>
    (c.1, BitVec.ofNat 16 (poolShare cs c.2) + SMap.get 0 (s.link l).leftSched c.1))

/-! ### Positions (R257) -/

/-- Whether a link carries at least control flits (R257, R262, R263). -/
def Link.carries (l : Link) : Bool :=
  decide (l.state = .up) || decide (l.state = .idle) || decide (l.state = .miswired)

/-- The next link flit position is used (R257). -/
def Link.advance (l : Link) : Link := { l with position := (l.position + 1) % 32 }

/-- The tag of a link control flit (R189, R256). -/
def controlTag : BitVec 16 := flitTag 3 0 0 true true

/-- The link control flit that carries the latest values (R258). -/
def State.controlFlit (s : State) (l : Nat) : LinkControl :=
  { tag := controlTag, lcrcOk := true, ack := (s.link l).rxSeq - 1,
    replay := if (s.link l).askReplay then some (s.link l).rxSeq else none,
    credits := (s.link l).totalsVc, sched := s.schedReturns l }

/-- A link control flit leaves in the next position (R257, R258). -/
def State.sendControl (s : State) (l : Nat) : State :=
  if (s.link l).carries then
    let c := s.controlFlit l
    let s := s.modLink l (fun x => { x.advance with ctlFrom := (x.ctlFrom + 60) % max 1 (s.crossing l).length })
    s.emit (.linkCtl l c)
  else s

/-! ### Sending (R257 to R259, R275) -/

/-- Whether a running total lies beyond a count, both modulo 2^16. -/
def creditLeft (limit sent : BitVec 16) : Bool := decide (limit ≠ sent) && decide ((limit - sent).toNat < 32768)

/-- Whether a flit has credit (R257, R275). -/
def Link.hasCredit (l : Link) (f : TxFlit) : Bool :=
  if tagClass f.tag = 1 then creditLeft (SMap.get 0 l.limitSched (tagCirc f.tag)) (SMap.get 0 l.sentSched (tagCirc f.tag))
  else creditLeft (l.limitVc.getD (tagVc f.tag) 0) (l.sentVc.getD (tagVc f.tag) 0)

/-- Take a flit's credit. -/
def Link.useCredit (l : Link) (f : TxFlit) : Link :=
  if tagClass f.tag = 1 then { l with sentSched := SMap.mod 0 l.sentSched (tagCirc f.tag) (fun n => n + 1) }
  else { l with sentVc := l.sentVc.set (tagVc f.tag) (l.sentVc.getD (tagVc f.tag) 0 + 1) }

/-- Whether a flit is the first of its stream in a queue. -/
def firstOfStream (f : TxFlit) (q : List TxFlit) : Bool :=
  match q.find? (fun g => decide (tagStream g.tag = tagStream f.tag)) with
  | some g => decide (g = f)
  | none => false

/-- The flit that goes next (R257): a scheduled flit with credit, otherwise a free one. -/
def Link.pick (l : Link) : Option TxFlit :=
  match l.queue.find? (fun f => decide (tagClass f.tag = 1) && l.hasCredit f && firstOfStream f l.queue) with
  | some f => some f
  | none => l.queue.find? (fun f => l.hasCredit f && firstOfStream f l.queue)

/-- Send flits that have credit and room in the replay buffer (R257, R259), a control flit in each pilot position on the
way; `n` bounds the positions. -/
def State.pumpN (no : Nat) : Nat → State → State
  | 0, s => s
  | n + 1, s =>
    let l := s.link no
    if l.state ≠ .up ∨ 4096 ≤ l.unacked.length then s
    else match l.pick with
    | none => s
    | some f =>
      if l.position = 0 then State.pumpN no n (s.sendControl no)
      else
        let g := { f with lseq := l.txSeq }
        let l' := { (l.useCredit f).advance with
          queue := dropFirst (fun x => decide (x = f)) l.queue, txSeq := l.txSeq + 1, unacked := l.unacked ++ [g] }
        State.pumpN no n (((s.setLink no l').countAct f.own .linkFlit 1).emit (.linkData no g.wire))

/-- Send what a link may send. -/
def State.pumpLink (s : State) (no : Nat) : State := State.pumpN no (2 * (s.link no).queue.length) s

/-- The drop of R271 by row: counted where the table says, logged, and answered with NACK where `nack`. -/
def State.fabricDrop (s : State) (no site row : Nat) (nack : Bool) (count : Link → Link) (p : Packet) : State :=
  let s := s.modLink no count
  let s := s.logFault { unitNote 1 0x0503 3 no with d0 := row }
  if nack then
    match nackOf (s.envOf site) (s.tile site) p 2 with
    | some q => s.inject site 5 q
    | none => s
  else s

/-- Count UNREACH, LOOP and STALE_RGEN (R290). -/
def Link.countUnreach (l : Link) : Link := { l with unreach := satAdd l.unreach 1 0xFF }
def Link.countLoop (l : Link) : Link := { l with loop := satAdd l.loop 1 0xF }
def Link.countStale (l : Link) : Link := { l with stale := satAdd l.stale 1 0xFF }

/-- Ring size and closure of a dimension (R263). -/
def Fab.size (f : Fab) (d : Nat) : Nat := if d = 0 then f.sx else if d = 1 then f.sy else f.sz

/-- Whether an outgoing torus link closes its ring (R268). -/
def Fab.closes (f : Fab) (l : Nat) : Bool :=
  let c := coordOf f.self (l / 2)
  if l % 2 = 0 then decide (c + 1 = f.size (l / 2)) else decide (c = 0)

/-- Whether a site is the upper router of a link die: that of lanes 8 to 15 (R22, R267). -/
def upperAt (l site : Nat) : Bool := decide (site = linkRouter l 1)

/-- A packet goes out on a link from a router: held while the link retrains, dropped where it does not serve (R271,
R291). Control packets are never sent on a link (R257). `vc` is the link virtual channel on which it came over the
bridge, if it did (R268). -/
def State.linkSend (s : State) (no site vc : Nat) (p : Packet) : State :=
  let st := (s.link no).state
  let wraps := decide (no < 6) && s.fab.closes no
  if controlClass p then s
  else if st ≠ .up ∧ st ≠ .retraining then s.fabricDrop no site 4 true Link.countUnreach p
  else if wraps && decide (vc = 1) then s.fabricDrop no site 3 false Link.countLoop p
  else
    let v := if wraps then 1 else vc
    (s.modLink no (fun l => { l with queue := l.queue ++ packetFlits 0 v 0 (upperAt no site) p })).pumpLink no

/-- The account of a circuit's flits at a router: the owner of its entry (R207, R392). -/
def State.circuitAccount (s : State) (site n : Nat) : Nat :=
  let v := (SMap.get 0 (s.router site).circuits n).toNat
  account (bitsOf v 58 5) (bitsOf v 55 3)

/-- A circuit's flit goes out on a link (R273, R275); where the link does not serve, its packet is dropped, counted and
logged once (R271). -/
def State.linkSendCircuit (s : State) (no site n : Nat) (f : CFlit) : State :=
  let st := (s.link no).state
  if st ≠ .up ∧ st ≠ .retraining then
    if f.head then (s.modLink no Link.countUnreach).logFault { unitNote 1 0x0503 3 no with d0 := 4 } else s
  else
    let x : TxFlit := ⟨f.data, flitTag 1 0 n f.head f.tail, 0, upperAt no site, s.circuitAccount site n⟩
    (s.modLink no (fun l => { l with queue := l.queue ++ [x] })).pumpLink no

/-! ### Receiving (R259, R266 to R271, R275, R284, R285) -/

/-- The state of the device scope (R208, R212). -/
def State.scopeSt (s : State) (k : Scope) : Option ScopeRec := s.net.scopes.find? (fun r => decide (r.scope = k))

/-- Whether a scope is in SLACK. -/
def State.inSlack (s : State) (k : Scope) : Bool :=
  match s.scopeSt k with
  | some r => decide (r.st = .slack)
  | none => false

/-- Whether the routers run: the mesh has locked, VLNK is on and no quiescent window holds flits (R20, R213,
R362). -/
def State.meshOn (s : State) : Bool := s.clk.meshLocked && s.pins.vlnk && !s.clk.quiescent

/-- A record's acknowledgement comes back on a server port (R289). -/
def State.ackRecord (s : State) (port : Nat) (p : Packet) : State :=
  { s with fab := { s.fab with
      records := s.fab.records.filter (fun r => !(decide (r.port = port) && decide (r.seq = p.seq))) } }

/-- A packet with its source written for the answer's way back to a server port (log entry 31). -/
def fromServer (l : Nat) (p : Packet) : Packet := sealPacket { p with ssite := BitVec.ofNat 9 (480 + (l - 6)) }

/-- A packet from a server port (R271, R284, R285, R289). -/
def State.fromServerPort (s : State) (l : Nat) (p : Packet) : State :=
  let site := linkRouter l (p.seq.toNat % 2)
  let q := fromServer l p
  let refuse (s : State) : State := match nackOf (s.envOf site) (s.tile site) q 2 with
    | some a => s.inject site 5 a
    | none => s
  if p.fab then s.modLink l Link.countUnreach
  else if p.typ = tyAck ∧ s.fab.records.any (fun r => decide (r.port = l - 6) && decide (r.seq = p.seq)) then
    s.ackRecord (l - 6) p
  else if !(rowType p.typ || p.typ = tyRead || p.typ = tyReadData || p.typ = tyAck) then refuse s
  else if p.typ = tyRead ∧ (s.part p.part.toNat).confidential then refuse s
  else s.enter site 5 q

/-- Whether a packet that has arrived on a link goes on by the bridge (R266 step 4, R267): the die it leaves by. -/
def Fab.bridges (f : Fab) (l : Nat) (p : Packet) : Option Nat :=
  if 6 ≤ l ∨ !p.fab then none
  else match f.route p.fdest with
  | .out o => if o / 2 = l / 2 ∧ o ≠ l then some o else none
  | _ => none

/-- A packet goes on from the link die on which it arrived (R266, R267, R271). -/
def State.goesOn (s : State) (l vc : Nat) (p : Packet) : State :=
  let site := linkRouter l (p.seq.toNat % 2)
  if 6 ≤ l then s.fromServerPort l p
  else if p.fab && decide (s.fab.route p.fdest = .unreachable) then s.fabricDrop l site 2 true Link.countUnreach p
  else match s.fab.bridges l p with
  | some o => s.linkSend o site vc p
  | none => s.enter site 5 p

/-- Whether an arrived packet may go on now: outside SLACK (R270), and into its router only with room there (R201). -/
def State.mayGoOn (s : State) (l : Nat) (p : Packet) : Bool :=
  let site := linkRouter l (p.seq.toNat % 2)
  let vc := match s.exitOf p with | some d => s.turnVc site d | none => 0
  !s.inSlack .device && ((s.fab.bridges l p).isSome || (s.meshOn && s.hasRoom site 5 vc p))

/-- The flits of a packet leave the buffer of a link virtual channel. -/
def Link.leave (vc flits : Nat) (x : Link) : Link :=
  { x with leftVc := x.leftVc.set vc (x.leftVc.getD vc 0 + BitVec.ofNat 16 flits) }

/-- Arrived packets go on, each link virtual channel in order; those that must wait are kept. -/
def State.goOnAll (l : Nat) : List Arrival → List Arrival → State → State
  | [], kept, s => s.modLink l (fun x => { x with held := kept })
  | a :: r, kept, s =>
    if kept.any (fun b => decide (b.vc = a.vc)) || !s.mayGoOn l a.pkt then State.goOnAll l r (kept ++ [a]) s
    else State.goOnAll l r kept ((s.goesOn l a.vc a.pkt).modLink l (Link.leave a.vc a.flits))

/-- Packets that wait at a link die go on as far as they may (R201, R270). -/
def State.forwardHeld (s : State) (l : Nat) : State := State.goOnAll l (s.link l).held [] s

/-- A whole free-class packet has arrived on a link (R269 to R271): one of another route generation is dropped at once,
and after an ERASE every one is (R291). -/
def State.fromLink (s : State) (l vc flits : Nat) (p : Packet) : State :=
  if s.bring.phase = .alarmed then s.modLink l (Link.leave vc flits)
  else if p.rgen ≠ s.fab.rgen then s.modLink l (fun x => Link.leave vc flits x.countStale)
  else (s.modLink l (fun x => { x with held := x.held ++ [⟨vc, p, flits⟩] })).forwardHeld l

/-- Flits of one circuit leave the scheduled pool for their routers' entries, while those have room (R204, R275); at a
router whose entry is not valid a packet is dropped (R271). After an ERASE all are dropped (R291). -/
def State.drainPool (l n : Nat) : List (Bool × CFlit) → State → State
  | [], s => s.modLink l (fun x => { x with pool := SMap.set [] x.pool n [] })
  | (upper, f) :: r, s =>
    let site := linkRouter l (flagNat upper)
    let left (s : State) : State := s.modLink l (fun x => { x with leftSched := SMap.mod 0 x.leftSched n (fun k => k + 1) })
    if s.bring.phase = .alarmed then State.drainPool l n r (left s)
    else if s.inSlack .device || !s.meshOn then s.modLink l (fun x => { x with pool := SMap.set [] x.pool n ((upper, f) :: r) })
    else if !bitOf (SMap.get 0 (s.router site).circuits n).toNat 63 then
      State.drainPool l n r (left (if f.head then s.logFault { plainNote 1 0x0503 with site := some site, d0 := 6 } else s))
    else if (s.router site).entryFlits n < 2 then
      State.drainPool l n r (left (s.modRouter site (fun x => { x with
        buffers := SMap.set [] x.buffers n (SMap.get [] x.buffers n ++ [f]) })))
    else s.modLink l (fun x => { x with pool := SMap.set [] x.pool n ((upper, f) :: r) })

/-- The scheduled pool of a link die for one circuit is drained as far as it may be. -/
def State.drainCircuit (s : State) (l n : Nat) : State := State.drainPool l n (SMap.get [] (s.link l).pool n) s

/-- Everything that waits at a link die goes on as far as it may, and the credit goes back where something has left (R258,
R270). -/
def State.forwardAll (s : State) (l : Nat) : State :=
  if (s.link l).held = [] ∧ (s.link l).pool = [] then s
  else
    let t := ((s.link l).pool.map (fun x => x.1)).foldl (fun s n => s.drainCircuit l n) (s.forwardHeld l)
    if t.link l = s.link l then t else t.sendControl l

/-- A flit received in order (R256, R259): it joins its stream, and the last one of a free packet gives the packet; a
circuit's flit joins the scheduled pool (R275). The link die answers with a control flit (R258). -/
def State.acceptFlit (s : State) (l : Nat) (f : LinkFlit) : State :=
  let k := tagStream f.tag
  let x := s.link l
  let bs := (if tagHead f.tag then [] else SMap.get [] x.pieces k) ++ f.data
  let x := { x with rxSeq := x.rxSeq + 1, askReplay := false, asks := 0 }
  let s :=
    if tagClass f.tag = 1 then
      let c : CFlit := ⟨f.data, tagHead f.tag, tagTail f.tag, false⟩
      let n := tagCirc f.tag
      (s.setLink l { x with pool := SMap.set [] x.pool n (SMap.get [] x.pool n ++ [(f.upper, c)]) }).drainCircuit l n
    else if tagClass f.tag ≠ 0 then s.setLink l x
    else if tagTail f.tag then
      (s.setLink l { x with pieces := SMap.drop k x.pieces }).fromLink l (tagVc f.tag) (bs.length / 256) (parsePacket bs)
    else s.setLink l { x with pieces := SMap.set [] x.pieces k bs }
  s.sendControl l

/-- Whether a flit is damaged: an uncorrectable codeword, or outside parity mode a bad LCRC (R255, R256, R299). -/
def State.flitBad (s : State) (f : LinkFlit) : Bool :=
  f.uncorrectable || (!s.parityMode && decide (f.lcrc ≠ lcrcOf f.data f.tag f.lseq))

/-- Whether a flit is good and in order (R255, R256, R259, R299). -/
def State.flitGood (s : State) (l : Nat) (f : LinkFlit) : Bool := !s.flitBad f && decide (f.lseq = (s.link l).rxSeq)

/-- A flit is discarded (R259), and replay is asked for: by the first discarded flit, and again by each damaged one. When
8 replays of one LSEQ have failed, the link retrains (R260). -/
def State.refuseFlit (s : State) (l : Nat) (damaged : Bool) : State :=
  if (s.link l).askReplay && !damaged then s
  else if 8 ≤ (s.link l).asks then s.modLink l (fun x => { x with state := .retraining })
  else (s.modLink l (fun x => { x with askReplay := true, asks := x.asks + 1 })).sendControl l

end Sys2Proof.Machine
end

