-- ==== Sys2Proof/Machine/CtxOps.lean ====
section
/-! DEFINITION. Contexts on the tiles: pauses, switches, ends of launches and resets of tiles (R124, R178,
R209 to R211, R412 to R426). -/

namespace Sys2Proof.Machine

/-! ### One tile -/

/-- Bytes of a slab (R99). -/
def slabSize : Nat := 32768

/-- Entries of `a` whose key passes, and of `b` for the other keys. -/
def mergeBy {α : Type} (q : Nat → Bool) (a b : SMap α) : SMap α :=
  (SMap.keep q a).foldl (fun m x => SMap.put x.1 x.2 m) (SMap.keep (fun k => !q k) b)

/-- Whether a slab is one of the working slabs that a plan gives a tile (R305, R417): its runs, the
receive-queue area and at levels 2 and 3 the check area. -/
def workSlab (runs : List (Nat × Nat)) (level : BitVec 2) (i : Nat) : Bool :=
  runs.any (fun r => decide (r.1 ≤ i) && decide (i < r.1 + r.2)) || decide (3582 ≤ i)
    || (decide (2 ≤ level.toNat) && decide (3547 ≤ i))

/-- Whether any valid descriptor moors a slab (R121). -/
def moored (t : Tile) (i : Nat) : Bool := t.spad.moors.any (fun p => p.2.covers (i * 128))

/-- Keep the bytes, parity marks and side storage of the slabs that pass. -/
def Spad.keepSlabs (s : Spad) (q : Nat → Bool) : Spad :=
  { s with mem := SMap.keep (fun a => q (a / slabSize)) s.mem,
           parityBad := SMap.keep (fun a => q (a / slabSize)) s.parityBad,
           side := SMap.keep (fun b => q (b / 8)) s.side }

/-- Whether a SEND has not been accepted (R178). -/
def unaccepted (c : SendCur) : Bool := match c.phase with
  | .miss => true
  | .credits => true
  | _ => false

/-- Whether a held instruction is a SEND. -/
def heldSend (h : Option Held) : Bool := match h with
  | some x => decide (x.kind = .send)
  | none => false

/-- A SEND not yet accepted is withdrawn (R178): it issues again when the program goes on. -/
def withdrawSends (t : Tile) : Tile :=
  let curGone := match t.chan.cur with | some c => unaccepted c | none => false
  let parkGone := match t.chan.parked with | some c => unaccepted c | none => false
  let c := { t.chan with cur := if curGone then none else t.chan.cur,
                         parked := if parkGone then none else t.chan.parked }
  let inHandler := match t.chan.cur with | some c => c.fromHandler | none => false
  let mainGone := parkGone || (curGone && !inHandler)
  let gone := if t.seq.handler then curGone && inHandler else mainGone
  let q := { t.seq with
    cur := if heldSend t.seq.cur && gone then none else t.seq.cur,
    mainCur := if heldSend t.seq.mainCur && mainGone then none else t.seq.mainCur }
  { t with chan := c, seq := q }

/-- Whether issued work of a tile is complete (R98, R415 step 1). -/
def tileIdle (t : Tile) : Bool :=
  workDone t && t.seq.dispatching.isNone
    && (match t.chan.cur with
        | some c => unaccepted c
        | none => true)

/-- Whether issue may stop for a switch (R170, R178): at a dispatch point, or in a handler between its
instructions. -/
def atSwitchPoint (t : Tile) : Bool :=
  t.seq.dispatching.isNone && (match t.seq.cur with
    | none => true
    | some h => match h.kind with
      | .waitc | .tidewait | .recv | .scoreboard | .queueFull | .partner => true
      | .send => t.chan.parked.isSome && t.chan.cur.isNone
      | .fence => false)

/-- Whether a tile issues nothing further. -/
def issueStopped (t : Tile) : Bool := t.seq.paused || t.seq.excDue.isSome || decide (t.seq.mode ≠ .running)

/-- Issue stops for a switch as soon as the tile is where it may (R415 step 1). -/
def stopForSwitch (t : Tile) : Tile :=
  if issueStopped t then t
  else
    let t := withdrawSends t
    if atSwitchPoint t then { t with seq := { t.seq with pauseReq := false, paused := true } } else t

/-- PAUSE is asked of a tile (R178); at a dispatch point it takes effect at once. -/
def askPause (t : Tile) : Tile :=
  if issueStopped t then t else settlePause { t with seq := { t.seq with pauseReq := true } }

/-- A tile goes on after a pause (R178, R442), its instruction cache empty (R138). -/
def unpause (t : Tile) : Tile := { t with seq := { t.seq with pauseReq := false, paused := false, icache := [] } }

/-- The context record and working slabs of a tile as a switch saves them (R416, R417, R248). -/
def saveTile (runs : List (Nat × Nat)) (t : Tile) : Tile :=
  let t := unpause (withdrawSends t)
  { t with spad := t.spad.keepSlabs (workSlab runs t.integ.level), chan := { t.chan with cache := [], misses := [], draining := none },
           stopped := none }

/-- A tile that holds no context: what belongs to the tile itself stays (R95, R124, R316, R320); its context's status
registers have gone with the context (R129, R177). -/
def vacate (t : Tile) : Tile :=
  { Tile.clear with
    spad := { t.spad with stores := [], readSet := [], stepOverflow := false, stepInbound := false,
                          inboundReadset := false, readsetOverflow := false, parityError := false,
                          widePromoted := false, narrowForced := false },
    integ := { Integ.clear with
      suspect := t.integ.suspect, replays := t.integ.replays, unverified := t.integ.unverified,
      skipped := t.integ.skipped, unchecked := t.integ.unchecked, transport := t.integ.transport,
      tally := t.integ.tally },
    nextIdent := t.nextIdent, inReset := t.inReset, stopped := t.stopped }

/-- A saved tile comes back (R95, R415 step 5): moored slabs stay as they lie, the working slabs are read
back, and the cells are reloaded from the hold. -/
def restoreTile (runs : List (Nat × Nat)) (snap live : Tile) : Tile :=
  let q := workSlab runs snap.integ.level
  { snap with
    arr := { snap.arr with cells := snap.arr.hold },
    spad := { snap.spad with
      mem := mergeBy (fun a => q (a / slabSize)) snap.spad.mem live.spad.mem,
      parityBad := mergeBy (fun a => q (a / slabSize)) snap.spad.parityBad live.spad.parityBad,
      side := mergeBy (fun b => q (b / 8)) snap.spad.side live.spad.side,
      moors := live.spad.moors },
    integ := { snap.integ with
      suspect := live.integ.suspect, replays := live.integ.replays, unverified := live.integ.unverified,
      skipped := live.integ.skipped, unchecked := live.integ.unchecked, transport := live.integ.transport,
      tally := live.integ.tally },
    nextIdent := live.nextIdent, inReset := live.inReset, stopped := none }

/-- Slabs that no context moors and that `keep` does not name are zeroed (R124, R415 step 4). -/
def zeroUnmoored (keep : Nat → Bool) (t : Tile) : Tile :=
  { t with spad := t.spad.keepSlabs (fun i => moored t i || keep i) }

/-- The moored areas of a context on a tile are zeroed and its descriptors cleared (R124). -/
def unmoor (c : Nat) (t : Tile) : Tile :=
  let mine (m : Moor) : Bool := m.valid && decide (m.ctx.toNat = c)
  let gone (i : Nat) : Bool := t.spad.moors.any (fun p => mine p.2 && p.2.covers (i * 128))
  { t with spad := { t.spad.keepSlabs (fun i => !gone i) with
      moors := SMap.mapAll Moor.none (fun _ m => if mine m then Moor.none else m) t.spad.moors } }

/-! ### Circuits of a partition or a context (R211) -/

/-- Whether a NET_CIRCUIT value is in use and owned by a context of a partition, or by any of it. -/
def circuitOf (p : Nat) (c : Option Nat) (v : Word) : Bool :=
  bitOf v.toNat 63 && decide (bitsOf v.toNat 58 5 = p) && (match c with
    | some c => decide (bitsOf v.toNat 55 3 = c)
    | .none => true)

/-- Whether every buffer of the circuit entries of a scope is empty (R209). -/
def State.circuitsEmpty (s : State) (p : Nat) (c : Option Nat) : Bool :=
  s.net.routers.all (fun r =>
    (r.2.buffers ++ r.2.feeds).all (fun b => decide (b.2 = []) || !circuitOf p c (SMap.get 0 r.2.circuits b.1)))

/-- The entries of a scope are cleared (R211, R425). -/
def clearCircuitsOf (p : Nat) (c : Option Nat) (r : Router) : Router :=
  let gone := (r.circuits.filter (fun x => circuitOf p c x.2)).map (fun x => x.1)
  { r with circuits := SMap.keep (fun n => !gone.contains n) r.circuits,
           slots := SMap.keep (fun n => !gone.contains n) r.slots,
           arriving := SMap.keep (fun n => !gone.contains n) r.arriving,
           discards := r.discards.filter (fun n => !gone.contains n) }

/-- The entries of a scope are cleared at every router. -/
def State.clearCircuits (s : State) (p : Nat) (c : Option Nat) : State :=
  { s with net := { s.net with
      routers := SMap.mapAll Router.clear (fun _ r => clearCircuitsOf p c r) s.net.routers } }

/-! ### Switches (R413 to R420) -/

/-- The working runs that a context's plan gives a site. -/
def Ctxt.runsAt (x : Ctxt) (site : Nat) : List (Nat × Nat) :=
  match x.launch with
  | some l => match l.plan.places.find? (fun p => decide (p.site = site)) with
    | some p => p.work
    | .none => []
  | .none => []

/-- Whether a partition has a region off or going off for heat. -/
def State.partHot (s : State) (p : Nat) : Bool :=
  (s.part p).regions.any (fun r => (s.pregion r).thermalOff || (s.pregion r).heatDue)

/-- Whether a switch must wait: the quiescent window, a region of the partition off or going off for heat, or a stress test
(R317, R370, R396, R420; the last is a DESIGN CHOICE, log 126). -/
def State.switchHeld (s : State) (p : Nat) : Bool := s.clk.quiescent || s.partHot p || s.stressing

/-- Whether a context is READY and has not ended. -/
def State.ctxReady (s : State) (p c : Nat) : Bool :=
  decide ((s.ctx (ctxNo p c)).state = .ready) && (s.ctx (ctxNo p c)).ending.isNone

/-- The READY context with the next index above `c`, wrapping from 7 to 0 (R413). -/
def State.nextReady (s : State) (p c : Nat) : Option Nat :=
  ((List.range 8).map (fun i => (c + 1 + i) % 8)).find? (fun i => decide (i ≠ c) && s.ctxReady p i)

/-- A switch to a READY context begins, or waits where it must (R413, R420): step 1 of R415 asks every tile
of the outgoing context to stop. -/
def State.beginSwitch (s : State) (p i : Nat) : State :=
  if (s.part p).switching.isSome then s
  else if s.switchHeld p then s.modPart p (fun x => { x with switchDue := some i })
  else
    let out := s.onTiles p
    let s := s.modPart p (fun x => { x with switchDue := none, switching := some ⟨out, i, none, none⟩ })
    match out with
    | none => s
    | some o => s.each (fun s n => s.modTile n stopForSwitch) (s.ctx (ctxNo p o)).sites

/-- A context of the partition has stopped being runnable, or a READY one has come while the tiles are free:
the switch to the next READY context begins (R413). -/
def State.startNext (s : State) (p after : Nat) : State :=
  if (s.part p).switching.isSome ∨ (s.part p).running.isSome then s
  else match s.nextReady p after with
  | some i => s.beginSwitch p i
  | none => if s.ctxReady p after ∧ (s.onTiles p).isNone then s.beginSwitch p after else s

/-- The outgoing context's tiles are saved and left (R415 step 3). -/
def State.swapOut (s : State) (n : Nat) : State :=
  let x := s.ctx n
  let s := s.each State.collectSite x.sites
  let tiles := x.sites.map (fun i => (i, some (saveTile (x.runsAt i) (s.tile i))))
  let s := s.modCtx n (fun y => { y with
    saved := tiles.foldl (fun m t => SMap.put t.1 t.2 m) [], onTiles := false,
    state := if y.state = .running then .ready else y.state })
  s.each (fun s i => s.modTile i vacate) x.sites

/-- Step 4 of R415 on every tile of a partition. -/
def State.zeroBetween (s : State) (p n : Nat) : State :=
  let x := s.ctx n
  if (s.part p).lastTenant.isNone ∨ (s.part p).lastTenant = some x.tenant then s
  else s.each (fun s i => s.modTile i (zeroUnmoored (fun b =>
      match SMap.get none x.saved i with
      | some t => workSlab (x.runsAt i) t.integ.level b
      | none => false))) (s.partSites p)

/-- Whether a DRAIN holds every tile of a partition (R209). -/
def State.drainsPart (s : State) (p : Nat) : Bool := (s.scopeSt .device).isSome || (s.scopeSt (.part p)).isSome

/-- Whether a DRAIN holds the tiles of a context of a partition (R209). -/
def State.drainHolds (s : State) (n : Nat) : Bool := s.drainsPart (n / 8) || (s.scopeSt (.ctx (n / 8) (n % 8))).isSome

/-! ### STOP and RESUME (R26, R187, R209) -/

/-- The UCIe edge router at which the harbour master's packets enter the mesh (R26): the first one that is neither
bypassed nor failed (DESIGN CHOICE, log 119). -/
def State.harbourRouter (s : State) : Nat := s.pilotRouter

/-- A control packet of the harbour master for a tile (R187, R209). DESIGN CHOICE (log 119): R187 gives no coding of the
scope in AUX, and it is left zero. -/
def controlPacket (s : State) (ty : BitVec 8) (site : Nat) : Packet :=
  s.stamp { blankPacket with typ := ty, last := true, dport := 4, dsite := BitVec.ofNat 9 site, fsrc := s.fab.self }

/-- Whether a tile can take a control packet: in READY, neither failed nor in reset, and its router stands; a retired one
until the context that it runs has ended (R209, R213, R461). -/
def State.takesControl (s : State) (i : Nat) : Bool :=
  decide (s.bring.phase = .ready) && (s.siteGood i || (decide ((s.siteRec i).status = 3) && (s.tile i).ctx.isSome))
    && !(s.tile i).inReset && !s.bypassed i

/-- The harbour master sends a control packet to a tile, on the control class from a UCIe edge router (R26, R209). -/
def State.orderTile (s : State) (ty : BitVec 8) (i : Nat) : State := s.inject s.harbourRouter 5 (controlPacket s ty i)

/-- STOP is sent to the tiles that can take it. -/
def State.stopSites (s : State) (is : List Nat) : State := s.each (fun s i => s.orderTile tyStop i) (is.filter s.takesControl)

/-- RESUME is sent to the tiles that can take it. -/
def State.resumeSites (s : State) (is : List Nat) : State :=
  s.each (fun s i => s.orderTile tyResume i) (is.filter s.takesControl)

/-- Whether a STOP is on its way to a tile that can take it. -/
def State.stopWaits (s : State) (i : Nat) : Bool :=
  s.takesControl i && s.net.inFlight.any (fun f => decide (f.pkt.typ = tyStop) && decide (f.pkt.dsite.toNat = i))

/-- Whether the engines of a tile are quiet (R209 steps 2 and 3): no STOP is on its way to it, and no free packet of it is
outstanding; a tile that cannot take a STOP sends nothing. -/
def State.siteQuiet (s : State) (i : Nat) : Bool :=
  !s.takesControl i || (!s.stopWaits i && decide ((s.tile i).outst = []))

/-- A tile under a DRAIN: its engines stay stopped, and its send timers stand still (R209, R227). -/
def heldByDrain (t : Tile) : Tile := beginDraining { t with stopped := some t.seq.activeCycles }

/-- The incoming context's tiles are read back (R415 step 5), stopped until step 6. -/
def State.swapIn (s : State) (p n : Nat) : State :=
  let x := s.ctx n
  let s := s.zeroBetween p n
  let s := s.each (fun s i => match SMap.get none x.saved i with
    | some t =>
      let r := restoreTile (x.runsAt i) t (s.tile i)
      let r := { r with seq := { r.seq with paused := true } }
      let r := { r with stopped := if (s.tile i).stopped.isSome then some r.seq.activeCycles else none }
      s.setTile i (if s.drainHolds n then heldByDrain r else r)
    | none => s) x.sites
  let s := s.modCtx n (fun y => { y with saved := [], onTiles := true })
  s.modPart p (fun y => { y with lastTenant := some x.tenant })

/-- Tiles of a switch's outgoing context. -/
def State.outgoingSites (s : State) (p : Nat) (w : Switch) : List Nat :=
  match w.outgoing with
  | some o => (s.ctx (ctxNo p o)).sites
  | none => []

/-- Slack-water steps 1 to 3 are done for a partition (R209, R211, R415 step 2). -/
def State.partDrained (s : State) (p : Nat) (sites : List Nat) : Bool := sites.all s.siteQuiet && s.circuitsEmpty p none

/-- The switch's volume (R418): the bytes of the outgoing and the incoming context. -/
def State.switchVolume (s : State) (p : Nat) (w : Switch) : Nat :=
  (match w.outgoing with
   | some o => (s.ctx (ctxNo p o)).volume
   | none => 0) + (s.ctx (ctxNo p w.incoming)).volume

/-- A switch advances (R415): issue stops and issued work completes; the outgoing context's tiles are sent STOP and the
partition drains (R209, R211); the contexts are saved and restored. Nothing of it happens in the quiescent window
(R370). -/
def State.switchAdvance (s : State) (p : Nat) (w : Switch) : State :=
  let sites := s.outgoingSites p w
  if w.moved.isSome || s.clk.quiescent then s
  else match w.stopped with
  | none =>
    let s := s.each (fun s i => s.modTile i stopForSwitch) sites
    if sites.all (fun i => issueStopped (s.tile i) && tileIdle (s.tile i)) then
      (s.stopSites sites).modPart p (fun x => { x with switching := some { w with stopped := some s.clk.tide } })
    else s
  | some _ =>
    if s.partDrained p sites then
      let v := s.switchVolume p w
      let s := match w.outgoing with
        | some o => s.swapOut (ctxNo p o)
        | none => s
      let s := s.modPart p (fun x => { x with running := none })
      let s := s.swapIn p (ctxNo p w.incoming)
      s.modPart p (fun x => { x with switching := some { w with moved := some v } })
    else s

/-- Jobs of a context whose work passes a test. -/
def State.jobsOf (s : State) (p c : Nat) (q : Work → Bool) : List Job :=
  s.hm.jobs.filter (fun j => decide (j.hdr.part.toNat = p) && decide (j.hdr.ctx.toNat = c) && q j.work)

/-- A PAUSE or the heat holds a context. -/
def Ctxt.held (x : Ctxt) : Bool := x.userPause || x.heatPause

/-- A tile goes on after a pause; the entries that it misses are asked for again (R178, R243). -/
def State.wakeTile (s : State) (i : Nat) : State :=
  if s.tileOn i then s.runTile i (fun env t => pumpReads env (unpause t)) else s.modTile i unpause

/-- A context's tiles go on, unless it is held (R178, R420). -/
def State.goOn (s : State) (n : Nat) : State :=
  let x := s.ctx n
  if x.held then s else s.each State.wakeTile x.sites

/-- A context that comes on the tiles of a partition that heat holds is paused with it (R388 step 1). -/
def State.pauseHot (s : State) (n : Nat) : State :=
  if s.partHot (n / 8) then s.modCtx n (fun x => { x with heatPause := true }) else s

/-- The switch ends (R415 step 6): the incoming context continues with a new quantum, and the event is
written. -/
def State.switchEnds (s : State) (p : Nat) (w : Switch) (moved : Nat) : State :=
  let n := ctxNo p w.incoming
  let since := w.stopped.getD s.clk.tide
  let s := s.pauseHot n
  let s := s.modCtx n (fun x => { x with
    switches := x.switches + 1, state := if x.state = .ready then (if x.held then .paused else .running) else x.state })
  let s := s.modPart p (fun x => { x with
    switching := none, running := if (s.ctx n).state = .running then some w.incoming else none,
    quantumRun := x.quantum, quantumFrom := s.clk.tide, quantumUsed := 0 })
  let s := (s.goOn n).resumeSites ((s.partSites p).filter (fun i => (s.tile i).stopped.isSome && !s.drainHolds n))
  let s := s.event 6 (some p) (some w.incoming)
    (leBytes (w.outgoing.getD 0xFF) 1 ++ leBytes w.incoming 1 ++ zeroBytes 6
      ++ leBytes (s.clk.tide - since).toNat 8 ++ leBytes moved 8)
  s.completeAll (s.jobsOf p w.incoming (fun k => match k with | .switchTo => true | _ => false)) stOk

/-! ### Ends of launches (R424) -/

/-- A switch whose outgoing or incoming context ends (R420): the save is abandoned and the incoming one
proceeds; without an incoming one there is no switch. -/
def endInSwitch (c : Nat) (x : Partn) : Partn :=
  match x.switching with
  | some w =>
    if w.incoming = c then { x with switching := none }
    else if w.outgoing = some c then { x with switching := some { w with outgoing := none } } else x
  | none => if x.switchDue = some c then { x with switchDue := none } else x

/-- The tiles of a context whose incoming switch is given up go on. -/
def State.resumeOutgoing (s : State) (p c : Nat) : State :=
  match (s.part p).switching with
  | some w =>
    if w.incoming = c ∧ w.moved.isNone then match w.outgoing with
      | some o =>
        s.each (fun s i =>
          let s := if (s.ctx (ctxNo p o)).state = .running then s.wakeTile i else s
          if w.stopped.isSome ∧ !s.drainHolds (ctxNo p o) then s.resumeSites [i] else s)
          (s.ctx (ctxNo p o)).sites
      | none => s
    else s
  | none => s

/-- A launch ends: its COMPLETION is written, a switch it takes part in is settled, and the next READY context
comes on the tiles (R413, R420, R424). -/
def State.endLaunch (s : State) (n : Nat) (e : Ending) : State :=
  let p := n / 8
  let c := n % 8
  let s := s.resumeOutgoing p c
  let s := s.finishLaunch n e
  let s := s.modPart p (endInSwitch c)
  s.startNext p c

/-- A tile takes the exception that the harbour master raises (R173, R174): a first one writes TS_EXC, a
later one sets EXC_MORE; issued work completes before it is recorded. A tile that has halted stays halted, with its code
(R424). -/
def endTile (env : TileEnv) (cause detail : Nat) (t : Tile) : Tile :=
  let u := stopTile t
  let e : ExcDue := ⟨cause, detail, t.seq.pc, false⟩
  if cause = 0 ∨ t.seq.mode = .halted then u
  else if t.seq.mode = .exception ∨ t.seq.excDue.isSome then { u with seq := { u.seq with excMore := true } }
  else if workDone u then (recordExc env u e).tile
  else { u with seq := { u.seq with excDue := some e } }

/-- A context is to end (R173, R424): no tile of it issues anything further; its COMPLETION follows when issued
work is complete. `cause` and `detail` are those of an exception that the harbour master raises, zero for
none. -/
def State.markEnding (s : State) (n : Nat) (e : Ending) (cause detail : Nat) : State :=
  if !(s.ctx n).launched ∨ (s.ctx n).ending.isSome then s
  else
    let sites := if (s.ctx n).onTiles then (s.ctx n).sites else []
    let s := s.each (fun s i => s.modTile i (endTile (s.envOf i) cause detail)) sites
    s.modCtx n (fun x => { x with ending := some e })

/-- Whether issued work of an ending context is complete (R98, R173); a push is complete when its last row has left the
tile (R166), so its answers are not waited for. -/
def State.endingIdle (s : State) (n : Nat) : Bool :=
  let x := s.ctx n
  !x.onTiles || x.sites.all (fun i => workDone (s.tile i) && (s.tile i).seq.excDue.isNone)

/-- Whether every tile of a context has halted (R169, R424). -/
def State.allHalted (s : State) (n : Nat) : Bool :=
  let x := s.ctx n
  decide (x.state = .running ∨ x.state = .paused) && x.onTiles
    && x.sites.all (fun i => decide ((s.tile i).seq.mode = .halted))

/-! ### Pauses (R178, R388, R442) -/

/-- Every tile of a context that is to pause has stopped: the context is PAUSED, PAUSE completes, and the next
READY context comes (R413, R442). A tile in exception is not paused: its context ends first (R173, R442). -/
def State.settlePauses (s : State) : State :=
  s.each (fun s n =>
    let x := s.ctx n
    if x.held && decide (x.state = .running) && x.onTiles && (s.part (n / 8)).switching.isNone
        && x.sites.all (fun i => issueStopped (s.tile i) && decide ((s.tile i).seq.mode ≠ .exception)) then
      let p := n / 8
      let c := n % 8
      let s := s.modCtx n (fun y => { y with state := .paused })
      let s := s.modPart p (fun y => { y with
        running := none, quantumUsed := y.quantumUsed + (s.clk.tide - y.quantumFrom) })
      let s := s.completeAll (s.jobsOf p c (fun k => match k with | .pause => true | _ => false)) stOk
      s.startNext p c
    else s) allCtxs

/-- The RESUME commands of a context complete (R442). -/
def State.resumed (s : State) (n : Nat) : State :=
  s.completeAll (s.jobsOf (n / 8) (n % 8) (fun k => match k with | .resume => true | _ => false)) stOk

/-- A paused context goes on, on the tiles or in turn for them (R388 step 4, R442). -/
def State.unpauseCtx (s : State) (n : Nat) : State :=
  let x := s.ctx n
  let p := n / 8
  let inSwitch := (s.part p).switching.isSome
  if x.held || decide (x.state ≠ .paused && x.state ≠ .running) then s
  else if x.onTiles then
    let s := if inSwitch then s else s.each State.wakeTile x.sites
    let s := s.modCtx n (fun y => { y with state := if y.state = .paused then .running else y.state })
    let s := s.modPart p (fun y => { y with
      running := if inSwitch then y.running else some (n % 8),
      quantumFrom := if x.state = .paused then s.clk.tide else y.quantumFrom })
    s.resumed n
  else
    let s := s.modCtx n (fun y => { y with state := .ready })
    (s.resumed n).startNext p (n % 8)

/-! ### Resets of tiles (R425) -/

/-- A tile is reset (R95, R124, R249, R425); of a region off for heat, when its logic supply returns (R396). -/
def State.resetSite (s : State) (n : Nat) : State :=
  if (s.pregion (regionOf n)).thermalOff then
    s.modPregion (regionOf n) (fun x => { x with resetDue := true })
  else s.modTile n resetTile

/-- Every tile of some sites is reset. -/
def State.resetSites (s : State) (ns : List Nat) : State := s.each State.resetSite ns

/-- Whether a tile of a partition is in reset or waits to be reset (R425). -/
def State.resetting (s : State) (p : Nat) : Bool :=
  (s.partSites p).any (fun n => (s.siteGood n && (s.tile n).inReset) || (s.pregion (regionOf n)).resetDue)

/-- Contexts of a partition end at once, abandoning issued work (R425 step 1). -/
def State.endAll (s : State) (p : Nat) : State :=
  let s := s.modPart p (fun x => { x with switching := none, switchDue := none })
  s.each (fun s n => if (s.ctx n).launched then
      s.finishLaunch n ⟨stFaulted, 0, 0xFFFF, decide ((s.ctx n).state ≠ .loading)⟩ else s) (ctxsOf p)

/-- Step 2 of R425 ends and step 3 begins: the partition's circuits are cleared and its tiles reset. -/
def State.resetPartTiles (s : State) (p : Nat) : State :=
  (s.clearCircuits p none).resetSites (s.partSites p)

/-! ### Retirement (R461) -/

/-- TILE_RETIRED and ABORTED of R174. -/
def excTileRetired : Nat := 0x11
def excAborted : Nat := 0x12

/-- A launch still LOADING stops and releases what it wrote (R423, R461): the context's circuit entries. -/
def State.stopLoading (s : State) (n status : Nat) : State :=
  (s.clearCircuits (n / 8) (some (n % 8))).endLaunch n ⟨status, 0, 0xFFFF, false⟩

/-- A context that uses a retired site ends (R461 steps 2 and 3). -/
def State.endForRetired (site : Nat) (s : State) (n : Nat) : State :=
  if (s.ctx n).state = .loading then s.stopLoading n stRetiredTile
  else s.markEnding n ⟨stFaulted, excTileRetired, site, true⟩ excTileRetired site

/-- TILE_RETIRED of R499. -/
def retiredNote (site reason : Nat) (n : Option Nat) : FaultNote :=
  { plainNote 2 0x0105 with part := n.map (fun n => n / 8), ctx := n.map (fun n => n % 8), site := some site, d0 := reason }

/-- Contexts that a launch has placed on a site. -/
def State.usersOf (s : State) (site : Nat) : List Nat :=
  allCtxs.filter (fun n => (s.ctx n).launched && (s.ctx n).sites.contains site)

/-- A tile is retired (R461). -/
def State.retire (s : State) (site reason : Nat) : State :=
  let s := s.modSite site (fun x => { x with status := 3, reason := reason, retiredAt := BitVec.ofNat 48 s.clk.tide.toNat })
  let users := s.usersOf site
  let fatal := users.filter (fun n => decide ((s.ctx n).state ≠ .loading))
  let s := s.each (State.endForRetired site) users
  let s := if fatal = [] then s.logFault (retiredNote site reason none)
    else s.each (fun s n => s.logFault (retiredNote site reason (some n))) fatal
  s.modTile site stopTile

end Sys2Proof.Machine
end

