-- ==== Sys2Proof/Machine/PwrOps.lean ====
section
/-! DEFINITION. Power, heat and pilot hints: rails and their failures, the thermal controls, heavy phases and
VLOG settings (R371 to R389). -/

namespace Sys2Proof.Machine

/-- All regions. -/
def allRegions : List Nat := List.range 20

/-! ### Rails (R372, R385, R395) -/

/-- Phases of a rail's regulator (R372). -/
def railPhases (i : Nat) : Nat := if i < 20 then 12 else if i < 44 then 4 else 16

/-- LIMIT of a rail in A (R372, R385). -/
def State.railLimit (s : State) (i : Nat) : Nat := 40 * (railPhases i - (s.rail i).failed.length)

/-- OFF of a rail (R395): switched off for a fault or for heat, or with all die rails. -/
def State.railOffNow (s : State) (i : Nat) : Bool :=
  (s.rail i).off || (decide (i < 20) && (s.pregion i).thermalOff)
    || (if i = 44 then !s.pins.vlnk else !s.pins.railsOn)

/-- The number of the tide mark last taken (R381). -/
def State.markNo (s : State) : Nat := s.clk.tide.toNat / 4096

/-- All rails go off in order (R385, R389, R521): the module stays off until the input has been cycled. -/
def State.allOff (s : State) : State :=
  { s with pins := { s.pins with vlnk := false, railsOn := false, pwrgd := false, alarmLow := false, latchedOff := true } }

/-! ### Heavy phases (R380 to R383) -/

/-- Whether two phases overlap or adjoin. -/
def Heavy.touches (a b : Heavy) : Bool := decide (a.start ≤ b.start + b.dur) && decide (b.start ≤ a.start + a.dur)

/-- The phase that covers both at the greater class (R382). -/
def Heavy.hull (a b : Heavy) : Heavy :=
  let lo := min a.start b.start
  ⟨lo, max (a.start + a.dur) (b.start + b.dur) - lo, max a.cls b.cls⟩

/-- The gap in time between two phases. -/
def Heavy.gap (a b : Heavy) : Nat :=
  if a.start + a.dur ≤ b.start then b.start - (a.start + a.dur) else a.start - (b.start + b.dur)

/-- Join a phase with every one it overlaps or adjoins; `n` bounds the rounds. -/
def joinPhases : Nat → Heavy → List Heavy → List Heavy
  | 0, h, ps => h :: ps
  | n + 1, h, ps =>
    if ps.any h.touches then
      joinPhases n ((ps.filter h.touches).foldl Heavy.hull h) (ps.filter (fun p => !h.touches p))
    else h :: ps

/-- The held phase nearest in time. -/
def nearestPhase (h : Heavy) : List Heavy → Option Heavy
  | [] => none
  | p :: ps => match nearestPhase h ps with
    | none => some p
    | some q => some (if h.gap p ≤ h.gap q then p else q)

/-- A hint joins the phases of a partition (R382). -/
def addPhase (h : Heavy) (ps : List Heavy) : List Heavy :=
  if ps.contains h then ps
  else if ps.any h.touches ∨ ps.length < 32 then joinPhases 33 h ps
  else match nearestPhase h ps with
  | some q => joinPhases 33 (h.hull q) (ps.filter (fun p => decide (p ≠ q)))
  | none => [h]

/-- A hint for a partition is received (R381, R382). -/
def State.takeHint (s : State) (p : Nat) (h : Heavy) : State :=
  { s with pwr := { s.pwr with phases := SMap.mod [] s.pwr.phases p (addPhase h) } }

/-- Phases that a region is in (R381). -/
def State.regionPhases (s : State) (r : Nat) : List Heavy :=
  match s.partOfRegion r with
  | some p => SMap.get [] s.pwr.phases p
  | none => []

/-- The class of the heavy phase in force in a region: the greatest (R382, R383). -/
def State.heavyNow (s : State) (r : Nat) : Option Nat :=
  match (s.regionPhases r).filter (fun h => decide (h.start ≤ s.markNo) && decide (s.markNo < h.start + h.dur)) with
  | [] => none
  | h :: hs => some (hs.foldl (fun m x => max m x.cls) h.cls)

/-- Whether a region runs at full margin with all banks (R380, R383, R384): outside hinted mode, in a heavy
phase or at the tide mark before one, or held by an unheralded surge. -/
def State.fullMargin (s : State) (r : Nat) : Bool :=
  !s.pwr.hinted || decide (0 < (s.pregion r).surgeHold)
    || (s.regionPhases r).any (fun h => decide (h.start ≤ s.markNo + 1) && decide (s.markNo < h.start + h.dur))

/-- BANKS_ARMED (R379, R380). -/
def State.banksArmed (s : State) (r : Nat) : Nat :=
  if s.pins.railsOn then min (if s.fullMargin r then 16 else 4) (16 - (s.pregion r).fired) else 0

/-! ### VLOG settings (R373, R380, R362) -/

/-- The bin that VLOG must serve: while a change is pending, the greater of the two. -/
def State.settingBin (s : State) : Nat :=
  match s.clk.change with
  | some c => max c.newBin c.oldBin
  | none => max s.clk.bin 32

/-- Whether a rise is pending. -/
def State.rising (s : State) : Bool :=
  match s.clk.change with
  | some c => decide (c.oldBin < c.newBin)
  | none => false

/-- Whether a region's VLOG runs at 35 mV margin (R380, R396). -/
def State.lowMargin (s : State) (r : Nat) : Bool := !s.fullMargin r && !s.rising

/-- Whether a stress test runs a round on a region, whose VLOG is then 30 mV below its setting (R318 step 3). -/
def State.stressLow (s : State) (r : Nat) : Bool := s.hm.jobs.any (fun j => match j.work with
  | .stress x => (match x.stage with | .round _ => x.tested.any (fun n => decide (regionOf n = r)) | _ => false)
  | _ => false)

/-- The setting of a region's VLOG in mV (R373, R318). -/
def State.vlogSetting (s : State) (r : Nat) : Nat :=
  let v := Config.vmin r s.settingBin + 5 * (s.pregion r).ageing + (if s.lowMargin r then 35 else 60)
  min (max v 600) 850 - (if s.stressLow r then 30 else 0)

/-- Regulator phases of a region's VLOG that are healthy (R385). -/
def State.healthyPhases (s : State) (r : Nat) : Nat := railPhases (railVlog r) - (s.rail (railVlog r)).failed.length

/-- The greatest class of the phases that a region is in or for which it is being restored (R383). -/
def State.restoredClass (s : State) (r : Nat) : Option Nat :=
  (s.regionPhases r).foldl (fun m h =>
    if h.start ≤ s.markNo + 1 ∧ s.markNo < h.start + h.dur then some (max (m.getD 0) h.cls) else m) none

/-- Active regulator phases of a region's VLOG (R380, R383): all healthy ones without hinted mode and in the hold of an
unheralded surge; otherwise as the measured current needs, and in a heavy phase at least those of its class (DESIGN CHOICE,
log 125). -/
def State.phasesActive (s : State) (r : Nat) : Nat :=
  let need := ceilDiv (s.rail (railVlog r)).current 300 + 1
  if s.railOffNow (railVlog r) then 0
  else if !s.pwr.hinted ∨ 0 < (s.pregion r).surgeHold then s.healthyPhases r
  else match s.restoredClass r with
  | some c => min (s.healthyPhases r) (max need (ceilDiv (12 * (c + 1)) 8))
  | none => min (s.healthyPhases r) need

/-- Every VLOG takes its setting and its phases (R373, R380, R383). -/
def State.setVlogs (s : State) : State :=
  s.each (fun s r => s.modRail (railVlog r) (fun x => { x with
    setting := s.vlogSetting r, lowMargin := s.lowMargin r, phasesOn := s.phasesActive r }))
    allRegions

/-- Settings of the rails that R372 fixes. -/
def State.setFixedRails (s : State) : State :=
  s.each (fun s i => s.modRail i (fun x => { x with setting := if i < 40 then 800 else 750 }))
    ((List.range 25).map (fun i => 20 + i))

/-! ### Shorts and supply faults (R385, R386) -/

/-- Partitions with a tile in a region, or none for a region that holds no partition (R495). -/
def State.regionParts (s : State) (r : Nat) : List (Option Nat) := [s.partOfRegion r]

/-- The scratchpads, slots and holds of a region are lost with VMEM (R385). -/
def loseVmem (t : Tile) : Tile :=
  { t with arr := { Arr.clear with queue := t.arr.queue }, spad := { Spad.clear with moors := t.spad.moors } }

/-- A VLOG or VMEM rail is shorted (R385): off and latched until the next bring-up. -/
def State.shortRegion (s : State) (i : Nat) : State :=
  let r := i % 20
  let off (x : Rail) : Rail := { x with off := true, short := true }
  let s := s.modRail i off
  let s := if i < 20 then s
    else s.each (fun s n => s.modTile n loseVmem) (regionSites r)
  let s := if i < 20 then s else s.modRail (railVlog r) (fun x => { x with off := true })
  s.logAll ((s.regionParts r).map (fun p => { unitNote 3 0x0803 5 i with part := p }))

/-- Partitions with bands on the stacks of an edge group. -/
def State.edgeParts (s : State) (e : Nat) : List Nat :=
  allParts.filter (fun p => (s.part p).valid && (List.range 24).any (fun k => decide (edgeGroup k = e) && (s.part p).grant.touches k))

/-- A VHIO rail fails (R338, R385): every stack of its edge group leaves service. -/
def State.failEdge (s : State) (e : Nat) : State :=
  let s := s.modRail (40 + e) (fun x => { x with off := true, short := true })
  let s := s.each (fun s p => s.logFault { unitNote 3 0x0804 6 e with part := some p }) (s.edgeParts e)
  s.each State.failStack ((List.range 24).filter (fun k => decide (edgeGroup k = e)))

/-- A VLNK fault or an input collapse (R385): device-fatal, all rails off. `unit` is the rail, 0xFF for the
input. -/
def State.supplyFails (s : State) (unit : Nat) : State :=
  let s := if unit = 44 then s.modRail 44 (fun x => { x with off := true, short := true }) else s
  (s.logFault (unitNote 4 0x0805 5 unit)).allOff

/-- A rail is shorted (R385). -/
def State.shortRail (s : State) (i : Nat) : State :=
  if i < 40 then s.shortRegion i else if i < 44 then s.failEdge (i - 40) else s.supplyFails 44

/-! ### Heat (R387 to R389) -/

/-- The thresholds that a temperature crosses on its way from `a` to `b`, with the direction. -/
def crossed (a b : Int) : List (Nat × Nat) :=
  ([90, 95, 110, 120].filter (fun h => decide (a < Int.ofNat h) && decide (Int.ofNat h ≤ b))).map (fun h => (h, 0))
    ++ ([120, 110, 95, 90].filter (fun h => decide (b < Int.ofNat h) && decide (Int.ofNat h ≤ a))).map (fun h => (h, 1))

/-- THERMAL events of a place (R387, R433). -/
def State.thermalEvents (s : State) (place : Nat) (a b : Int) : State :=
  (crossed a b).foldl (fun s x => s.event 4 none none
    (leBytes place 1 ++ leBytes (twosOf b 8) 1 ++ leBytes x.1 1 ++ leBytes x.2 1)) s

/-- SKIP_THERMAL of a temperature (R387). -/
def skipThermalOf (t : Int) : Nat := if t < 95 then 0 else min 56 (4 * (t - 94).toNat)

/-- The cells of a tile are reloaded from its hold (R95, R388 step 4). -/
def reloadCells (t : Tile) : Tile := { t with arr := { t.arr with cells := t.arr.hold } }

/-- VLOG of a region goes off for heat (R388 step 3). -/
def State.vlogOff (s : State) (r : Nat) : State :=
  s.modPregion r (fun x => { x with thermalOff := true, heatDue := false, offSeen := true })

/-- A partition's launched contexts pause for heat on every tile (R388 step 1). -/
def State.heatPauses (s : State) (p : Nat) : State :=
  let s := s.each (fun s n =>
    if (s.ctx n).state = .running ∨ (s.ctx n).state = .paused then s.modCtx n (fun x => { x with heatPause := true }) else s)
    (ctxsOf p)
  match s.onTiles p with
  | some c => s.each (fun s i => s.modTile i askPause) (s.ctx (ctxNo p c)).sites
  | none => s

/-- A partition goes on once all its regions are below 95 °C (R388 step 4, R396). -/
def State.partCools (s : State) (p : Nat) : State :=
  if s.partHot p then s
  else
    let s := s.each (fun s n =>
      if (s.ctx n).heatPause then (s.modCtx n (fun x => { x with heatPause := false })).unpauseCtx n else s) (ctxsOf p)
    match (s.part p).switchDue with
    | some i => s.beginSwitch p i
    | none => s

/-- VLOG of a region comes back (R388 step 4, R396): the cells are reloaded, and tiles that a reset awaited are
reset. -/
def State.vlogBack (s : State) (r : Nat) : State :=
  let due := (s.pregion r).resetDue
  let s := s.modPregion r (fun x => { x with thermalOff := false, heatDue := false, resetDue := false })
  let s := if due then s.each (fun s n => s.modTile n resetTile) (regionSites r)
    else s.each (fun s n => s.modTile n reloadCells) (regionSites r)
  match s.partOfRegion r with
  | some p => s.partCools p
  | none => s

/-- The thermal trip (R389): THERMTRIP_N, a device-fatal fault and every rail off. -/
def State.trip (s : State) (kind unit : Nat) : State :=
  let s := (s.logFault (unitNote 4 0x0808 kind unit)).allOff
  { s with pins := { s.pins with tripLow := true } }

/-- A region's temperature has been read (R387, R388). -/
def State.regionRead (s : State) (r : Nat) (t : Int) : State :=
  let old := (s.pregion r).temp
  let s := s.modPregion r (fun x => { x with
    temp := t, skipThermal := skipThermalOf t, hotSeen := x.hotSeen || decide (95 ≤ t), windowTemp := max x.windowTemp t })
  let s := s.thermalEvents r old t
  let x := s.pregion r
  if 110 ≤ t ∧ !x.thermalOff ∧ !x.heatDue then
    match s.partOfRegion r with
    | some p => (s.modPregion r (fun x => { x with heatDue := true })).heatPauses p
    | none => s.vlogOff r
  else if t < 95 ∧ x.thermalOff then s.vlogBack r
  else s

/-- A region runs at SKIP_THERMAL 56 from 110 °C until its VLOG is off (R388). -/
def PwrRegion.skip (x : PwrRegion) : Nat := if x.heatDue then 56 else max x.skipPower x.skipThermal

/-- An edge group's temperature has been read (R387). -/
def State.edgeRead (s : State) (e : Nat) (t : Int) : State :=
  let old := SMap.get (0 : Int) s.pwr.edges e
  ({ s with pwr := { s.pwr with edges := SMap.set 0 s.pwr.edges e t } }).thermalEvents (20 + e) old t

/-- The greatest of some temperatures of sensors; none where none was read. -/
def hottest (ts : List (Nat × Int)) (q : Nat → Bool) : Option Int :=
  (ts.filter (fun x => q x.1)).foldl (fun m x => match m with
    | none => some x.2
    | some a => some (max a x.2)) none

end Sys2Proof.Machine
end

