-- ==== Sys2Proof/Machine/Board.lean ====
section
/-! DEFINITION. Meanings of the board rows: the input, RESET_N and the management bus (R453, R454, R513 to R526). -/

namespace Sys2Proof.Machine

/-! ### Power-up, reset and power-down (R519 to R521) -/

/-- The rails sequence up and DARK begins (R519, R520), with REFCLK running. -/
def State.railsUp (s : State) : State :=
  { s with pins := { s.pins with vlnk := true, railsOn := true, pwrgd := true, refclk := true } }.setFixedRails.setVlogs

/-- Whether the module may sequence its rails up: input in range, and not held off until it is cycled (R514, R521). -/
def State.canPower (s : State) : Bool := decide (45000 ≤ s.pins.input) && !s.pins.latchedOff

/-- INPUT_APPLIED (R520): the input was absent; the module power controller starts. -/
def execInputApplied (s : State) : Host.Outcome State Fault Refusal :=
  if s.pins.input ≠ 0 then .next s
  else
    let s := { s with pins := { s.pins with input := 50000, latchedOff := false, tripLow := false }, i3c := I3c.clear }
    .next (if s.pins.resetN then s.railsUp else s)

/-- The device after power-off (R453, R497, R521): facts, fuses and the level of RESET_N stay. -/
def State.powerOff (s : State) : State :=
  State.afterReset s.facts { Pins.unpowered with resetN := s.pins.resetN } 0 s.sec.nextSession I3c.clear s.out s.freeCtr
    s.pending

/-- INPUT_REMOVED (R385, R521): an input collapse where the module ran, then power-off. -/
def execInputRemoved (s : State) : Host.Outcome State Fault Refusal :=
  .next (if s.pins.vlnk then (s.supplyFails 0xFF).powerOff else s.powerOff)

/-- The effect of RESET_N low (R454, R519): VLNK, the input and THERMTRIP_N stay, and of the rest only
VERIFY_FAILS. A module that stays off until the input is cycled is not affected (R532). -/
def State.holdReset (s : State) : State :=
  if s.pins.latchedOff || decide (s.pins.input = 0) then { s with pins := { s.pins with resetN := false } }
  else
    State.afterReset s.facts { s.pins with resetN := false, railsOn := false, alarmLow := false } s.bring.verifyFails
      s.sec.nextSession s.i3c s.out s.freeCtr s.pending

/-- RESET_N_ASSERT (R517, R519): ignored up to 1 µs, sure from 10 µs on, and free between (log entry 25). -/
def execResetNAssert (ns : Nat) (s : State) : Host.Outcome State Fault Refusal :=
  if !s.pins.resetN ∨ ns ≤ 1000 then .next s
  else if 10000 ≤ ns then .next s.holdReset
  else
    let taken := Config.resetTaken s.freeCtr
    let s := { s with freeCtr := s.freeCtr + 1 }
    .next (if taken then s.holdReset else s)

/-- RESET_N_RELEASE (R519, R520). -/
def execResetNRelease (s : State) : Host.Outcome State Fault Refusal :=
  if s.pins.resetN then .next s
  else
    let s := { s with pins := { s.pins with resetN := true } }
    .next (if s.canPower then s.railsUp else s)

/-! ### The management bus (R524 to R526) -/

/-- Whether the target answers (R524). -/
def State.i3cAnswers (s : State) : Bool := decide (s.pins.input ≠ 0)

/-- I3C_PRIVATE_READ (R525). -/
def execI3cPrivateRead (offset len : Nat) (s : State) : Host.Outcome State Fault Refusal :=
  .next (if s.i3cAnswers then s.emit (.i3cData ((s.i3c.record.drop offset).take len)) else s)

/-- What a common command code does to the target (R524). -/
def I3c.take (x : I3c) (c : I3cCommand) : I3c := match c with
  | .setDynamicAddress a => { x with addr := some a }
  | .resetDynamicAddress => { x with addr := none }
  | .enableInterrupts on => { x with ibi := on }
  | .otherWrite => x

/-- I3C_COMMON_COMMAND (R524). -/
def execI3cCommonCommand (c : I3cCommand) (s : State) : Host.Outcome State Fault Refusal :=
  .next (if s.i3cAnswers then { s with i3c := s.i3c.take c } else s)

/-- Byte 28 of the management record (R525). -/
def pinByte (p : Pins) : Nat := flagNat p.pwrgd + 2 * flagNat p.alarmLow + 4 * flagNat p.tripLow + 8 * flagNat (!p.resetN)

/-- Byte 29 of the management record (R525). -/
def boardFlags (m : BoardData) : Nat :=
  flagNat (decide (650 < m.outlet)) + 2 * flagNat (decide (m.inlet < 150)) + 4 * flagNat (decide (m.vin < 4500))

/-- The hottest region (R525). -/
def State.hottestRegion (s : State) : Nat := (allRegions.map (fun r => (s.pregion r).temp.toNat)).foldl max 0

/-- The management record (R525). -/
def State.mgmtRecord (s : State) (m : BoardData) : List Byte :=
  let f := s.facts
  leBytes 1 2 ++ leBytes 0x0114 2 ++ leBytes f.hbmStacks 1 ++ leBytes f.linkDies 1 ++ leBytes f.grade 1 ++ zeroBytes 1
    ++ leBytes f.serial.toNat 8 ++ leBytes m.vin 2 ++ leBytes m.iin 2 ++ leBytes m.pin 2 ++ leBytes (twosOf m.inlet 16) 2
    ++ leBytes (twosOf m.outlet 16) 2 ++ leBytes (if s.pins.vlnk then s.hottestRegion else 0) 1
    ++ leBytes (if s.pins.vlnk then s.bring.phase.code else 0) 1 ++ leBytes (pinByte s.pins) 1
    ++ leBytes (boardFlags m) 1 ++ zeroBytes 2 ++ leBytes m.seconds 4 ++ zeroBytes 28

/-- Whether byte 28 or 29 of two records differs (R526). -/
def recordChanged (a b : List Byte) : Bool := decide ((a.drop 28).take 2 ≠ (b.drop 28).take 2)

/-- MANAGEMENT_RECORD_REFRESH (R525, R526). -/
def execManagementRecordRefresh (m : BoardData) (s : State) : Host.Outcome State Fault Refusal :=
  if !s.i3cAnswers then .next s
  else
    let r := s.mgmtRecord m
    let changed := recordChanged s.i3c.record r
    let s := { s with i3c := { s.i3c with record := r } }
    .next (if changed && s.i3c.ibi then s.emit .i3cInterrupt else s)

end Sys2Proof.Machine
end

