-- ==== Sys2Proof/Machine/Fabric.lean ====
section
/-! DEFINITION. Meanings of the fabric rows: link flits, training, beacons, the step collector and record
export (chapter 08). -/

namespace Sys2Proof.Machine

/-! ### The state of a trained link (R253, R254, R263) -/

/-- The FABRIC_SCALE level in effect (R6, R465): 1 without the licence. -/
def State.fabLevel (s : State) : Nat := max 1 s.bring.fabScale

/-- The state of a trained link (R263): torus links at level 1 are IDLE. -/
def State.servingState (s : State) (l : Nat) : LinkSt := if l < 6 ∧ s.fabLevel = 1 then .idle else .up

/-- SPEED and WIDTH of the modes of R253 in table order. -/
def linkModes : List (Nat × Nat) := [(0, 0), (0, 1), (0, 2), (1, 0), (1, 2)]

/-- The first mode in which every lane in use passes (R253). -/
def trainMode (r : TrainResult) : Option (Nat × Nat) :=
  ((linkModes.zip r.passes).find? (fun p => p.2)).map (fun p => p.1)

/-- Flits of a link virtual channel that a die's receive buffer still holds. -/
def Link.holds (l : Link) (vc : Nat) : Nat :=
  ((l.held.filter (fun a => decide (a.vc = vc))).map (fun a => a.flits)).sum
    + ((l.pieces.filter (fun p => decide (p.1 / 4096 = 2 * vc))).map (fun p => p.2.length / 256)).sum

/-- A link after step 4 of R254: sequence numbers and credits begin again, and what was not acknowledged is
sent again before what waits. What the receiving die still holds counts against its credit (log entry 116). -/
def Link.resync (l : Link) : Link :=
  { l with txSeq := 0, rxSeq := 0, unacked := [], queue := l.unacked ++ l.queue, askReplay := false, asks := 0,
           replayed := none, sentVc := [0, 0], limitVc := [0, 0], sentSched := [], limitSched := [],
           leftVc := [0, 1].map (fun v => 0 - BitVec.ofNat 16 (l.holds v)),
           leftSched := l.pool.map (fun x => (x.1, 0 - BitVec.ofNat 16 x.2.length)) }

/-- A link in a mode, with the delay its training measured. -/
def Link.inMode (l : Link) (m : Nat × Nat) (delay : BitVec 16) : Link :=
  { l.resync with speed := m.1, width := m.2, delay := delay }

/-- LINK_FAILED (R254, R260, R499). -/
def State.logLinkFailed (s : State) (l : Nat) : State := s.logFault (unitNote 1 0x0501 3 l)

/-- The training of a link ends (R253, R254). -/
def State.linkTrained (s : State) (l : Nat) (r : TrainResult) : State :=
  if (s.link l).state ≠ .training then s
  else match trainMode r with
  | some m => (s.modLink l (fun x => { x.inMode m r.delay with state := s.servingState l })).sendControl l
  | none => (s.modLink l (fun x => { x with state := .failed })).logLinkFailed l

/-- LINK_TRAINING (R254). -/
def execLinkTraining (link : Nat) (r : TrainResult) (s : State) : Host.Outcome State Fault Refusal :=
  if 8 ≤ link then .fault .noSuchUnit else .next (s.linkTrained link r)

/-- A retraining fails for good (R260, R271): the link is FAILED and what it held is dropped. -/
def State.linkDies (s : State) (l : Nat) : State :=
  let had := !(s.link l).unacked.isEmpty || !(s.link l).queue.isEmpty
  let s := s.modLink l (fun x => { x.resync with state := .failed, queue := [] })
  let s := s.logLinkFailed l
  if had then s.logFault { unitNote 1 0x0503 3 l with d0 := 7 } else s

/-- A link that was RETRAINING carries flits again, beginning with the credit exchange of R254. -/
def State.resumeLink (s : State) (l : Nat) : State :=
  let s := if (s.link l).state = .retraining then s.modLink l (fun x => { x with state := s.servingState l }) else s
  (s.sendControl l).pumpLink l

/-- A link retrains in service (R260, R291), after 8 failed replays of one LSEQ or because codeword lock is lost: from
step 2, and where that fails from step 1. -/
def State.linkRetrains (s : State) (l : Nat) (r : RetrainResult) : State :=
  if (s.link l).state ≠ .retraining ∧ !((s.link l).carries && r.lockLost) then s
  else
    let s := s.modLink l (fun x => { x with retrains := satAdd x.retrains 1 0xF })
    if r.quick then (s.modLink l Link.resync).resumeLink l
    else match trainMode r.full with
    | some m => (s.modLink l (fun x => x.inMode m r.full.delay)).resumeLink l
    | none => s.linkDies l

/-- LINK_RETRAIN (R260). -/
def execLinkRetrain (link : Nat) (r : RetrainResult) (s : State) : Host.Outcome State Fault Refusal :=
  if 8 ≤ link then .fault .noSuchUnit else .next (s.linkRetrains link r)

/-- CABLE_INSERTION (R532): a link in service begins to retrain; LINK_RETRAIN ends it. -/
def execCableInsertion (link : Nat) (s : State) : Host.Outcome State Fault Refusal :=
  if 8 ≤ link then .fault .noSuchUnit
  else
    let st := (s.link link).state
    .next (if st = .up ∨ st = .idle then s.modLink link (fun x => { x with state := .retraining }) else s)

/-! ### Flits (R255 to R259) -/

/-- What the FEC decoder found is counted (R255, R290). -/
def Link.countFec (l : Link) (f : LinkFlit) : Link :=
  { l with fecCorr := satAdd l.fecCorr (f.codewords.map (fun c => c.getD 0)).sum 0xFFFFFF,
           fecUncorr := satAdd l.fecUncorr (f.codewords.filter (fun c => c.isNone)).length 0xFF }

/-- A link flit is received (R255, R256, R259). One of CLASS 3 is a control flit and takes no LSEQ (R258). -/
def State.flitArrives (s : State) (l : Nat) (f : LinkFlit) : State :=
  if (s.link l).state ≠ .up then s
  else
    let s := s.modLink l (fun x => x.countFec f)
    if !s.flitBad f && decide (tagClass f.tag = 3) then s
    else if s.flitGood l f then s.acceptFlit l f else s.refuseFlit l (s.flitBad f)

/-- LINK_FLIT (R259). -/
def execLinkFlit (link : Nat) (f : LinkFlit) (s : State) : Host.Outcome State Fault Refusal :=
  if 8 ≤ link then .fault .noSuchUnit else .next (s.flitArrives link f)

/-- The flits that stay unacknowledged after a cumulative acknowledgement (R258). -/
def dropAcked (ack : BitVec 16) (q : List TxFlit) : List TxFlit :=
  if q.any (fun f => decide (f.lseq = ack)) then (q.dropWhile (fun f => decide (f.lseq ≠ ack))).drop 1 else q

/-- The credit totals of a control flit are taken (R258, R268, R275): the latest ones hold. -/
def Link.hearCredits (l : Link) (c : LinkControl) : Link :=
  { l with limitVc := [c.credits.getD 0 0, c.credits.getD 1 0],
           limitSched := c.sched.foldl (fun m p => SMap.set 0 m (p.1 % 256) p.2) l.limitSched }

/-- How often in succession a replay from a flit has been asked for, with the present request. -/
def Link.timesAsked (l : Link) (seq : BitVec 16) : Nat := match l.replayed with
  | some (q, n) => if q = seq then n + 1 else 1
  | none => 1

/-- A held flit is sent again, in the next position, with a control flit in each pilot position on the way (R257, R259). -/
def State.resend (l : Nat) (s : State) (f : TxFlit) : State :=
  let s := if (s.link l).position = 0 then s.sendControl l else s
  ((s.modLink l Link.advance).countAct f.own .linkFlit 1).emit (.linkData l f.wire)

/-- A replay request: the transmitter resends from the flit named (R259). When 8 successive replays of one LSEQ have
failed, the link retrains (R260). -/
def State.replayFrom (s : State) (l : Nat) (seq : BitVec 16) : State :=
  let again := (s.link l).unacked.dropWhile (fun f => decide (f.lseq ≠ seq))
  let n := (s.link l).timesAsked seq
  if again = [] then s
  else if 8 < n then s.modLink l (fun x => { x with state := .retraining })
  else
    let s := s.modLink l (fun x => { x with replays := satAdd x.replays 1 0xFF, replayed := some (seq, n) })
    again.foldl (State.resend l) s

/-- A link control flit is received (R256, R258); one whose LCRC is bad is lost, and the next replaces it. -/
def State.controlArrives (s : State) (l : Nat) (c : LinkControl) : State :=
  if !(s.link l).carries ∨ !c.lcrcOk ∨ tagClass c.tag ≠ 3 then s
  else
    let s := s.modLink l (fun x => { (x.hearCredits c) with unacked := dropAcked c.ack x.unacked })
    let s := match c.replay with
      | some seq => s.replayFrom l seq
      | none => s
    s.pumpLink l

/-- LINK_CONTROL_FLIT (R258). -/
def execLinkControlFlit (link : Nat) (c : LinkControl) (s : State) : Host.Outcome State Fault Refusal :=
  if 8 ≤ link then .fault .noSuchUnit else .next (s.controlArrives link c)

/-! ### Neighbours (R262) -/

/-- A fabric address with coordinate d replaced. -/
def withCoord (a : BitVec 15) (d v : Nat) : BitVec 15 :=
  let c (i : Nat) : Nat := if i = d then v else coordOf a i
  BitVec.ofNat 15 (fieldAt (c 0) 10 5 + fieldAt (c 1) 5 5 + fieldAt (c 2) 0 5)

/-- Whether a dimension's ring is closed (R263). -/
def Fab.wraps (f : Fab) (d : Nat) : Bool := if d = 0 then f.wrapX else if d = 1 then f.wrapY else f.wrapZ

/-- The neighbour that R262 expects on a torus link; none at an open end. -/
def Fab.expects (f : Fab) (l : Nat) : Option (BitVec 15) :=
  let d := l / 2
  let n := f.size d
  let c := coordOf f.self d
  if l % 2 = 0 then
    if c + 1 < n then some (withCoord f.self d (c + 1)) else if f.wraps d then some (withCoord f.self d 0) else none
  else if 0 < c then some (withCoord f.self d (c - 1))
  else if f.wraps d then some (withCoord f.self d (n - 1)) else none

/-- A torus link learns its peer's address (R262). -/
def State.peerKnown (s : State) (l : Nat) (peer : BitVec 15) : State :=
  if 6 ≤ l ∨ !(s.link l).carries then s
  else
    let s := s.modLink l (fun x => { x with peer := some peer })
    if (s.link l).state = .idle then s
    else if s.fab.expects l = some peer then s.modLink l (fun x => { x with state := .up })
    else
      (s.modLink l (fun x => { x with state := .miswired })).logFault { unitNote 1 0x0502 3 l with d0 := peer.toNat }

/-- PEER_ADDRESS_EXCHANGE (R262). -/
def execPeerAddressExchange (link : Nat) (peer : BitVec 15) (s : State) : Host.Outcome State Fault Refusal :=
  if 8 ≤ link then .fault .noSuchUnit else .next (s.peerKnown link peer)

/-! ### The tide beacon (R278 to R283) -/

/-- One tide count in the units of offsets and delays. -/
def countUnits : Int := 65536

/-- The mean of the kept delay values (R280). -/
def meanDelay (ds : List Int) : Int := ds.foldl (· + ·) 0 / Int.ofNat (max ds.length 1)

/-- DELAY of FAB_LINK_STATUS: the mean delay in units of 0.25 ns (R290). -/
def delayField (d : Int) : BitVec 16 := BitVec.ofNat 16 (min (d * 40 / countUnits).toNat 0xFFFF)

/-- t4 of R280: the tide count when a beacon arrives, with its fraction. -/
def State.arrivalOf (s : State) (b : BeaconData) : Int := Int.ofNat s.clk.tide.toNat * countUnits + Int.ofNat (b.fraction % 65536)

/-- A beacon's time stamps are kept, and a delay value when it echoes a beacon of ours (R279, R280). -/
def Link.hear (l : Link) (b : BeaconData) (arrival : Int) : Link :=
  let l := { l with lastBeacon := some (b.tTx, arrival) }
  if b.echoTx = 0 ∧ b.echoRx = 0 then l
  else
    let ds := (((arrival - b.echoTx) - (b.tTx - b.echoRx)) / 2 :: l.delays).take 16
    { l with delays := ds, delay := delayField (meanDelay ds) }

/-- The one-way delay of a link: the mean of what beacons gave, or what training measured. -/
def Link.oneWay (l : Link) : Int :=
  if l.delays = [] then Int.ofNat l.delay.toNat * countUnits / 40 else meanDelay l.delays

/-- Whether any context runs on the device. -/
def State.anyRunning (s : State) : Bool := allCtxs.any (fun n => decide ((s.ctx n).state = .running))

/-- The first tide mark after a count (R357). -/
def markAfterCount (t : Word) : Word := BitVec.ofNat 64 ((t.toNat / 4096 + 1) * 4096)

/-- The tide count is set in one step, to the whole counts; what is left over is the offset to steer away
(R281, R355). -/
def State.setTide (s : State) (units : Int) : State :=
  let t : Word := BitVec.ofNat 64 (units / countUnits).toNat
  { s with clk := { s.clk with tide := t, nextMark := markAfterCount t },
           fab := { s.fab with offset := -(units % countUnits) } }

/-- The parent's beacon (R280, R281): the offset, or at the first one the tide count itself. -/
def State.parentBeacon (s : State) (l : Nat) (b : BeaconData) : State :=
  let root := b.tTx + (s.link l).oneWay
  let first := !s.fab.beaconed
  let s := { s with fab := { s.fab with beaconSeen := true, missed := 0, beaconed := true } }
  if first && !s.fab.locked && !s.anyRunning then s.setTide root
  else
    let e := s.arrivalOf b - root
    { s with fab := { s.fab with
        offset := e, offsetLarge := s.fab.offsetLarge || decide (8 * countUnits < e) || decide (e < -(8 * countUnits)) } }

/-- A beacon arrives on a torus link (R279 to R281). -/
def State.beaconArrives (s : State) (l : Nat) (b : BeaconData) : State :=
  let st := (s.link l).state
  if 6 ≤ l ∨ (st ≠ .up ∧ st ≠ .idle) then s
  else
    let s := s.modLink l (fun x => x.hear b (s.arrivalOf b))
    if s.fab.parent = some l then s.parentBeacon l b else s

/-- BEACON (R280). -/
def execBeacon (link : Nat) (b : BeaconData) (s : State) : Host.Outcome State Fault Refusal :=
  if 8 ≤ link then .fault .noSuchUnit else .next (s.beaconArrives link b)

/-- TIDE_LOST (R283): four successive parent beacons have been missed. -/
def execTideLost (s : State) : Host.Outcome State Fault Refusal :=
  match s.fab.parent with
  | some l =>
    if s.fab.missed = 4 then
      .next (({ s with fab := { s.fab with tideLost := true, missed := 5 } }).logFault (unitNote 1 0x0504 3 l))
    else .next s
  | none => .next s

/-! ### The step collector and record export (R287 to R289) -/

/-- A little-endian field of a digest. -/
def digestField (d : List Byte) (at' n : Nat) : Nat := leNat ((d.drop at').take n)

/-- The device record of a STEP_SEQ (R288). -/
def deviceRecord (f : Fab) (c : Collect) (incomplete : Bool) : List Byte :=
  let ds := c.digests.map (fun p => p.2)
  let tags := ds.map (fun d => digestField d 4 2)
  let tag := tags.foldl min (tags.headD 0)
  let crcs := ds.flatMap (fun d => (d.drop 24).take 8)
  leBytes 1 1 ++ leBytes (flagNat f.pairSide) 1 ++ leBytes f.self.toNat 2 ++ leBytes c.part 1 ++ leBytes c.ctx 1
    ++ leBytes tag 2 ++ leBytes c.stepSeq 8 ++ leBytes ((ds.map (fun d => digestField d 56 8)).foldl max 0) 8
    ++ leBytes ds.length 2 ++ leBytes (flagNat incomplete + 2 * flagNat (tags.any (fun t => decide (t ≠ tag)))) 1
    ++ zeroBytes 1 ++ leBytes ((ds.map (fun d => digestField d 16 4)).sum) 4 ++ leBytes (crc64 crcs) 8
    ++ leBytes (sum64 (ds.map (fun d => digestField d 32 8))) 8 ++ leBytes (sum64 (ds.map (fun d => digestField d 40 8))) 8
    ++ leBytes ((ds.map (fun d => digestField d 48 8)).sum) 8

/-- VALID, BASE of FAB_EXPORT[a]. -/
def Fab.exportOn (f : Fab) (a : Nat) : Bool := if a = 0 then f.exportA else f.exportB
def Fab.exportBase (f : Fab) (a : Nat) : Nat := if a = 0 then f.baseA else f.baseB

/-- A record is lost on a port (R289). -/
def Fab.countLost (f : Fab) (a : Nat) : Fab :=
  if a = 0 then { f with lostA := satAdd f.lostA 1 0xFF } else { f with lostB := satAdd f.lostB 1 0xFF }

/-- The WRITE that carries a record (R289). -/
def recordPacket (f : Fab) (parityMode : Bool) (a : Nat) (c : Collect) (bs : List Byte) : Packet :=
  sealPacket { blankPacket with
    typ := tyWrite, last := true, rgen := f.rgen, dport := 5, ssite := BitVec.ofNat 9 (linkRouters 6).1,
    fsrc := f.self, seq := BitVec.ofNat 24 c.stepSeq, ctx := BitVec.ofNat 3 c.ctx, part := BitVec.ofNat 5 c.part,
    len := 64, addr := BitVec.ofNat 48 (f.exportBase a + 64 * (c.stepSeq % 4096)), payload := bs,
    trailer := rowTrailer 0 parityMode true none none bs }

/-- A record is sent on one server port (R289). -/
def State.exportRecord (s : State) (c : Collect) (bs : List Byte) (a : Nat) : State :=
  if !s.fab.exportOn a then s
  else if (s.link (6 + a)).state ≠ .up then { s with fab := s.fab.countLost a }
  else
    let p := recordPacket s.fab s.parityMode a c bs
    let x : Export := ⟨a, p.seq, s.clk.tide, s.net.ackTimeout⟩
    ({ s with fab := { s.fab with records := s.fab.records ++ [x] } }).linkSend (6 + a) (linkRouters (6 + a)).1 0 p

/-- The record of a STEP_SEQ is formed and sent on both ports (R288, R289). -/
def State.formRecord (s : State) (c : Collect) (incomplete : Bool) : State :=
  let s := { s with fab := { s.fab with
      collects := s.fab.collects.filter (fun x => decide (x ≠ c)), formed := s.fab.formed ++ [(c.part, c.ctx, c.stepSeq)] } }
  let bs := deviceRecord s.fab c incomplete
  (s.exportRecord c bs 0).exportRecord c bs 1

/-- Whether a timeout counted in tide counts has run (R196). -/
def State.waitedOut (s : State) (since : Word) (timeout : Nat) : Bool :=
  decide (2 ^ timeout / 16 ≤ (s.clk.tide - since).toNat)

/-- Whether every tile of the placement map has reported (R288). -/
def State.allReported (s : State) (c : Collect) : Bool :=
  (s.ctx (ctxNo c.part c.ctx)).sites.all (fun i => c.digests.any (fun d => decide (d.1 = i)))

/-- STEP_COLLECTOR_RECORD (R288). -/
def execStepCollectorRecord (stepSeq : Nat) (s : State) : Host.Outcome State Fault Refusal :=
  match s.fab.collects.find? (fun c => decide (c.stepSeq = stepSeq) && s.allReported c) with
  | some c => .next (s.formRecord c false)
  | none => .next s

/-- STEP_COLLECTOR_TIMEOUT (R288). -/
def execStepCollectorTimeout (stepSeq : Nat) (s : State) : Host.Outcome State Fault Refusal :=
  match s.fab.collects.find? (fun c => decide (c.stepSeq = stepSeq) && s.waitedOut c.since c.timeout) with
  | some c => .next (s.formRecord c true)
  | none => .next s

/-- RECORD_EXPORT_TIMEOUT (R289). -/
def execRecordExportTimeout (port : Nat) (s : State) : Host.Outcome State Fault Refusal :=
  if 2 ≤ port then .fault .noSuchUnit
  else match s.fab.records.find? (fun r => decide (r.port = port) && s.waitedOut r.since r.timeout) with
  | some r =>
    .next { s with fab := { (s.fab.countLost port) with records := s.fab.records.filter (fun x => decide (x ≠ r)) } }
  | none => .next s

end Sys2Proof.Machine
end

