-- ==== Sys2Proof/Machine/Clock.lean ====
section
/-! DEFINITION. Meanings of the clock rows: the tide mark and all that is evaluated there, the frequency
change, the loss of the root and of oscillators (chapter 11, with R371 to R385 and R278 to R283). -/

namespace Sys2Proof.Machine

/-! ### What a tide mark does -/

/-- Whether the tide clock runs: REFCLK is present and the die is out of reset with VLNK on (R354, R519). -/
def State.tideRuns (s : State) : Bool := s.pins.refclk && s.pins.resetN && s.pins.vlnk

/-- Whether a tide mark is due (R357). -/
def State.markDue (s : State) : Bool := s.tideRuns && decide (s.clk.tide = s.clk.nextMark)

/-- A pending change takes effect at the tide mark that ends its window (R362). -/
def State.endChange (s : State) : State :=
  match s.clk.change with
  | some c => { s with clk := { s.clk with bin := c.newBin, quiescent := false, change := none } }
  | none => { s with clk := { s.clk with quiescent := false } }

/-- Fields of class marked take the values written since the last mark (R375, R509). -/
def State.takeMarked (s : State) : State :=
  let s := { s with
    net := { s.net with ackTimeout := s.net.ackNext.getD s.net.ackTimeout, ackNext := none },
    hbm := { s.hbm with patrolHours := s.hbm.hoursNext.getD s.hbm.patrolHours, hoursNext := none },
    clk := { s.clk with ceiling := s.clk.ceilingNext.getD s.clk.ceiling, ceilingNext := none },
    pwr := { s.pwr with cap := s.pwr.capNext.getD s.pwr.cap, capNext := none,
                        hinted := s.pwr.hintedNext.getD s.pwr.hinted, hintedNext := none } }
  s.each (fun s p => s.modPart p (fun x => { x with quantum := x.quantumNext.getD x.quantum, quantumNext := none }))
    allParts

/-- A region's slip, stretches and firings of the interval are latched, and its frame counter restarts (R357, R368, R379,
R395). -/
def State.latchRegion (s : State) (r : Nat) : State :=
  let s := s.modCregion r (fun x => { x with
    stretches := min x.nowStretches 0xFF, slip := min x.nowSlip 0xFFFF, slipTotal := satAdd x.slipTotal x.nowSlip 0xFFFFFFFF,
    nowStretches := 0, nowSlip := 0, cycles := 0, ran := 0 })
  s.modPregion r (fun x => { x with firings := min x.nowFirings 0xFF, nowFirings := 0,
                                    surgeHold := x.surgeHold - 1, ageWait := x.ageWait - 1 })

/-- What was counted in the interval, by region: stretched periods and firings. -/
def State.intervalCounts (s : State) : List (Nat × Nat) :=
  allRegions.map (fun r => ((s.cregion r).nowStretches, (s.pregion r).nowFirings))

/-- Stack temperatures are read and the counts of R338 begin again (R324, R346). -/
def State.markStacks (s : State) (temps : List (Nat × Nat)) : State :=
  let s := s.each (fun s k => s.modStack k (fun x => { x with markUncorrected := 0 })) (List.range 24)
  temps.foldl (fun s t => if t.1 < 24 then s.modStack t.1 (fun x => { x with temp := min t.2 0xFF }) else s) s

/-! ### Power (R371, R375 to R378) -/

/-- The effective cap in W at an input voltage in mV (R371). -/
def effectiveCap (cap vin : Nat) : Nat := min cap (vin * 230 / 1000)

/-- The input is measured (R371, R395). -/
def State.measureInput (s : State) (m : MarkData) : State :=
  let eff := effectiveCap s.pwr.cap m.vin
  { s with pwr := { s.pwr with
      vin := min (m.vin / 10) 0xFFFF, iin := min m.iin 0xFFFF, pin := min (m.pin / 1000) 0xFFFF, effective := eff,
      inputLimited := decide (eff < s.pwr.cap) } }

/-- A percentage of B in mW × 100: B is 0.94 of the effective cap (R375). -/
def State.shareOf (s : State) (percent : Nat) : Nat := s.pwr.effective * 940 * percent

/-- The measurements of a region over the interval; nothing where none are given. -/
def regionMark (m : MarkData) (r : Nat) : RegionMark :=
  (m.regions.find? (fun x => decide (x.region = r))).getD ⟨r, 0, 0, false⟩

/-- The static power of a rail of a region in mW (R376, R393): the calibrated leakage at the region's temperature. -/
def State.staticOf (s : State) (r rail : Nat) : Nat :=
  if s.railOffNow rail then 0 else Config.leakage rail (s.pregion r).temp

/-- Whether a rail that drew `power` mW over the interval is over a share, in mW × 2,000, at SKIP k (R376): its static part,
and its dynamic part scaled to the cycles that were not skipped, times (64 − k)/64. `ran` of `cycles` were not skipped; with
none the dynamic part stands as it is (DESIGN CHOICE, log 120). -/
def drawOver (static power cycles ran share k : Nat) : Bool :=
  let c := if ran = 0 then 1 else cycles
  let n := if ran = 0 then 1 else ran
  decide (64 * n * share < 2000 * (64 * n * static + (power - static) * c * (64 - k)))

/-- A region's logic share in mW × 2,000 (R375, R385): with failed phases at most what the rail's limit carries. -/
def State.logicShare (s : State) (r : Nat) : Nat :=
  if (s.rail r).failed = [] then s.shareOf 64 else min (s.shareOf 64) (2000 * s.railLimit r * (s.rail r).setting)

/-- A region's memory-array share in mW × 2,000 (R375). -/
def State.memShare (s : State) : Nat := s.shareOf 12

/-- SKIP_POWER (R376): the least k from 0 to 56 that meets both shares; 56 where none does. -/
def State.skipPowerOf (s : State) (x : RegionMark) : Nat :=
  let r := x.region
  let c := s.cregion r
  ((List.range 57).find? (fun k =>
    !drawOver (s.staticOf r (railVlog r)) x.vlogPower c.cycles c.ran (s.logicShare r) k
      && !drawOver (s.staticOf r (railVmem r)) x.vmemPower c.cycles c.ran s.memShare k)).getD 56

/-- The admission fraction of a share, in mW × 100, in units of 1/65,536 (R377). -/
def admitOf (share power : Nat) : Nat :=
  if 100 * power ≤ share then 65536 else max 16384 (65536 * share / (100 * power))

/-- The shares that were over their limits in the interval, each with its kind of R375 and whether its mechanism was at full
strength (R378, R395): by the keys of Pwr.overMarks. -/
def State.overShares (s : State) (m : MarkData) : List (Nat × Nat × Bool) :=
  let full (r : Nat) : Bool := decide ((s.pregion r).skip = 56)
  let logic := (allRegions.filter (fun r => decide (s.logicShare r < 2000 * (regionMark m r).vlogPower))).map
    (fun r => (r, 0, full r))
  let arrays := (allRegions.filter (fun r => decide (s.memShare < 2000 * (regionMark m r).vmemPower))).map
    (fun r => (20 + r, 1, full r))
  logic ++ arrays
    ++ (if s.shareOf 13 < 100 * m.memIfPower then [(40, 2, decide (s.pwr.memAdmit = 16384))] else [])
    ++ (if s.shareOf 11 < 100 * m.linkPower then [(41, 3, decide (s.pwr.linkAdmit = 16384))] else [])

/-- A share has stayed over its limit for 25 tide marks at full strength (R378): CAP_UNMET is set while it stays so, and the
fault naming the kind of share is logged once. -/
def State.capUnmet (s : State) (x : Nat × Nat × Bool) : State :=
  let run := SMap.get 0 s.pwr.overMarks x.1
  let s := if 25 ≤ run then { s with pwr := { s.pwr with capUnmet := true } } else s
  if run = 25 then s.logFault { plainNote 1 0x0806 with d0 := 2 ^ x.2.1 } else s

/-- Power is evaluated (R376 to R378). -/
def State.markPower (s : State) (m : MarkData) : State :=
  let above := s.overShares m
  let runs : SMap Nat := (above.filter (fun x => x.2.2)).foldl
    (fun n x => SMap.set 0 n x.1 (SMap.get 0 s.pwr.overMarks x.1 + 1)) []
  let kinds := (List.range 4).filter (fun k => above.any (fun x => decide (x.2.1 = k)))
  let s := s.each (fun s r => s.modPregion r (fun x => { x with skipPower := s.skipPowerOf (regionMark m r) })) allRegions
  let s := { s with pwr := { s.pwr with
      sharesOver := (kinds.map (fun k => 2 ^ k)).sum, overMarks := runs, memAdmit := admitOf (s.shareOf 13) m.memIfPower,
      linkAdmit := admitOf (s.shareOf 11) m.linkPower } }
  above.foldl State.capUnmet s

/-- The drop of one rail is evaluated (R385). -/
def State.markDrop (m : MarkData) (s : State) (i : Nat) : State :=
  let e := ((m.drops.find? (fun d => decide (d.1 = i))).map (fun d => d.2)).getD 0
  let cur := ((m.currents.find? (fun d => decide (d.1 = i))).map (fun d => d.2)).getD 0
  let s := s.modRail i (fun x => { x with
    current := min cur 0xFFFF, marks15 := if 15 < e then x.marks15 + 1 else 0, marks40 := if 40 < e then x.marks40 + 1 else 0 })
  let s := if (s.rail i).marks15 = 64 then
      (s.modRail i (fun x => { x with abnormal := true })).logFault { unitNote 1 0x0801 5 i with d0 := e * 1000 }
    else s
  if (s.rail i).marks40 = 8 ∧ !(s.rail i).short then s.shortRail i else s

/-- Energy in fJ is attributed to an account (R392, R393): a context that exists, else unattributed. -/
def State.charge (s : State) (n e : Nat) : State :=
  if n < 160 ∧ (s.ctx n).state ≠ .none then
    let s := s.modCtx n (fun x => { x with energy := x.energy + e })
    { s with pwr := { s.pwr with attributed := s.pwr.attributed + e } }
  else { s with pwr := { s.pwr with unattributed := s.pwr.unattributed + e } }

/-- What has been counted is converted with the device's coefficients (R392). -/
def State.chargeCounts (s : State) : State :=
  let s := s.each State.collectSite allSites
  let cs := s.pwr.counts
  let s := cs.foldl (fun s c => s.charge (c.1 / 16) (c.2 * Config.energyOf (c.1 % 16))) s
  { s with pwr := { s.pwr with counts := [] } }

/-- The static energy of a region's good tiles over a tide interval of 40.96 µs, in equal shares (R393). -/
def State.chargeStatic (s : State) (r : Nat) : State :=
  let good := (regionSites r).filter s.siteGood
  let power := s.staticOf r (railVlog r) + s.staticOf r (railVmem r)
  s.each (fun s i => s.charge (s.tileAccount i) (power * 40960000 / good.length)) good

/-- Energy is attributed (R392 to R394). -/
def State.markEnergy (s : State) (m : MarkData) : State :=
  let s := s.chargeCounts.each State.chargeStatic allRegions
  { s with pwr := { s.pwr with
      overhead := s.pwr.overhead + m.overhead, railEnergy := s.pwr.railEnergy + m.railEnergy,
      lossEnergy := s.pwr.lossEnergy + m.lossEnergy } }

/-- The ageing monitor of a region (R374): A rises by 5 mV, at most once in 1,024 tide marks. -/
def State.markAgeing (m : MarkData) (s : State) (r : Nat) : State :=
  if (regionMark m r).slackLow ∧ (s.pregion r).ageWait = 0 then
    s.modPregion r (fun x => { x with ageing := min (x.ageing + 1) 0xFF, ageWait := 1024 })
  else s

/-! ### The die frequency (R359, R360, R374, R379, R387) -/

/-- A region's proposal and its REASON: the least of its thermal, droop and ageing limits. -/
def State.proposalOf (s : State) (r : Nat) (counts : Nat × Nat) : Nat × Nat :=
  let c := s.clk.bin
  let x := s.pregion r
  let thermal := if 95 ≤ x.temp then some (max 32 (c - 4)) else if 90 ≤ x.temp then some c else none
  let droop := if 64 < counts.2 ∨ 256 < counts.1 then some (max 32 (c - 2)) else none
  let aged := if 850 < Config.vmin r c + 5 * x.ageing + 60 then some (max 32 (c - 1)) else none
  let limits := [(thermal, 1), (droop, 2), (aged, 3)].filterMap (fun p => p.1.map (fun n => (n, p.2)))
  limits.foldl (fun a b => if b.1 < a.1 then b else a) (76, 0)

/-- Whether a region takes part in R359: its VLOG is on. -/
def State.proposes (s : State) (r : Nat) : Bool := s.vlogOn r && s.pins.railsOn

/-- Proposals are latched (R357, R369, R533). -/
def State.markProposals (s : State) (counts : List (Nat × Nat)) : State :=
  s.each (fun s r =>
    let p := if s.bring.published ∧ s.proposes r then s.proposalOf r (counts.getD r (0, 0)) else (0, 0)
    s.modCregion r (fun x => { x with proposal := p.1, reason := p.2 })) allRegions

/-- A site's fused maximum (R358). -/
def State.fusedBin (s : State) (n : Nat) : Nat := SMap.get 76 s.facts.fusedBins n
/-- A site's service maximum (R358). -/
def State.serviceBin (s : State) (n : Nat) : Nat := (s.siteRec n).serviceBin.getD (s.fusedBin n)
/-- TILE_LIMIT: the least service maximum among good tiles (R369); 0 where no tile is good. -/
def State.tileLimit (s : State) : Nat :=
  match (allSites.filter s.siteGood).map s.serviceBin with
  | [] => 0
  | b :: bs => bs.foldl min b

/-- BOOST takes effect at the first mark at which no context is launched (R465). -/
def State.markBoost (s : State) : State :=
  if 0 < s.licence 4 ∧ !allCtxs.any (fun n => (s.ctx n).launched) then { s with bring := { s.bring with boost := true } } else s

/-- The four limits of R359 in the order of BINDING. -/
def State.binLimits (s : State) : List Nat :=
  [s.clk.ceiling, if s.bring.boost then 76 else 64, if s.goodTiles = 0 then 76 else s.tileLimit,
   ((allRegions.filter s.proposes).map (fun r => (s.cregion r).proposal)).foldl min 76]

/-- The allowed bin and BINDING (R359, R369). -/
def State.allowedBin (s : State) : Nat × Nat :=
  let ls := s.binLimits
  let a := ls.foldl min 76
  (a, (ls.findIdx (fun x => decide (x = a))))

/-- A change is announced at the tide mark `m` (R362). -/
def State.announce (s : State) (m : Word) (b : Nat) : State :=
  { s with clk := { s.clk with change := some ⟨b, s.clk.bin, m⟩, target := m + 3696 } }

/-- The frequency at which a stress test runs the tiles of a bin (R318): 1.05 times theirs, rounded up, at most 2.0 GHz. -/
def stressBin (b : Nat) : Nat := min 80 (ceilDiv (105 * b) 100)

/-- The frequency that a stress test asks for at a tide mark (R318, R361). -/
def State.markStress (s : State) (m : Word) (x : Stress) : State :=
  let ask (b : Nat) : State := if s.clk.bin ≠ b ∧ s.clk.change.isNone then s.announce m b else s
  match x.stage with
  | .tuning b => ask (stressBin b)
  | .restoring => ask x.back
  | _ => s

/-- The evaluation of R359 and R360 from READY on, of R533 in COMPUTE, or of a stress test (R361). -/
def State.markFrequency (s : State) (m : Word) : State :=
  if s.bring.phase = .compute then (if s.clk.bin < 64 ∧ s.clk.change.isNone then s.announce m 64 else s)
  else if !s.bring.published then s
  else match s.stressTest with
  | some x => s.markStress m x.2
  | none =>
    let a := s.allowedBin
    let c := s.clk.bin
    let past := (a.1 :: s.clk.allowed).take 16
    let s := { s with clk := { s.clk with binding := a.2, allowed := past } }
    if s.clk.change.isSome then s
    else if a.1 < c then s.announce m a.1
    else if c < a.1 ∧ past.length = 16 ∧ past.all (fun x => decide (c < x)) then s.announce m (min a.1 (c + 4))
    else s

/-! ### Beacons at a tide mark (R279, R281, R283) -/

/-- A number as 8 bytes, with its fraction of 1/65,536 in 2 more. -/
def stampBytes (x : Int) : List Byte :=
  leBytes (twosOf (x / 65536) 64) 8 ++ leBytes (twosOf (x % 65536) 16) 2

/-- The beacon that goes out on a link (R279). -/
def State.beaconPacket (s : State) (l : Nat) : Packet :=
  let now := Int.ofNat (s.clk.tide.toNat * 65536 + Config.beaconDelay l s.markNo)
  let echo := (s.link l).lastBeacon.getD (0, 0)
  let body := stampBytes now ++ stampBytes echo.1 ++ stampBytes echo.2 ++ leBytes s.fab.depth 1
    ++ leBytes (flagNat s.fab.locked + 2 * flagNat s.fab.isRoot) 1 ++ leBytes s.fab.root.toNat 2
  sealPacket { blankPacket with
    typ := tyBeacon, rgen := s.fab.rgen, fsrc := s.fab.self, len := BitVec.ofNat 14 body.length, payload := body }

/-- Beacons leave on every trained torus link (R263, R279), in its next pilot position (R257). -/
def State.sendBeacons (s : State) : State :=
  s.each (fun s l => if (s.link l).state = .up ∨ (s.link l).state = .idle then
    (s.emit (.beacon l (s.beaconPacket l))).modLink l (fun x => { x with position := 1 }) else s)
    (List.range 6)

/-- LOCKED is followed (R281), and a mark without a parent beacon counted (R283). -/
def State.markTide (s : State) : State :=
  let f := s.fab
  let near := decide (f.offset < 8192) && decide (-8192 < f.offset)
  let follows := f.isRoot || (f.parent.isSome && f.beaconed)
  let n := if follows && near then min (f.lockMarks + 1) 64 else 0
  let missed := if f.parent.isSome && f.beaconed && !f.beaconSeen && decide (f.missed < 4) then f.missed + 1 else f.missed
  { s with fab := { f with lockMarks := n, locked := decide (n = 64), missed := missed, beaconSeen := false } }

/-- Heavy phases that have ended are forgotten, and the class in force is shown (R383). -/
def State.markPhases (s : State) : State :=
  let k := s.markNo
  let ps := SMap.mapAll [] (fun _ hs => hs.filter (fun h => decide (k < h.start + h.dur))) s.pwr.phases
  let s := { s with pwr := { s.pwr with phases := ps } }
  s.each (fun s r => s.modPregion r (fun x => { x with heavy := s.heavyNow r })) allRegions

/-- The work of one tide mark, in order. -/
def State.takeMark (s : State) (d : MarkData) : State :=
  let m := s.clk.nextMark
  let counts := s.intervalCounts
  let s := { s with clk := { s.clk with nextMark := m + 4096 } }
  let s := s.endChange.takeMarked
  let s := s.each State.latchRegion allRegions
  let s := (s.markStacks d.stackTemps).measureInput d
  let s := (s.markPower d).markEnergy d
  let s := s.each (State.markAgeing d) allRegions
  let s := s.each (State.markDrop d) (List.range 45)
  let s := ((s.markBoost.markProposals counts).markFrequency m).markPhases
  (s.setVlogs.sendBeacons).markTide

/-- TIDE_MARK (R357): accepted when a tide mark is due. -/
def execTideMark (m : MarkData) (s : State) : Host.Outcome State Fault Refusal :=
  .next (if s.markDue then s.takeMark m else s)

/-! ### The frequency change (R362, R363) -/

/-- A rise whose VLOG is late is cancelled at T − 400 (R362). -/
def State.cancelRise (s : State) (late : List Nat) : State :=
  match s.clk.change with
  | some c =>
    if c.oldBin < c.newBin ∧ s.clk.tide + 400 = s.clk.target ∧ late ≠ [] then
      let s := { s with clk := { s.clk with change := none, riseCancelled := true } }
      s.setVlogs.logFault { plainNote 0 0x0702 with d0 := c.newBin }
    else s
  | none => s

/-- RISE_CANCELLED (R362). -/
def execRiseCancelled (late : List Nat) (s : State) : Host.Outcome State Fault Refusal := .next (s.cancelRise late)

/-- QUIESCENT_START (R362, R363): at T every region gates its clocks. -/
def execQuiescentStart (s : State) : Host.Outcome State Fault Refusal :=
  .next (if s.clk.change.isSome ∧ s.clk.tide = s.clk.target then { s with clk := { s.clk with quiescent := true } } else s)

/-! ### Failures of clocks (R350, R351) -/

/-- REFCLK_LOST (R351, R370): device-fatal in any state. In DARK it is logged, and the device halts as DARK ends (R468);
before the release of RESET_N it is not yet stable, and bring-up finds that (R455). -/
def execRefclkLost (s : State) : Host.Outcome State Fault Refusal :=
  if !s.pins.refclk ∨ !s.pins.vlnk ∨ !s.pins.resetN then .next { s with pins := { s.pins with refclk := false } }
  else
    let s := { s with pins := { s.pins with refclk := false }, clk := { s.clk with refOk := false } }
    .next (if s.bring.phase = .dark then s.newEntry (plainNote 4 0x0703) else s.logFault (plainNote 4 0x0703))

/-- OSC_FAILED (R350). -/
def State.oscFails (s : State) (r : Nat) : State :=
  if !s.clk.meshLocked ∨ (s.cregion r).oscFailed then s
  else (s.modCregion r (fun x => { x with oscFailed := true })).logFault (unitNote 1 0x0701 1 r)

/-- OSC_FAILED (R350). -/
def execOscFailed (region : Nat) (s : State) : Host.Outcome State Fault Refusal :=
  if 20 ≤ region then .fault .noSuchUnit else .next (s.oscFails region)

end Sys2Proof.Machine
end

