-- ==== Sys2Proof/Machine/LaunchOps.lean ====
section
/-! DEFINITION. Stowage plans: how LAUNCH reads one, the checks of R422 in order, the rules of circuits and
channel entries (R121, R191, R207, R216 to R218, R274, R303, R418, R419, R421), and the steps of R423. -/

namespace Sys2Proof.Machine

/-! ### Reading a plan (R421) -/

/-- A field of `n` bytes of a byte string. -/
def fieldBytes (bs : List Byte) (o n : Nat) : Nat := leNat ((bs.drop o).take n)

/-- Whether a run of bytes is zero. -/
def allZero (bs : List Byte) (o n : Nat) : Bool := ((bs.drop o).take n).all (fun b => decide (b = 0))

/-- A placement record (R421); only descriptors flagged VALID are in use. -/
def parsePlace (bs : List Byte) : PlaceRec :=
  let m := fieldBytes bs 2 1
  let w := fieldBytes bs 3 1
  let moor (i : Nat) : Moor := moorOfWord (fieldBytes bs (16 + 8 * i) 8)
  let run (i : Nat) : Nat × Nat :=
    (bitsOf (fieldBytes bs (144 + 4 * i) 4) 0 12, bitsOf (fieldBytes bs (144 + 4 * i) 4) 16 12)
  { site := fieldBytes bs 0 2, entry := fieldBytes bs 4 4,
    moors := ((List.range (min m 16)).map moor).filter (fun x => x.valid), work := (List.range (min w 16)).map run,
    good := decide (m ≤ 16) && decide (w ≤ 16) && allZero bs 8 8 && allZero bs 208 48 }

/-- A circuit record (R421). -/
def parseCircuit (bs : List Byte) : CircuitRec :=
  { site := fieldBytes bs 0 2, entry := fieldBytes bs 2 1, value := BitVec.ofNat 64 (fieldBytes bs 8 8),
    slots := BitVec.ofNat 64 (fieldBytes bs 16 8) }

/-- A load record (R421). -/
def parseLoad (bs : List Byte) : LoadRec :=
  let row := fieldBytes bs 16 4
  let len := fieldBytes bs 20 4
  { site := fieldBytes bs 0 2, once := bitOf (fieldBytes bs 2 1) 0, src := fieldBytes bs 8 8, row := row, len := len,
    good := decide (fieldBytes bs 2 1 < 2) && allZero bs 3 5 && allZero bs 24 8 && decide (len % 256 = 0)
      && decide (row + len / 256 ≤ rowCount) }

/-- Records of a size at an offset. -/
def recordsAt (bs : List Byte) (off count size : Nat) : List (List Byte) :=
  (List.range count).map (fun i => (bs.drop (off + i * size)).take size)

/-- Whether an offset and a count of records lie in the plan. -/
def recordsFit (length off count size : Nat) : Bool := decide (off % 8 = 0) && decide (off + count * size ≤ length)

/-- A plan from its bytes (R421). -/
def parsePlan (addr : Nat) (bs : List Byte) : Plan :=
  let length := fieldBytes bs 16 8
  let f (o : Nat) : Nat := fieldBytes bs o 4
  let places := recordsAt bs (f 24) (f 28) 256
  let circuits := recordsAt bs (f 32) (f 36) 24
  let chans := recordsAt bs (f 40) (f 44) 72
  let loads := recordsAt bs (f 48) (f 52) 32
  let fits := recordsFit length (f 24) (f 28) 256 && recordsFit length (f 32) (f 36) 24
    && recordsFit length (f 40) (f 44) 72 && recordsFit length (f 48) (f 52) 32
  let head := decide (fieldBytes bs 0 4 = 0x574F5453) && decide (fieldBytes bs 4 2 = 1)
    && decide (1 ≤ fieldBytes bs 6 2) && decide (fieldBytes bs 6 2 ≤ 480) && decide (f 28 = fieldBytes bs 6 2)
    && allZero bs 56 196
  let chk := decide (fieldBytes bs 252 4 = crc32c (bs.take 252 ++ zeroBytes 4 ++ bs.drop 256))
  if head && fits then
    let ps := places.map parsePlace
    let ls := loads.map parseLoad
    { addr := addr, start := BitVec.ofNat 64 (fieldBytes bs 8 8), length := length, places := ps,
      circuits := circuits.map parseCircuit, chans := chans.map (fun c => (fieldBytes c 0 4, (c.drop 8).take 64)), loads := ls,
      good := chk && ps.all (fun p => p.good) && circuits.all (fun c => allZero c 3 5)
        && chans.all (fun c => allZero c 4 4)
        && ls.all (fun l => l.good && ps.any (fun p => decide (p.site = l.site))) }
  else
    { addr := addr, start := 0, length := length, places := [], circuits := [], chans := [], loads := [], good := false }

/-- What reading a plan gave: the state, and the plan or the status of the failure (R422, first two rows). -/
structure PlanRead where
  st : State
  plan : Option Plan
  status : Nat

/-- Read a plan from the partition's memory (R422): what of it lies in the mapping is read first, then the mapping itself and
what was read are checked. -/
def State.readPlan (s : State) (p addr : Nat) : PlanRead :=
  let part := s.part p
  let n := part.mappedLen addr 256
  let h := s.readMapped part addr n
  match h.bytes with
  | none => ⟨h.st, none, stFaulted⟩
  | some head =>
    let length := fieldBytes head 16 8
    if n < 256 ∨ fieldBytes head 0 4 ≠ 0x574F5453 ∨ length < 256 then ⟨h.st, none, stBadParam⟩
    else
      let r := h.st.readMapped part addr (part.mappedLen addr length)
      match r.bytes with
      | none => ⟨r.st, none, stFaulted⟩
      | some bs =>
        let plan := parsePlan addr bs
        if bs.length = length ∧ plan.good then ⟨r.st, some plan, stOk⟩ else ⟨r.st, none, stBadParam⟩

/-! ### Sites (R422) -/

/-- REGION_DOWN of R457: the region's VLOG or VMEM is latched off for a short. -/
def State.regionDown (s : State) (r : Nat) : Bool := (s.rail (railVlog r)).off || (s.rail (railVmem r)).off

/-- The first failure among the sites of a plan (R422, R462): BAD_PARAM, or RETIRED_TILE for a retired site. -/
def State.sitesStatus (s : State) (inside : List Nat) : List Nat → List Nat → Nat
  | _, [] => stOk
  | seen, n :: r =>
    if !inside.contains n || seen.contains n then stBadParam
    else if (s.siteRec n).status = 3 then stRetiredTile
    else if !s.siteGood n || s.regionDown (regionOf n) then stBadParam
    else s.sitesStatus inside (n :: seen) r

/-! ### Scratchpad layout (R121, R219, R305, R417) -/

/-- Whether runs of slabs share a slab. -/
def runsMeet (a b : Nat × Nat) : Bool :=
  decide (0 < a.2) && decide (0 < b.2) && decide (a.1 < b.1 + b.2) && decide (b.1 < a.1 + a.2)

/-- The run of a descriptor. -/
def Moor.run (m : Moor) : Nat × Nat := (m.first.toNat, m.count.toNat)

/-- Whether no two runs of a list share a slab. -/
def runsApart : List (Nat × Nat) → Bool
  | [] => true
  | a :: r => r.all (fun b => !runsMeet a b) && runsApart r

/-- The runs that every context works in: the receive-queue area and at levels 2 and 3 the check area. -/
def fixedRuns (level : Nat) : List (Nat × Nat) := if 2 ≤ level then [(3547, 35), (3582, 2)] else [(3582, 2)]

/-- Slabs of one tile's working runs, each counted once. -/
def workSlabs (runs : List (Nat × Nat)) (level : Nat) : Nat :=
  ((List.range 3584).filter (workSlab runs (BitVec.ofNat 2 level))).length

/-- The check level at which a launched context runs: its partition's at LAUNCH (R302). -/
def State.ctxLevel (s : State) (n : Nat) : Nat := ((s.ctx n).launch.map (fun l => l.level)).getD 0

/-- The moored runs of other contexts on a site: descriptors set, and those of launches still LOADING. -/
def State.otherMoors (s : State) (p c site : Nat) : List Moor :=
  let set := ((s.tile site).spad.moors.map (fun m => m.2)).filter (fun m => m.valid && decide (m.ctx.toNat ≠ c))
  let due := (ctxsOf p).flatMap (fun n =>
    if n = ctxNo p c ∨ (s.ctx n).state ≠ .loading then []
    else match (s.ctx n).launch with
    | some l => (l.plan.places.filter (fun r => decide (r.site = site))).flatMap (fun r => r.moors)
    | none => [])
  set ++ due

/-- The working runs of other launched contexts on a site. -/
def State.otherWork (s : State) (p c site : Nat) : List (Nat × Nat) :=
  (ctxsOf p).flatMap (fun n =>
    if n = ctxNo p c ∨ !(s.ctx n).sites.contains site then []
    else (s.ctx n).runsAt site ++ fixedRuns (s.ctxLevel n))

/-- Whether one tile's layout passes (R121, R219, R305, R417, R422). -/
def State.layoutOk (s : State) (p c : Nat) (r : PlaceRec) : Bool :=
  let level := (s.part p).level
  let mine := r.moors.map Moor.run
  let others := s.otherMoors p c r.site
  let inSpad (x : Nat × Nat) : Bool := decide (1 ≤ x.2) && decide (x.1 + x.2 ≤ 3584)
  let clear (xs ys : List (Nat × Nat)) : Bool := xs.all (fun x => ys.all (fun y => !runsMeet x y))
  mine.all inSpad && r.work.all inSpad && runsApart mine && clear mine (fixedRuns level) && clear mine r.work
    && decide (r.moors.length + others.length ≤ 16) && clear mine (others.map Moor.run)
    && clear mine (s.otherWork p c r.site) && clear (r.work ++ fixedRuns level) (others.map Moor.run)

/-! ### Routable pairs (R24, R191, R192) -/

/-- The routers of fitted attachments (R21, R24). -/
def State.attachRouters (s : State) : List Nat :=
  ((List.range 24).filter (stackFitted s.facts)).flatMap (fun k => [(stackRouters k).1, (stackRouters k).2])
    ++ ((List.range 8).filter (linkFitted s.facts)).flatMap (fun l => [(linkRouters l).1, (linkRouters l).2])
    ++ (List.range 4).map ucieRouter

/-- Whether every pair of a plan's sites, and of a site and an attachment, is routable (R192). -/
def State.pairsOk (s : State) (sites : List Nat) : Bool :=
  sites.all (fun a => sites.all (s.routable a) && s.attachRouters.all (s.routable a))

/-! ### Circuits (R207, R211, R274) -/

/-- A record's value under its owner (R421, R443); the reserved bits 54 to 10 read as zero (R207). -/
def ownedValue (p c : Nat) (v : Word) : Word :=
  BitVec.ofNat 64 (v.toNat % 2 ^ 10 + fieldAt c 55 3 + fieldAt p 58 5 + fieldAt (flagNat (bitOf v.toNat 63)) 63 1)

/-- Write one circuit record; a value with VALID 0 clears the entry (R443). -/
def State.writeCircuit (p c : Nat) (s : State) (r : CircuitRec) : State :=
  s.modRouter r.site (fun x =>
    if bitOf r.value.toNat 63 then
      { x with circuits := SMap.set 0 x.circuits r.entry (ownedValue p c r.value),
               slots := SMap.set 0 x.slots r.entry r.slots }
    else { x with circuits := SMap.drop r.entry x.circuits, slots := SMap.drop r.entry x.slots })

/-- Write circuit records in order. -/
def State.writeCircuits (s : State) (p c : Nat) (rs : List CircuitRec) : State := rs.foldl (State.writeCircuit p c) s

/-- The output ports of a circuit value. -/
def outPorts (v : Word) : List Nat := (List.range 7).filter (bitOf v.toNat)

/-- Whether a router has a port with something fitted behind it (R21, R24, R179). DESIGN CHOICE (log 118): a mesh port of a
router on the die's edge, behind which no router lies, counts as absent. -/
def State.portStands (s : State) (site port : Nat) : Bool :=
  if port = 4 then true
  else if port < 4 then (neighbour site port).isSome
  else decide (port < 7) && s.attachFitted (attachAt site port)

/-- Valid entries of a router: index, value and slots. -/
def Router.valid (r : Router) : List (Nat × Word × Word) :=
  (r.circuits.filter (fun x => bitOf x.2.toNat 63)).map (fun x => (x.1, x.2, SMap.get 0 r.slots x.1))

/-- Whether two entries may never run together: different contexts of one partition (R207). -/
def neverTogether (a b : Word) : Bool :=
  decide (bitsOf a.toNat 58 5 = bitsOf b.toNat 58 5) && decide (bitsOf a.toNat 55 3 ≠ bitsOf b.toNat 55 3)

/-- Whether one entry of a router obeys R207 on its own. -/
def State.entryOk (s : State) (site : Nat) (v slots : Word) : Bool :=
  let out := outPorts v
  let inp := bitsOf v.toNat 7 3
  !bitOf slots.toNat 0 && !bitOf slots.toNat 32 && decide (out ≠ []) && !out.contains inp
    && out.all (s.portStands site) && s.portStands site inp && !s.bypassed site

/-- Slots that entries own at an output. -/
def ownedSlots (es : List (Nat × Word × Word)) (port : Nat) : Nat :=
  (es.filter (fun e => bitOf e.2.1.toNat port)).foldl (fun a e => a ||| e.2.2.toNat) 0

/-- Number of slots in a mask. -/
def slotCount (m : Nat) : Nat := ((List.range 64).filter (bitOf m)).length

/-- Whether the entries of one router obey R207 together. -/
def State.routerCircuitsOk (s : State) (site : Nat) : Bool :=
  let es := (s.router site).valid
  es.all (fun e => s.entryOk site e.2.1 e.2.2)
    && es.all (fun a => es.all (fun b =>
        decide (a.1 = b.1) || neverTogether a.2.1 b.2.1 || decide (a.2.1.toNat % 128 &&& (b.2.1.toNat % 128) = 0)
          || decide (a.2.2.toNat &&& b.2.2.toNat = 0)))
    && (List.range 7).all (fun q => decide (slotCount (ownedSlots es q) ≤ 60))

/-- The mode of a link as a fraction of the full link flit rate (R253): numerator over 8. -/
def Link.rate (l : Link) : Nat :=
  if l.speed = 0 then (if l.width = 0 then 8 else if l.width = 1 then 6 else 4) else if l.width = 0 then 4 else 2

/-- The highest bin that the device may run while a plan runs (R274). -/
def State.planBin (s : State) : Nat :=
  if s.bring.boost then ((allSites.filter s.siteGood).map s.fusedBin).foldl min 76 else 64

/-- The greatest number of slots owned at a link die's attachment ports (R274): with C = 4,000 times the
rate over the bin, floor of C × 31 / 32, less 2. -/
def linkBudget (rate bin : Nat) : Nat := 4000 * rate * 31 / (8 * bin * 32) - 2

/-- Whether a link die keeps its budget (R274). -/
def State.linkBudgetOk (s : State) (l : Nat) : Bool :=
  let own (site : Nat) : Nat := slotCount (ownedSlots (s.router site).valid 5)
  let used := own (linkRouters l).1 + own (linkRouters l).2
  decide (used = 0) || decide (used ≤ linkBudget (s.link l).rate s.planBin)

/-- Whether circuit records, once written, obey R207 and R274. -/
def State.circuitsOk (s : State) (p c : Nat) (rs : List CircuitRec) : Bool :=
  let t := s.writeCircuits p c rs
  rs.all (fun r => decide (r.site < 480))
    && rs.all (fun r => t.routerCircuitsOk r.site && (!bitOf r.value.toNat 63 || !s.bypassed r.site))
    && (List.range 8).all t.linkBudgetOk

/-- Whether an entry index that records need is owned by another context (R211). -/
def State.circuitsTaken (s : State) (p c : Nat) (rs : List CircuitRec) : Bool :=
  rs.any (fun r =>
    let v := SMap.get 0 (s.router r.site).circuits r.entry
    bitOf v.toNat 63 && !circuitOf p (some c) v)

/-- The sites to which a circuit delivers, followed from a router that its flits reach through a port;
`n` bounds the hops. -/
def State.circuitSites (s : State) (p c entry : Nat) : Nat → Nat → Nat → List Nat
  | 0, _, _ => []
  | n + 1, site, inp =>
    let v := SMap.get 0 (s.router site).circuits entry
    if circuitOf p (some c) v ∧ bitsOf v.toNat 7 3 = inp then
      (outPorts v).flatMap (fun q =>
        if q = 4 then [site]
        else match s.nextRouter q 30 site with
        | some m => s.circuitSites p c entry n m (opposite q)
        | none => [])
    else []

/-! ### Channel entries (R215 to R218) -/

/-- The senders of an entry (R216). -/
def sendersOf (sites : List Nat) (e : ChEntry) : List Nat := sites.filter (isSender sites e)

/-- The receivers of an entry (R216). -/
def State.receiversOf (s : State) (p c : Nat) (sites : List Nat) (e : ChEntry) : List Nat :=
  if e.kind = 2 then
    match sendersOf sites e with
    | a :: _ => s.circuitSites p c e.circ.toNat 48 a 4
    | [] => []
  else [e.rsite.toNat]

/-- Whether an entry is open or draining. -/
def ChEntry.live (e : ChEntry) : Bool := decide (e.state = 1) || decide (e.state = 2)

/-- Whether an entry passes R217 for a placement of the context it names. -/
def State.entryPasses (s : State) (p : Nat) (sites : List Nat) (e : ChEntry) : Bool :=
  let c := e.ctx.toNat
  let senders := sendersOf sites e
  if e.state = 0 then e.good
  else
    e.good && decide (e.state ≠ 3) && decide (e.kind ≠ 3) && decide (e.part.toNat = p)
      && decide ((s.ctx (ctxNo p c)).state ≠ .none) && decide (1 ≤ e.maxlen.toNat) && decide (e.maxlen.toNat ≤ 1024)
      && decide (slotsOf e.maxlen.toNat ≤ e.credits.toNat) && decide (e.credits.toNat ≤ 32)
      && decide (e.sx0.toNat ≤ e.sx1.toNat) && decide (e.sx1.toNat ≤ 15) && decide (e.sy0.toNat ≤ e.sy1.toNat)
      && decide (e.sy1.toNat ≤ 29) && decide (senders ≠ []) && (decide (e.kind = 1) || decide (senders.length = 1))
      && (!e.ctrl || (decide (e.maxlen.toNat ≤ 128) && decide (e.kind ≠ 2)))
      && (if e.kind = 2 then
            decide (e.fanout.toNat = (s.receiversOf p c sites e).length) && decide (1 ≤ e.fanout.toNat)
              && decide (e.fanout.toNat ≤ 32)
          else sites.contains e.rsite.toNat && decide (e.circ = 0) && decide (e.fanout = 0))

/-- The budgets of R218 on every tile of a placement, over the live entries of its context. -/
def State.budgetsOk (s : State) (p c : Nat) (sites : List Nat) (es : List ChEntry) : Bool :=
  let live := (es.filter (fun e => e.live && decide (e.ctx.toNat = c))).map (fun e =>
    (s.receiversOf p c sites e, e.rqueue.toNat, e.credits.toNat, (sendersOf sites e).length))
  sites.all (fun t =>
    let here := live.filter (fun x => x.1.contains t)
    decide ((here.map (fun x => x.2.2.2)).sum ≤ 512)
      && (List.range 16).all (fun q =>
          decide (((here.filter (fun x => decide (x.2.1 = q))).map (fun x => x.2.2.1 * x.2.2.2)).sum ≤ 32)))

/-- A channel table read whole, entry by entry; an entry whose read fails is none (R214). -/
structure TableRead where
  st : State
  entries : List (Option ChEntry)

/-- Read entries of the channel table from an index on (R214). -/
def State.readTable (s : State) (p base first : Nat) : Nat → TableRead
  | 0 => ⟨s, []⟩
  | n + 1 =>
    let r := s.readMapped (s.part p) (base + 64 * first) 64
    let rest := r.st.readTable p base (first + 1) n
    ⟨rest.st, (r.bytes.map parseEntry) :: rest.entries⟩

/-- The entries of a table after channel records. -/
def withRecords (es : List (Option ChEntry)) (rs : List (Nat × List Byte)) : List (Option ChEntry) :=
  rs.foldl (fun es r => es.set r.1 (some (parseEntry r.2))) es

/-- What the channel checks of a launch gave. -/
structure ChanCheck where
  st : State
  status : Nat

/-- The channel checks of R422, under the circuits of the plan: `t` is the state with those written. -/
def State.chanCheck (s t : State) (p c : Nat) (plan : Plan) (sites : List Nat) : ChanCheck :=
  let part := s.part p
  if part.chCount = 0 then ⟨s, if plan.chans = [] then stOk else stDenied⟩
  else
    let r := s.readTable p part.chBase 0 part.chCount
    let heldOpen (i : Nat) : Bool := match r.entries.getD i none with
      | some e => decide (e.state = 1) && decide (e.ctx.toNat ≠ c)
      | none => false
    if plan.chans.any (fun x => decide (part.chCount ≤ x.1) || heldOpen x.1) then ⟨r.st, stBadParam⟩
    else
      let es := withRecords r.entries plan.chans
      let own := es.filter (fun e => match e with
        | some e => decide (e.ctx.toNat = c)
        | none => true)
      let named := plan.chans.map (fun x => some (parseEntry x.2))
      let pass (e : Option ChEntry) : Bool := match e with
        | some e => t.entryPasses p sites e && decide (e.ctx.toNat = c)
        | none => false
      if (own ++ named).all pass && t.budgetsOk p c sites (own.filterMap id) then ⟨r.st, stOk⟩ else ⟨r.st, stBadParam⟩

/-! ### Volumes and save areas (R418, R419) -/

/-- The switch volume of a plan at a check level (R418). -/
def planVolume (plan : Plan) (level : Nat) : Nat :=
  2228224 * plan.places.length + slabSize * (plan.places.map (fun r => workSlabs r.work level)).sum

/-- The budget of R418. -/
def State.switchBudget (s : State) : Nat := s.stacksInService.length * 2232000000

/-- Whether a partition holds a context beside one. -/
def State.holdsOther (s : State) (p c : Nat) : Bool :=
  (ctxsOf p).any (fun n => decide (n ≠ ctxNo p c) && decide ((s.ctx n).state ≠ .none))

/-- The lowest free bands of a stack, at most `n`. -/
def State.lowestFree (s : State) (k n : Nat) : List (Nat × Nat) :=
  (((List.range bandCount).filter (fun b => !s.bandTaken 20 k b)).take n).map (fun b => (k, b))

/-- A save area for a volume (R419): as many free bands of every stack in service as its stripes fill; none
where they are too few. -/
def State.saveAreaFor (s : State) (volume : Nat) : Option (List (Nat × Nat)) :=
  let ks := s.stacksInService
  let n := ceilDiv (ceilDiv volume 4096) (max ks.length 1)
  let need := ceilDiv (n * 4096) bandSize
  let per := ks.map (fun k => s.lowestFree k need)
  if ks ≠ [] ∧ per.all (fun b => decide (b.length = need)) then some per.flatten else none

/-! ### The checks of LAUNCH (R422) -/

/-- What the checks of LAUNCH gave: the plan with its save area and volume, or the status of the first
failure. -/
structure LaunchCheck where
  st : State
  plan : Option (Plan × List (Nat × Nat) × Nat)
  status : Nat

/-- The checks of R422 after the plan has been read, in the order of its table. -/
def State.checkPlan (s : State) (p c : Nat) (plan : Plan) : LaunchCheck :=
  let sites := plan.places.map (fun r => r.site)
  let level := (s.part p).level
  let bad (st : Nat) : LaunchCheck := ⟨s, none, st⟩
  let siteSt := s.sitesStatus (s.partSites p) [] sites
  if 1 < s.fab.sx * s.fab.sy * s.fab.sz ∧ !s.fab.locked then bad stBusy
  else if siteSt ≠ stOk then bad siteSt
  else if !plan.places.all (s.layoutOk p c) then bad stBadParam
  else if !s.pairsOk sites then bad stBadParam
  else if !s.circuitsOk p c plan.circuits then bad stBadParam
  else if s.circuitsTaken p c plan.circuits then bad stBusy
  else
    let ch := s.chanCheck (s.writeCircuits p c plan.circuits) p c plan sites
    let s := ch.st
    let bad (st : Nat) : LaunchCheck := ⟨s, none, st⟩
    let v := planVolume plan level
    if ch.status ≠ stOk then bad ch.status
    else if 2 ≤ level ∧ sites.length = 1 then bad stBadParam
    else if s.holdsOther p c ∧ s.switchBudget < v then bad stBadParam
    else match s.saveAreaFor v with
    | none => bad stBusy
    | some area => ⟨s, some (plan, area, v), stOk⟩

/-- The checks of a LAUNCH (R422). -/
def State.checkLaunch (s : State) (p c addr : Nat) : LaunchCheck :=
  let r := s.readPlan p addr
  match r.plan with
  | some plan => r.st.checkPlan p c plan
  | none => ⟨r.st, none, r.status⟩

/-! ### The steps of LAUNCH (R423) -/

/-- Step 1: channel records are written into the installed table. -/
def State.writeChans (s : State) (p : Nat) (rs : List (Nat × List Byte)) : State :=
  rs.foldl (fun s r => (s.writeMapped (s.part p) ((s.part p).chBase + 64 * r.1) r.2).st) s

/-- The descriptors that a plan gives a site under its context. -/
def plannedMoors (plan : Plan) (c site : Nat) : List Moor :=
  (plan.places.filter (fun r => decide (r.site = site))).flatMap (fun r =>
    r.moors.map (fun m => { m with ctx := BitVec.ofNat 3 c }))

/-- A context's present descriptors on a tile, by index. -/
def moorsOf (t : Tile) (c : Nat) : List Moor :=
  (t.spad.moors.map (fun m => m.2)).filter (fun m => m.valid && decide (m.ctx.toNat = c))

/-- Put descriptors into the lowest free indices. -/
def setMoors (t : Tile) (ms : List Moor) : Tile :=
  let free := (List.range 16).filter (fun i => !(SMap.get Moor.none t.spad.moors i).valid)
  { t with spad := { t.spad with
      moors := (free.zip ms).foldl (fun m x => SMap.set Moor.none m x.1 x.2) t.spad.moors } }

/-- Whether the moored layout of every tile of a partition is the context's present one (R423 step 3). -/
def State.layoutKept (s : State) (p c : Nat) (plan : Plan) : Bool :=
  (s.partSites p).all (fun i => decide (moorsOf (s.tile i) c = plannedMoors plan c i))

/-- Step 3: the context's old moored areas are zeroed and the new descriptors set. -/
def State.remoor (s : State) (p c : Nat) (plan : Plan) : State :=
  s.each (fun s i => s.modTile i (fun t => setMoors (unmoor c t) (plannedMoors plan c i))) (s.partSites p)

/-- Whether a row of a tile belongs to a moored area of a context. -/
def ownMoorRow (t : Tile) (c row : Nat) : Bool :=
  t.spad.moors.any (fun m => m.2.covers row && decide (m.2.ctx.toNat = c))

/-- Whether a row of a tile belongs to a moored area of another context. -/
def foreignRow (t : Tile) (c row : Nat) : Bool :=
  t.spad.moors.any (fun m => m.2.covers row && decide (m.2.ctx.toNat ≠ c))

/-- Rows of a load with their bytes. -/
def loadRows (row : Nat) (bs : List Byte) : List (Nat × List Byte) :=
  (List.range (bs.length / 256)).map (fun i => (row + i, (bs.drop (256 * i)).take 256))

/-- Write load rows into a tile whose rows pass a test. -/
def putRows (parityMode : Bool) (q : Nat → Bool) (rows : List (Nat × List Byte)) (t : Tile) : Tile :=
  { t with spad := t.spad.writeAll parityMode ((rows.filter (fun r => q r.1)).map (fun r => (r.1 * 256, r.2))) }

/-- A load record's bytes reach its tile (R423 step 4): moored rows and, where the context's tiles are free, all
rows go to the tile itself; other rows of a READY context go to its saved tile. Rows that another context moors
are left. -/
def State.putLoad (s : State) (n : Nat) (l : LoadRec) (bs : List Byte) : State :=
  let c := n % 8
  let rows := loadRows l.row bs
  let live := s.tile l.site
  match SMap.get none (s.ctx n).saved l.site with
  | none => s.modTile l.site (putRows s.parityMode (fun r => !foreignRow live c r) rows)
  | some snap =>
    let s := s.modTile l.site (putRows s.parityMode (ownMoorRow live c) rows)
    let snap := putRows s.parityMode (fun r => !ownMoorRow live c r && !foreignRow live c r) rows snap
    s.modCtx n (fun x => { x with saved := SMap.put l.site (some snap) x.saved })

/-- What copying the load records did. -/
structure LoadRun where
  st : State
  ok : Bool

/-- Step 4: load records are copied in order; a read that fails ends the launch. -/
def State.runLoads (s : State) (n : Nat) (skipOnce : Bool) : List LoadRec → LoadRun
  | [] => ⟨s, true⟩
  | l :: r =>
    if skipOnce && l.once then s.runLoads n skipOnce r
    else
      let part := s.part (n / 8)
      let res := s.readMapped part l.src l.len
      match res.bytes with
      | none => ⟨res.st, false⟩
      | some bs => (res.st.putLoad n l bs).runLoads n skipOnce r

/-- The check partners of R303: the tile after each, in ascending site index, round. -/
def partnerOf (sites : List Nat) (site : Nat) : Nat :=
  let up := allSites.filter (fun n => sites.contains n)
  let i := up.findIdx (fun n => decide (n = site))
  up.getD ((i + 1) % max up.length 1) site

/-- Step 5 on one tile (R137): at check levels 2 and 3 with its check partner (R303), otherwise without one (R320). -/
def startTile (n : Nat) (l : Launch) (pos : Nat) (r : PlaceRec) (t : Tile) : Tile :=
  let sites := l.plan.places.map (fun r => r.site)
  launchTile t (BitVec.ofNat 3 (n % 8)) r.site pos sites.length r.entry l.arg l.start (BitVec.ofNat 2 l.level)
    (if 2 ≤ l.level then BitVec.ofNat 9 (partnerOf sites r.site) else 0x1FF)

/-- Step 5 (R137) on every tile, in place or in the saved tiles. -/
def State.startTiles (s : State) (n : Nat) (l : Launch) : State :=
  ((List.range l.plan.places.length).zip l.plan.places).foldl (fun s x =>
    let site := x.2.site
    match SMap.get none (s.ctx n).saved site with
    | none => (s.collectSite site).modTile site (startTile n l x.1 x.2)
    | some snap => s.modCtx n (fun y => { y with saved := SMap.put site (some (startTile n l x.1 x.2 snap)) y.saved })) s

/-- Whether the partition's tiles are free for a context (R423). -/
def State.tilesFree (s : State) (p : Nat) : Bool := (s.onTiles p).isNone && (s.part p).switching.isNone

/-- Before a context of another tenant runs, slabs moored by no context are zeroed (R124). -/
def State.zeroForTenant (s : State) (p n : Nat) : State :=
  let x := s.ctx n
  let s := if (s.part p).lastTenant.isNone ∨ (s.part p).lastTenant = some x.tenant then s
    else s.each (fun s i => s.modTile i (zeroUnmoored (fun _ => false))) (s.partSites p)
  s.modPart p (fun y => { y with lastTenant := some x.tenant })

/-- Saved tiles for a context whose tiles another context holds: nothing of the other's in them. -/
def State.blankSaves (s : State) (n : Nat) (plan : Plan) : State :=
  s.modCtx n (fun x => { x with
    saved := plan.places.foldl (fun m r => SMap.put r.site (some Tile.clear) m) [] })

/-- The launch's tiles begin (R423, R424): RUNNING on free tiles, READY otherwise. -/
def State.launchRuns (s : State) (n : Nat) (free : Bool) : State :=
  let p := n / 8
  if free then
    let s := (s.modCtx n (fun x => { x with state := .running, onTiles := true })).pauseHot n
    let s := s.modPart p (fun y => { y with
      running := some (n % 8), quantumRun := y.quantum, quantumFrom := s.clk.tide, quantumUsed := 0 })
    if (s.ctx n).heatPause then s.each (fun s i => s.modTile i askPause) (s.ctx n).sites else s
  else (s.modCtx n (fun x => { x with state := .ready })).startNext p (n % 8)

/-- The steps of R423. -/
def State.launchSteps (s : State) (n : Nat) (l : Launch) : State :=
  let p := n / 8
  let c := n % 8
  let s := s.writeChans p l.plan.chans
  if !s.circuitsOk p c l.plan.circuits then s.stopLoading n stBadParam
  else if s.circuitsTaken p c l.plan.circuits then s.stopLoading n stBusy
  else
    let s := s.writeCircuits p c l.plan.circuits
    let kept := s.layoutKept p c l.plan
    let s := if kept then s else s.remoor p c l.plan
    let free := s.tilesFree p
    let s := if free then s.zeroForTenant p n else s.blankSaves n l.plan
    let r := s.runLoads n kept l.plan.loads
    if !r.ok then r.st.stopLoading n stFaulted
    else if l.start.toNat < r.st.clk.tide.toNat then r.st.stopLoading n stTimeout
    else (r.st.startTiles n l).launchRuns n free

/-- Whether a job resets or destroys a partition. -/
def isReset (p : Nat) (j : Job) : Bool :=
  decide (j.hdr.part.toNat = p) && (match j.work with | .resetTiles _ => true | .destroy _ => true | _ => false)

/-- Whether a LOADING context may go on (R211, R370, R420): no switch or reset of its partition is under way, the
quiescent window is not open, its circuit entries' buffers are empty, and no DRAIN holds its partition. DESIGN CHOICE (log
126): nor does a stress test run. -/
def State.loadOpen (s : State) (p c : Nat) : Bool :=
  !s.hm.jobs.any (isReset p) && (s.part p).switching.isNone && !s.clk.quiescent && s.circuitsEmpty p (some c)
    && (s.scopeSt (.part p)).isNone && (s.scopeSt .device).isNone && !s.stressing

end Sys2Proof.Machine
end

