-- ==== Sys2Proof/Machine/Contexts.lean ====
section
/-! DEFINITION. Contexts in time: quanta, switches, the start and the end of launches, and the ends of
zeroing (R327, R413 to R426). -/

namespace Sys2Proof.Machine

/-! ### Quanta and switches (R413 to R415, R420) -/

/-- Whether the running context's quantum has expired: the tide counts while it was RUNNING, since it was restored (R414). -/
def State.quantumOver (s : State) (p : Nat) : Bool :=
  let x := s.part p
  x.running.isSome && decide (x.quantumRun ≠ 0)
    && decide (x.quantumRun * 100000 ≤ (x.quantumUsed + (s.clk.tide - x.quantumFrom)).toNat)

/-- QUANTUM_EXPIRY (R413, R414): a switch to the next READY context begins. -/
def State.expireQuantum (s : State) (p : Nat) : State :=
  match (s.part p).running with
  | some c =>
    if s.quantumOver p && (s.part p).switching.isNone && (s.part p).switchDue.isNone then
      match s.nextReady p c with
      | some i => s.beginSwitch p i
      | none => s
    else s
  | none => s

/-- QUANTUM_EXPIRY (R414). -/
def execQuantumExpiry (p : Nat) (s : State) : Host.Outcome State Fault Refusal :=
  if 20 ≤ p then .fault .noSuchUnit else .next (s.expireQuantum p)

/-- CONTEXT_SWITCH (R415, R420): a switch that waits begins, or the one under way advances. -/
def State.contextSwitch (s : State) (p : Nat) : State :=
  match (s.part p).switching with
  | some w => s.switchAdvance p w
  | none => match (s.part p).switchDue with
    | some i => if s.ctxReady p i then s.beginSwitch p i else s.modPart p (fun x => { x with switchDue := none })
    | none => s

/-- CONTEXT_SWITCH (R415). -/
def execContextSwitch (p : Nat) (s : State) : Host.Outcome State Fault Refusal :=
  if 20 ≤ p then .fault .noSuchUnit else .next (s.contextSwitch p)

/-- A PAUSE that met a switch (R420): the context is PAUSED, on the tiles or switched out. -/
def State.pauseAfter (p : Nat) (s : State) (c : Nat) : State :=
  let n := ctxNo p c
  let x := s.ctx n
  if x.held && (decide (x.state = .ready) || decide (x.state = .paused)) then
    let s := s.modCtx n (fun y => { y with state := .paused })
    s.completeAll (s.jobsOf p c (fun k => match k with | .pause => true | _ => false)) stOk
  else s

/-- A SWITCH_CONTEXT that named another context than the switch just ended takes a second one (R448). -/
def State.switchAgain (s : State) (p : Nat) : State :=
  match s.hm.jobs.find? (fun j => decide (j.hdr.part.toNat = p) && s.ctxReady p j.hdr.ctx.toNat
      && (match j.work with | .switchTo => true | _ => false)) with
  | some j => s.beginSwitch p j.hdr.ctx.toNat
  | none => s

/-- CONTEXT_SWITCHED (R415 step 6): the incoming context goes on, and what met the switch is settled. -/
def State.contextSwitched (s : State) (p : Nat) : State :=
  match (s.part p).switching with
  | some w => match w.moved with
    | some v =>
      let s := s.switchEnds p w v
      let s := s.pauseAfter p w.incoming
      let s := match w.outgoing with
        | some o => s.pauseAfter p o
        | none => s
      (s.switchAgain p).startNext p w.incoming
    | none => s
  | none => s

/-- CONTEXT_SWITCHED (R415). -/
def execContextSwitched (p : Nat) (s : State) : Host.Outcome State Fault Refusal :=
  if 20 ≤ p then .fault .noSuchUnit else .next (s.contextSwitched p)

/-! ### The start and the end of a launch (R423, R424) -/

/-- LAUNCH_START (R423): the launch that loads goes through its steps. -/
def State.startLaunch (s : State) (p c : Nat) : State :=
  let n := ctxNo p c
  match (s.ctx n).launch with
  | some l => if (s.ctx n).state = .loading ∧ s.loadOpen p c then s.launchSteps n l else s
  | none => s

/-- LAUNCH_START (R423). -/
def execLaunchStart (p c : Nat) (s : State) : Host.Outcome State Fault Refusal :=
  if 20 ≤ p ∨ 8 ≤ c then .fault .noSuchUnit else .next (s.startLaunch p c)

/-- Whether the COMPLETION of an ending context must wait: issued work, or the switch that a retired tile meets
(R173, R420). -/
def State.endingWaits (s : State) (n : Nat) (e : Ending) : Bool :=
  !s.endingIdle n || (decide (e.cause = excTileRetired) && (s.part (n / 8)).switching.isSome)

/-- LAUNCH_COMPLETION (R424): every tile has halted, or the context has ended and its issued work is done. -/
def State.completeLaunch (s : State) (p c : Nat) : State :=
  let n := ctxNo p c
  if !(s.ctx n).launched then s
  else match (s.ctx n).ending with
  | some e => if s.endingWaits n e then s else s.endLaunch n e
  | none => if s.allHalted n && (s.part p).switching.isNone then s.endLaunch n ⟨stOk, 0, 0xFFFF, true⟩ else s

/-- LAUNCH_COMPLETION (R424). -/
def execLaunchCompletion (p c : Nat) (s : State) : Host.Outcome State Fault Refusal :=
  if 20 ≤ p ∨ 8 ≤ c then .fault .noSuchUnit else .next (s.completeLaunch p c)

/-! ### Resets, destruction and zeroing (R125, R327, R425, R426, R487) -/

/-- The grant of a partition leaves it: zeroed while it maps nothing, its keys and contexts destroyed (R426). -/
def State.beginDestroy (s : State) (p : Nat) : State :=
  let s := s.zeroGrant (s.part p).grant
  let s := s.modPart p (fun x => { x with zeroing := true, hbmKey := none, xferKey := none, switchKey := false })
  s.each (fun s n => s.setCtx n Ctxt.none) (ctxsOf p)

/-- A reset or a destruction goes on as far as it can (R425, R426). -/
def State.pumpReset (s : State) (j : Job) : State :=
  let p := j.hdr.part.toNat
  let tilesDone (s : State) (j : Job) : State :=
    if s.resetting p then s
    else match j.work with
    | .destroy _ => (s.beginDestroy p).setWork j (.destroy .bands)
    | _ => s.complete j stOk []
  match j.work with
  | .resetTiles .draining =>
    if s.circuitsEmpty p none then tilesDone ((s.resetPartTiles p).setWork j (.resetTiles .tiles)) j else s
  | .destroy .draining =>
    if s.circuitsEmpty p none then tilesDone ((s.resetPartTiles p).setWork j (.destroy .tiles)) j else s
  | .resetTiles .tiles => tilesDone s j
  | .destroy .tiles => tilesDone s j
  | _ => s

/-- A destruction of a context goes on once its circuit entries hold no flit (R207, R426): they are cleared, and
R124 applies. -/
def State.pumpDestroyCtx (s : State) (j : Job) : State :=
  let p := j.hdr.part.toNat
  let c := j.hdr.ctx.toNat
  match j.work with
  | .destroyCtx =>
    if s.circuitsEmpty p (some c) then
      let s := s.clearCircuits p (some c)
      let s := s.each (fun s i => s.modTile i (unmoor c)) (s.partSites p)
      (s.setCtx (ctxNo p c) Ctxt.none).complete j stOk []
    else s
  | _ => s

/-- Every reset and destruction goes on. -/
def State.pumpResets (s : State) : State :=
  s.hm.jobs.foldl (fun s j => (s.pumpReset j).pumpDestroyCtx j) s

/-- ZEROING_COMPLETE (R327): the bands of a partition are zero, and the command that started the zeroing
completes. -/
def State.zeroed (s : State) (p : Nat) : State :=
  let js := s.hm.jobs.filter (fun j => decide (j.hdr.part.toNat = p) && (match j.work with
    | .zero => true
    | .destroy .bands => true
    | _ => false))
  let gone := js.any (fun j => match j.work with | .destroy _ => true | _ => false)
  if !(s.part p).zeroing then s
  else
    let s := if gone then
        let t := s.setPart p Partn.none
        { t with pwr := { t.pwr with phases := SMap.drop p t.pwr.phases } }
      else s.modPart p (fun x => { x with zeroing := false })
    s.completeAll js stOk

/-- ZEROING_COMPLETE (R327). -/
def execZeroingComplete (p : Nat) (s : State) : Host.Outcome State Fault Refusal :=
  if 20 ≤ p then .fault .noSuchUnit else .next (s.zeroed p)

/-- The zeroing of ERASE has ended on every tile: the device is ALARMED (R487). -/
def State.erased (s : State) : State :=
  if s.sec.erasing && allSites.all (fun n => !s.siteGood n || !(s.tile n).inReset) then
    { s with bring := { s.bring with phase := .alarmed }, sec := { s.sec with erasing := false } }
  else s

/-- SCRATCHPAD_ZEROING_COMPLETE (R425): the tile leaves reset, and waiting work goes on. -/
def State.spadZeroed (s : State) (t : Nat) : State :=
  if (s.tile t).inReset && s.siteGood t then
    ((s.modTile t (fun x => { x with inReset := false })).pumpResets).erased
  else s

/-- SCRATCHPAD_ZEROING_COMPLETE (R425). -/
def execScratchpadZeroingComplete (t : Nat) (s : State) : Host.Outcome State Fault Refusal :=
  if 480 ≤ t then .fault .noSuchUnit else .next (s.spadZeroed t)

end Sys2Proof.Machine
end

