-- ==== Sys2Proof/Machine/AlarmOps.lean ====
section
/-! DEFINITION. Alarms: triggers, records, events and the four responses (R485 to R490). -/

namespace Sys2Proof.Machine

/-- The response codes of R486. -/
def respNote : Nat := 0
def respHalt : Nat := 1
def respErase : Nat := 2
def respTerminal : Nat := 3

/-- The fused floor of a source (R485). -/
def State.alarmFloor (s : State) (src : Nat) : Nat := s.facts.fuses.floors.getD src 0

/-- The record of an alarm source (R490). -/
def State.alarmRecord (s : State) (src : Nat) : List Byte :=
  let a := s.sec.alarms.getD src (Alarm.clear 0)
  leBytes src 1 ++ leBytes (a.applied.getD 0xFF) 1 ++ leBytes a.response 1 ++ leBytes (s.alarmFloor src) 1
    ++ leBytes a.count 4 ++ leBytes a.firstAt.toNat 8 ++ leBytes a.lastAt.toNat 8 ++ (a.detail ++ zeroBytes 8).take 8

/-- An ALARM event is produced ahead of every FAULT record that still waits (R489). -/
def State.alarmEvent (s : State) (src : Nat) (part : Option Nat) : State :=
  let r : Rec := { typ := 2, status := 0, tag := 0, opcode := 0, part := part.getD 0xFF, ctx := 0xFF,
                   tide := s.clk.tide, body := s.alarmRecord src, noIrq := false, sev := 0 }
  let ahead := s.uci.backlog.takeWhile (fun x => decide (x.typ ≠ 1))
  if s.uci.backlog = [] ∨ ahead = s.uci.backlog ∨ s.hm.silent then s.record r
  else
    let rest := s.uci.backlog.drop ahead.length
    if s.uci.backlog.length < 256 then { s with uci := { s.uci with backlog := ahead ++ [r] ++ rest } }
    else { s with uci := { s.uci with backlog := ahead ++ [r] ++ rest.dropLast, waiting := s.uci.waiting ++ rest.getLast?.toList } }

/-- A trigger is recorded (R490): count, times, detail, the response applied. -/
def State.noteAlarm (s : State) (src resp : Nat) (detail : List Byte) : State :=
  let a := s.sec.alarms.getD src (Alarm.clear 0)
  let b := { a with
    count := satAdd a.count 1 0xFFFFFFFF, applied := some resp, seen := true,
    firstAt := if a.count = 0 then s.clk.tide else a.firstAt, lastAt := s.clk.tide, detail := (detail ++ zeroBytes 8).take 8 }
  { s with
    sec := { s.sec with alarms := s.sec.alarms.set src b, lastSource := src, lastResponse := resp, everApplied := true },
    pins := { s.pins with alarmLow := true } }

/-- Launched contexts of a partition end at once with a status, and so do its ACCEPTED commands (R486, R494). -/
def State.endPart (s : State) (p status : Nat) : State :=
  let s := s.modPart p (fun x => { x with switching := none, switchDue := none })
  let s := s.each (fun s n => if (s.ctx n).launched then
      s.finishLaunch n ⟨status, 0, 0xFFFF, decide ((s.ctx n).state ≠ .loading)⟩ else s) (ctxsOf p)
  let s := s.completeAll (s.hm.jobs.filter (fun j => decide (j.hdr.part.toNat = p))) status
  let mine (h : HeldCmd) : Bool := h.accepted && decide (h.hdr.part.toNat = p)
  let late := s.hm.held.filter mine
  let s := { s with hm := { s.hm with held := s.hm.held.filter (fun h => !mine h) } }
  late.foldl (fun s h => s.cmdRecord 3 h.hdr h.op status []) s

/-- Whether a scope of slack water belongs to a partition. -/
def Scope.inPart (p : Nat) : Scope → Bool
  | .device => false
  | .part q => decide (q = p)
  | .ctx q _ => decide (q = p)

/-- The HALT response on one partition (R486, R488): contexts end, drains are given up, tiles are scrubbed. -/
def State.haltPart (s : State) (p : Nat) : State :=
  let s := s.endPart p stAlarmed
  let s := { s with net := { s.net with scopes := s.net.scopes.filter (fun r => !Scope.inPart p r.scope) } }
  s.resetSites (s.partSites p)

/-- Every key is destroyed (R486, R487). -/
def State.destroyKeys (s : State) : State :=
  let s := { s with sec := { s.sec with session := none } }
  s.each (fun s p => if (s.part p).valid then
    s.modPart p (fun x => { x with hbmKey := none, xferKey := none, switchKey := false }) else s) allParts

/-- Every command answered ACCEPTED completes ALARMED (R486). -/
def State.alarmJobs (s : State) : State :=
  let s := s.each (fun s p => s.endPart p stAlarmed) (allParts.filter (fun p => (s.part p).valid))
  let s := s.completeAll s.hm.jobs stAlarmed
  let s := { s with clk := { s.clk with stress := false } }
  let late := s.hm.held.filter (fun h => h.accepted)
  let s := { s with hm := { s.hm with reading := [], held := s.hm.held.filter (fun h => !h.accepted) } }
  late.foldl (fun s h => s.cmdRecord 3 h.hdr h.op stAlarmed []) s

/-- ERASE (R486, R487): keys are destroyed, every tile is zeroed, ACCEPTED commands complete ALARMED. Where the
tiles have not been clocked since reset there is nothing to zero, and the device is ALARMED at once. -/
def State.erase (s : State) : State :=
  if s.bring.phase = .alarmed ∨ s.sec.erasing then s
  else
    let s := s.destroyKeys
    let s := s.alarmJobs
    let s := { s with bring := { s.bring with fetch := none }, net := { s.net with scopes := [] } }
    if s.clk.meshLocked then
      let s := s.each (fun s n => s.setTile n { Tile.clear with inReset := true }) allSites
      { s with sec := { s.sec with erasing := true } }.erased
    else { s with bring := { s.bring with phase := .alarmed } }

/-- TERMINAL blows IDENTITY_END after ERASE (R486, R487). -/
def State.terminal (s : State) : State :=
  let s := s.erase
  { s with facts := { s.facts with fuses := { s.facts.fuses with identityEnd := true } } }

/-- A security alarm ends a stress test (R319): what it has changed stands, and the operating point is restored. -/
def State.endStress (s : State) : State := match s.stressTest with
  | none => s
  | some (j, x) => (s.setWork j (.stress { x with stage := .restoring, since := s.clk.tide })).setVlogs

/-- An alarm source triggers (R485 to R490). `affected` names the one partition that a HALT concerns, none for
all. -/
def State.alarm (s : State) (src : Nat) (detail : List Byte) (affected : Option Nat) : State :=
  let resp := (s.sec.alarms.getD src (Alarm.clear 0)).response
  let s := (s.noteAlarm src resp detail).endStress
  let s := s.alarmEvent src affected
  if resp = respTerminal then s.terminal
  else if resp = respErase then s.erase
  else if resp = respHalt ∧ s.bring.phase = .ready ∧ !s.sec.erasing then
    match affected with
    | some p => s.haltPart p
    | none => s.each State.haltPart (allParts.filter (fun p => (s.part p).valid))
  else s

end Sys2Proof.Machine
end

