-- ==== Sys2Proof/Machine/CmdOps.lean ====
section
/-! DEFINITION. What every command has in common: its opcode and header, the checks of R434 before a command's
own, FENCE, and the byte layout of command packets (R402, R403, R429, R430, R434, R436 to R447). -/

namespace Sys2Proof.Machine

/-! ### Opcodes and headers (R437) -/

/-- Whether a header field must name something, must not, or may (R430). -/
inductive Need where
  | must
  | never
  | may
  deriving DecidableEq, Repr

/-- A host command: its opcode, its header, and what it asks of PARTITION and CONTEXT. -/
structure CmdInfo where
  op : Nat
  hdr : CmdHdr
  part : Need
  ctx : Need

/-- What a DRAIN or RELEASE of a scope code asks of PARTITION. -/
def scopePart (scope : Nat) : Need := if scope = 0 then .never else .must
/-- What a DRAIN or RELEASE of a scope code asks of CONTEXT. -/
def scopeCtx (scope : Nat) : Need := if scope = 2 then .must else .never

/-- The opcode and header of a command row; none for a row that is not a host command (R437 to R447). -/
def cmdInfo (i : Instr) : Option CmdInfo :=
  match i with
  | .identify h => some ⟨0x0000, h, .never, .never⟩
  | .status h => some ⟨0x0001, h, .never, .never⟩
  | .readFloorplan h _ _ => some ⟨0x0002, h, .never, .never⟩
  | .readFaultlog h _ _ _ _ => some ⟨0x0003, h, .never, .never⟩
  | .echo h _ => some ⟨0x0004, h, .never, .never⟩
  | .setConfig h _ => some ⟨0x0100, h, .never, .never⟩
  | .getConfig h _ => some ⟨0x0101, h, .never, .never⟩
  | .installLicence h _ _ _ => some ⟨0x0102, h, .never, .never⟩
  | .listLicences h => some ⟨0x0103, h, .never, .never⟩
  | .createPartition h _ => some ⟨0x0200, h, .must, .never⟩
  | .destroyPartition h => some ⟨0x0201, h, .must, .never⟩
  | .resetPartition h => some ⟨0x0202, h, .must, .never⟩
  | .createContext h _ => some ⟨0x0203, h, .must, .must⟩
  | .destroyContext h => some ⟨0x0204, h, .must, .must⟩
  | .switchContext h => some ⟨0x0205, h, .must, .must⟩
  | .setQuantum h _ => some ⟨0x0206, h, .must, .never⟩
  | .copyIn h _ => some ⟨0x0300, h, .must, .never⟩
  | .copyOut h _ => some ⟨0x0301, h, .must, .never⟩
  | .fill h _ _ _ => some ⟨0x0302, h, .must, .never⟩
  | .setInterleave h _ => some ⟨0x0303, h, .must, .never⟩
  | .salvage h _ _ => some ⟨0x0304, h, .must, .never⟩
  | .launch h _ _ _ => some ⟨0x0400, h, .must, .must⟩
  | .pause h => some ⟨0x0401, h, .must, .must⟩
  | .resume h => some ⟨0x0402, h, .must, .must⟩
  | .abort h => some ⟨0x0403, h, .must, .must⟩
  | .setChannelTable h _ _ => some ⟨0x0404, h, .must, .never⟩
  | .invalidateChannels h _ _ => some ⟨0x0405, h, .must, .never⟩
  | .drainCommand h k _ => some ⟨0x0500, h, scopePart k, scopeCtx k⟩
  | .release h k => some ⟨0x0501, h, scopePart k, scopeCtx k⟩
  | .writeRoutes h _ => some ⟨0x0502, h, .never, .never⟩
  | .writeCircuits h _ => some ⟨0x0503, h, .must, .must⟩
  | .fabricStatus h => some ⟨0x0504, h, .never, .never⟩
  | .setPair h _ _ _ => some ⟨0x0505, h, .never, .never⟩
  | .setCap h _ => some ⟨0x0600, h, .never, .never⟩
  | .setOppoint h _ _ => some ⟨0x0601, h, .never, .never⟩
  | .pilotCommand h _ _ _ => some ⟨0x0602, h, .must, .never⟩
  | .setTelemetry h _ _ _ _ => some ⟨0x0603, h, .never, .never⟩
  | .readEnergy h _ => some ⟨0x0604, h, .never, .never⟩
  | .setCheckLevel h _ => some ⟨0x0700, h, .must, .never⟩
  | .runStressTest h _ _ _ => some ⟨0x0701, h, .never, .never⟩
  | .readTallyLog h _ => some ⟨0x0702, h, .never, .never⟩
  | .attest h _ _ _ => some ⟨0x0800, h, .never, .never⟩
  | .loadKey h _ _ _ _ => some ⟨0x0801, h, .must, .never⟩
  | .eraseKeys h => some ⟨0x0802, h, .may, .never⟩
  | .setAlarmPolicy h _ _ => some ⟨0x0803, h, .never, .never⟩
  | .readAlarms h => some ⟨0x0804, h, .never, .never⟩
  | .setDebugMode h _ => some ⟨0x0900, h, .must, .must⟩
  | .peekQueue h _ _ _ => some ⟨0x0901, h, .never, .never⟩
  | .readAccumulator h _ _ _ _ _ => some ⟨0x0902, h, .never, .never⟩
  | .trace h _ _ _ _ => some ⟨0x0903, h, .must, .must⟩
  | .retireTile h _ => some ⟨0x0A00, h, .never, .never⟩
  | .setServiceFmax h _ _ => some ⟨0x0A01, h, .never, .never⟩
  | _ => none

/-- Whether a header field is as a command asks (R430). -/
def Need.met (n : Need) (v : BitVec 8) : Bool := match n with
  | .must => decide (v ≠ 0xFF)
  | .never => decide (v = 0xFF)
  | .may => true

/-- Whether the header passes R430: FLAGS[7:2] zero, PARTITION and CONTEXT named where they must be. -/
def CmdInfo.headerOk (x : CmdInfo) : Bool :=
  decide (x.hdr.flags.toNat < 4) && x.part.met x.hdr.part && x.ctx.met x.hdr.ctx

/-! ### Phases (R436) -/

/-- The status that the present phase gives an opcode; OK where it is accepted (R436). While an ERASE runs the
answers are those of ALARMED (R448, R493). -/
def State.phaseStatus (s : State) (op : Nat) : Nat :=
  let ph := if s.sec.erasing then Phase.alarmed else s.bring.phase
  if op = 0 ∨ op = 1 then (if ph = .dark then stNotReady else stOk)
  else match ph with
  | .ready => stOk
  | .halted => if op = 2 ∨ op = 3 ∨ op = 4 ∨ op = 0x0804 then stOk else stFaulted
  | .alarmed => if op = 3 ∨ op = 0x0804 then stOk else stAlarmed
  | _ => stNotReady

/-! ### Whether the harbour master takes commands (R403, R405, R506) -/

/-- The harbour master serves commands: it runs, and the backlog is not full. -/
def State.canTake (s : State) : Bool :=
  s.pins.vlnk && s.pins.resetN && decide (s.bring.phase ≠ .dark) && !s.hm.silent && decide (s.uci.backlog.length < 256)

/-! ### Objects that a command names (R434 order 4, R448) -/

/-- Whether a partition exists for a command: valid, and no accepted destruction waits for it (R448). -/
def State.partExists (s : State) (p : Nat) : Bool :=
  decide (p < 20) && (s.part p).valid
    && !s.hm.jobs.any (fun j => decide (j.hdr.part.toNat = p) && (match j.work with | .destroy _ => true | _ => false))

/-- Whether a context exists for a command. -/
def State.ctxExists (s : State) (p c : Nat) : Bool :=
  s.partExists p && decide (c < 8) && decide ((s.ctx (ctxNo p c)).state ≠ .none)

/-- Whether any context of a partition is launched. -/
def State.partLaunched (s : State) (p : Nat) : Bool := (ctxsOf p).any (fun n => (s.ctx n).launched)

/-- The status of the first check that fails; OK where every check passes (R434). -/
def firstFail : List (Bool × Nat) → Nat
  | [] => stOk
  | (ok, st) :: r => if ok then firstFail r else st

/-- A command under its checks: the first failure is its answer, else it goes on (R434). -/
def State.check (s : State) (c : Call) (checks : List (Bool × Nat)) (go : State → State) : State :=
  if firstFail checks = stOk then go s else s.answer c (firstFail checks) []

/-- The partition and the context of a call. -/
def Call.p (c : Call) : Nat := c.hdr.part.toNat
/-- The context of a call. -/
def Call.c (c : Call) : Nat := c.hdr.ctx.toNat
/-- The number of the context of a call. -/
def Call.n (c : Call) : Nat := ctxNo c.p c.c

/-- The result of a command that found its host buffer too small (R431). -/
def State.tooSmall (s : State) (c : Call) (need : Nat) : State := s.answer c stBadParam (leBytes need 8)

/-- Answer a command ACCEPTED whose work ends in the same step (R403, R433). -/
def State.sayAccepted (s : State) (c : Call) : State := if c.acc then s else s.cmdRecord 0 c.hdr c.op stAccepted []

/-- Whether a host buffer is aligned (R431). -/
def bufOk (buf : Nat) : Bool := decide (buf % 64 = 0)

/-! ### Slack water and memory work (R209, R213, R448) -/

/-- Whether host transfers of a partition are held (R209 step 2, R211): a scope that covers tiles of it is DRAINING or
SLACK, or the partition is in a switch. -/
def State.transfersHeld (s : State) (p : Nat) : Bool :=
  (s.part p).switching.isSome || s.net.scopes.any (fun r => match r.scope with
    | .device => true
    | .part q => decide (q = p)
    | .ctx q _ => decide (q = p))

/-- Whether an earlier command has not completed finally (R403). -/
def State.earlierOpen (s : State) (serial : Nat) : Bool :=
  s.hm.jobs.any (fun j => decide (j.serial < serial)) || s.hm.held.any (fun h => decide (h.serial < serial))

/-! ### Packets (R429, R430, R437 to R447) -/

/-- The header of a packet. -/
def packetHdr (bs : List Byte) : CmdHdr :=
  { tag := BitVec.ofNat 16 (fieldBytes bs 2 2), flags := BitVec.ofNat 8 (fieldBytes bs 6 1),
    part := BitVec.ofNat 8 (fieldBytes bs 7 1), ctx := BitVec.ofNat 8 (fieldBytes bs 8 1) }

/-- The bytes that an opcode defines beyond the header, by offset and length (R438 to R447); none for an opcode
that is not listed. -/
def definedBytes (bs : List Byte) (op : Nat) : Option (List (Nat × Nat)) :=
  let f (o n : Nat) : Nat := fieldBytes bs o n
  match op with
  | 0x0000 => some [] | 0x0001 => some []
  | 0x0002 => some [(16, 12)] | 0x0003 => some [(16, 15)]
  | 0x0004 => some [(16, bs.length - 16)]
  | 0x0100 => some ((16, 2) :: (List.range (f 16 2)).flatMap (fun i => [(32 + 16 * i, 2), (40 + 16 * i, 8)]))
  | 0x0101 => some [(16, 2), (32, 2 * f 16 2)]
  | 0x0102 => some [(16, 12)] | 0x0103 => some []
  | 0x0200 => some [(16, 6), (24, 4), (32, 96)]
  | 0x0201 => some [] | 0x0202 => some []
  | 0x0203 => some [(16, 8)] | 0x0204 => some [] | 0x0205 => some [] | 0x0206 => some [(16, 2)]
  | 0x0300 => some [(16, 25), (48, 12), (64, 16)] | 0x0301 => some [(16, 25), (48, 12)] | 0x0302 => some [(16, 24)]
  | 0x0303 => some [(16, 6), (24, 4), (32, 96)] | 0x0304 => some [(16, 1), (24, 8)]
  | 0x0400 => some [(16, 24)] | 0x0401 => some [] | 0x0402 => some [] | 0x0403 => some []
  | 0x0404 => some [(16, 12)] | 0x0405 => some [(16, 8)]
  | 0x0500 => some [(16, 1), (20, 4)] | 0x0501 => some [(16, 1)] | 0x0502 => some [(16, 32)]
  | 0x0503 => some [(16, 2), (32, 24 * f 16 2)] | 0x0504 => some [] | 0x0505 => some [(16, 1), (24, 16)]
  | 0x0600 => some [(16, 2)] | 0x0601 => some [(16, 2)] | 0x0602 => some [(16, 4)]
  | 0x0603 => some [(16, 1), (24, 14)] | 0x0604 => some [(16, 20)]
  | 0x0700 => some [(16, 1)] | 0x0701 => some [(16, 5)] | 0x0702 => some [(16, 2)]
  | 0x0800 => some [(16, 44)] | 0x0801 => some [(16, 1), (24, 12)] | 0x0802 => some []
  | 0x0803 => some [(16, 2)] | 0x0804 => some []
  | 0x0900 => some [(16, 1)] | 0x0901 => some [(16, 3), (24, 8)] | 0x0902 => some [(16, 4), (24, 12)]
  | 0x0903 => some [(16, 2), (24, 12)] | 0x0A00 => some [(16, 2)] | 0x0A01 => some [(16, 3)]
  | _ => none

/-- The grant block of a packet (R440). -/
def packetGrant (bs : List Byte) : GrantBlock :=
  let f (o n : Nat) : Nat := fieldBytes bs o n
  { c0 := f 16 1, c1 := f 17 1, r0 := f 18 1, r1 := f 19 1, flags := f 20 1, level := f 21 1, firstBand := f 24 2,
    bandCount := f 26 2, runs := (List.range 24).map (fun w => (bitsOf (f (32 + 4 * w) 4) 0 12, bitsOf (f (32 + 4 * w) 4) 16 12)) }

/-- The copy parameters of a packet (R441). -/
def packetCopy (bs : List Byte) : CopyParams :=
  let f (o n : Nat) : Nat := fieldBytes bs o n
  { host := f 16 8, dev := f 24 8, len := f 32 8, encrypted := bitOf (f 40 1) 0, nonce := (bs.drop 48).take 12,
    tag := (bs.drop 64).take 16 }

/-- The route parameters of a packet (R443). -/
def packetRoutes (bs : List Byte) : RouteParams :=
  let f (o n : Nat) : Nat := fieldBytes bs o n
  { self := BitVec.ofNat 15 (f 16 2), root := BitVec.ofNat 15 (f 18 2), sxM1 := f 20 1, syM1 := f 21 1, szM1 := f 22 1,
    flags := f 23 1, dirX := BitVec.ofNat 64 (f 24 8), dirY := BitVec.ofNat 64 (f 32 8), dirZ := BitVec.ofNat 64 (f 40 8) }

/-- Circuit records of a packet (R443). -/
def packetCircuits (bs : List Byte) : List CircuitRec :=
  (List.range (fieldBytes bs 16 2)).map (fun i => parseCircuit ((bs.drop (32 + 24 * i)).take 24))

/-- The command that a packet spells (R438 to R447). `r` is what a stress test it starts finds. -/
def packetCmd (bs : List Byte) (h : CmdHdr) (r : StressResult) (op : Nat) : Option Instr :=
  let f (o n : Nat) : Nat := fieldBytes bs o n
  match op with
  | 0x0000 => some (.identify h) | 0x0001 => some (.status h)
  | 0x0002 => some (.readFloorplan h (f 16 8) (f 24 4))
  | 0x0003 => some (.readFaultlog h (f 16 8) (f 24 4) (f 28 1) (f 29 2))
  | 0x0004 => some (.echo h (bs.drop 16))
  | 0x0100 => some (.setConfig h ((List.range (f 16 2)).map (fun i => (f (32 + 16 * i) 2, f (40 + 16 * i) 8))))
  | 0x0101 => some (.getConfig h ((List.range (f 16 2)).map (fun i => f (32 + 2 * i) 2)))
  | 0x0102 => some (.installLicence h (f 16 8) (f 24 4) .later) | 0x0103 => some (.listLicences h)
  | 0x0200 => some (.createPartition h (packetGrant bs)) | 0x0201 => some (.destroyPartition h)
  | 0x0202 => some (.resetPartition h) | 0x0203 => some (.createContext h (BitVec.ofNat 64 (f 16 8)))
  | 0x0204 => some (.destroyContext h) | 0x0205 => some (.switchContext h) | 0x0206 => some (.setQuantum h (f 16 2))
  | 0x0300 => some (.copyIn h (packetCopy bs)) | 0x0301 => some (.copyOut h { packetCopy bs with tag := [] })
  | 0x0302 => some (.fill h (f 16 8) (f 24 8) (BitVec.ofNat 64 (f 32 8)))
  | 0x0303 => some (.setInterleave h (packetGrant bs)) | 0x0304 => some (.salvage h (f 16 1) (f 24 8))
  | 0x0400 => some (.launch h (f 16 8) (BitVec.ofNat 64 (f 24 8)) (BitVec.ofNat 64 (f 32 8)))
  | 0x0401 => some (.pause h) | 0x0402 => some (.resume h) | 0x0403 => some (.abort h)
  | 0x0404 => some (.setChannelTable h (f 16 8) (f 24 4)) | 0x0405 => some (.invalidateChannels h (f 16 4) (f 20 4))
  | 0x0500 => some (.drainCommand h (f 16 1) (f 20 4)) | 0x0501 => some (.release h (f 16 1))
  | 0x0502 => some (.writeRoutes h (packetRoutes bs)) | 0x0503 => some (.writeCircuits h (packetCircuits bs))
  | 0x0504 => some (.fabricStatus h) | 0x0505 => some (.setPair h (f 16 1) (f 24 8) (f 32 8))
  | 0x0600 => some (.setCap h (f 16 2)) | 0x0601 => some (.setOppoint h (f 16 1) (f 17 1))
  | 0x0602 => some (.pilotCommand h (f 16 1) (f 17 1) (f 18 2))
  | 0x0603 => some (.setTelemetry h (f 16 1) (f 24 8) (f 32 4) (f 36 2))
  | 0x0604 => some (.readEnergy h (BitVec.ofNat 160 (f 16 20)))
  | 0x0700 => some (.setCheckLevel h (f 16 1)) | 0x0701 => some (.runStressTest h (f 16 4) (f 20 1) r)
  | 0x0702 => some (.readTallyLog h (f 16 2))
  | 0x0800 => some (.attest h ((bs.drop 16).take 32) (f 48 8) (f 56 4))
  | 0x0801 => some (.loadKey h (f 16 1) (f 24 8) (f 32 4) .later) | 0x0802 => some (.eraseKeys h)
  | 0x0803 => some (.setAlarmPolicy h (f 16 1) (f 17 1)) | 0x0804 => some (.readAlarms h)
  | 0x0900 => some (.setDebugMode h (f 16 1)) | 0x0901 => some (.peekQueue h (f 16 2) (f 18 1) (f 24 8))
  | 0x0902 => some (.readAccumulator h (f 16 2) (f 18 1) (f 19 1) (f 24 8) (f 32 4))
  | 0x0903 => some (.trace h (f 16 1) (f 17 1) (f 24 8) (f 32 4)) | 0x0A00 => some (.retireTile h (f 16 2))
  | 0x0A01 => some (.setServiceFmax h (f 16 2) (f 18 1))
  | _ => none

/-- Whether a byte offset lies in defined runs. -/
def isDefined (runs : List (Nat × Nat)) (o : Nat) : Bool := runs.any (fun r => decide (r.1 ≤ o) && decide (o < r.1 + r.2))

/-- Flag bytes whose upper bits a command does not define: offset and number of bits it defines (R439 to R443). -/
def flagBits (op : Nat) : List (Nat × Nat) :=
  match op with
  | 0x0200 => [(20, 2)] | 0x0303 => [(20, 2)] | 0x0300 => [(40, 1)] | 0x0301 => [(40, 1)]
  | 0x0502 => [(23, 4), (17, 7), (19, 7)] | 0x0505 => [(16, 2)]
  | _ => []

/-- Whether the bytes of a packet pass R430 for its opcode: reserved and undefined bytes zero, LENGTH at or
beyond the last defined parameter. -/
def packetBytesOk (bs : List Byte) (op : Nat) : Bool :=
  allZero bs 9 7 && (match definedBytes bs op with
    | none => true
    | some runs =>
      runs.all (fun r => decide (r.1 + r.2 ≤ bs.length)) && decide (op ≠ 4 ∨ bs.length ≤ 992)
        && ((List.range (bs.length - 16)).all (fun i => isDefined runs (16 + i) || decide (bs.getD (16 + i) 0 = 0)))
        && (flagBits op).all (fun x => decide (fieldBytes bs x.1 1 < 2 ^ x.2)))

end Sys2Proof.Machine
end

