-- ==== Sys2Proof/Machine/HostOps.lean ====
section
/-! DEFINITION. Host transactions at a tile window, at memory and at a router's registers (R94, R118, R127,
R341, R343, R344, R401, R462). -/

namespace Sys2Proof.Machine

/-- Statuses of R400. -/
def hsOk : Nat := 0
def hsUnmapped : Nat := 1
def hsDenied : Nat := 2
def hsBusy : Nat := 3
def hsPoisoned : Nat := 4
def hsTimeout : Nat := 5
def hsNotReady : Nat := 6

/-- What a served transaction leaves: the state, the status and the data. -/
structure HostRes where
  st : State
  status : Nat
  data : List Byte

/-- Whether a partition's context is RUNNING, READY or PAUSED (R118, R401). -/
def State.ctxLive (s : State) (p c : Nat) : Bool :=
  let x := s.ctx (ctxNo p c)
  decide (x.state = .running) || decide (x.state = .ready) || decide (x.state = .paused)

/-- The notice of a debug read that is not allowed (R94, R127, R341); the owning context is the one concerned. -/
def State.debugNotice (s : State) (site off : Nat) : State :=
  let t := s.tile site
  s.logFault { (tileNote (s.envOf site) t 0 0x0104 none off 0) with ctx := (t.ctx.or t.owner).map (fun c => c.toNat) }

/-- Accumulator bytes of the debug window from an offset in it on (R94). -/
def accBytes (t : Tile) (o n : Nat) : List Byte :=
  (List.range n).map (fun i =>
    let a := o + i
    byteOf (SMap.get 0 t.arr.acc (accKey (a / 0x4000) (a % 0x4000 / 0x200) (a % 0x200 / 4))).toNat (a % 4))

/-- Side-storage bytes from an offset in its window on (R126, R127). -/
def sideBytes (t : Tile) (o n : Nat) : List Byte :=
  (List.range n).map (fun i =>
    let a := o + i
    let e := t.spad.sideOf (a / 8)
    let st := match e.st with | .none => 0 | .valid => 1 | .stale => 2
    byteOf (e.crc.toNat + fieldAt st 32 2) (a % 8))

/-- Register bytes from an offset of the tile registers on, whole registers in ascending order (R176, R344). -/
def tsBytes (env : TileEnv) (t : Tile) (o n : Nat) : List Byte :=
  (List.range (n / 8)).flatMap (fun i => leBytes (tsRead env t (o + 8 * i)) 8)

/-- Write registers from an offset of the tile registers on (R176, R344). -/
def tsWriteBytes (t : Tile) (o : Nat) (bs : List Byte) : Tile :=
  ((List.range (bs.length / 8)).zip (piecesOf 8 (bs.length / 8) bs)).foldl
    (fun t p => tsWrite t (o + 8 * p.1) (leNat p.2)) t

/-- A host read of scratchpad bytes, the partition's kind apart (R128): bad parity poisons it. -/
def State.spadHostRead (s : State) (site off len : Nat) : HostRes :=
  let t := s.tile site
  if t.spad.parityHit off len then
    let s := s.runTile site (fun env t => detectedError env { t with spad := { t.spad with parityError := true } } 4)
    ⟨s, hsPoisoned, zeroBytes len⟩
  else ⟨s, hsOk, Memory.readBytes t.spad.mem off len⟩

/-- A host read in a tile window (R94, R127, R341, R343, R344). -/
def State.tileHostRead (s : State) (site off len : Nat) : HostRes :=
  let t := s.tile site
  let env := s.envOf site
  let conf := match s.partOfSite site with | some p => (s.part p).confidential | none => false
  let zeros := zeroBytes len
  if off + len ≤ 0x7000000 then
    if conf then ⟨s.debugNotice site off, hsOk, zeros⟩ else s.spadHostRead site off len
  else if 0x7000000 ≤ off ∧ off + len ≤ 0x7200000 then
    if conf || !env.debug then ⟨s.debugNotice site off, hsOk, zeros⟩
    else ⟨s, hsOk, accBytes t (off - 0x7000000) len⟩
  else if 0x7400000 ≤ off ∧ off + len ≤ 0x7438000 then
    if conf || !env.debug then ⟨s.debugNotice site off, hsOk, zeros⟩
    else ⟨s, hsOk, sideBytes t (off - 0x7400000) len⟩
  else if 0x7F00000 ≤ off ∧ off + len ≤ 0x7F09000 then
    if off % 8 ≠ 0 ∨ len % 8 ≠ 0 then ⟨s, hsUnmapped, []⟩
    else ⟨s, hsOk, tsBytes env t (off - 0x7F00000) len⟩
  else ⟨s, hsOk, zeros⟩

/-- The contexts, by index, whose code areas a row lies in. -/
def codeOwners (t : Tile) (row : Nat) : List Nat :=
  (t.spad.moors.filter (fun p => p.2.code && p.2.covers row)).map (fun p => p.2.ctx.toNat)

/-- Why a host write into scratchpad rows is refused (R118, R197, R305, R401): row 8 or 9 of R197's table, or
10 for a code area whose context is launched. A transfer of a memory command names no context (`ctx` above 7), and a
moored area is then open to it (DEDUCED, log 35). -/
def State.hostWriteClosed (s : State) (site ctx first last : Nat) : Nat :=
  let t := s.tile site
  let part := (s.partOfSite site).getD 0
  if ctx < 8 ∧ (firstRowWith (fun r => t.spad.moors.any (fun p => p.2.covers r && decide (p.2.ctx.toNat ≠ ctx))) first last).isSome
  then 8
  else if (firstRowWith (fun r => (codeOwners t r).any (fun c => s.ctxLive part c)) first last).isSome then 10
  else if (firstRowWith (fun r => decide (queueAreaRow ≤ r) || checkAreaHit t r) first last).isSome then 9
  else 0

/-- Whether the rows that a write covers in part hold bad parity: each is read before it is written whole (R108, R128). -/
def partRowsBad (t : Tile) (off len : Nat) : Bool :=
  (decide (off % 256 ≠ 0) && t.spad.parityHit (off / 256 * 256) 256)
    || (decide ((off + len) % 256 ≠ 0) && t.spad.parityHit ((off + len) / 256 * 256) 256)

/-- A host write into scratchpad rows, the partition's kind apart (R108, R117, R118, R197, R401): refused rows are
counted and logged, others written. -/
def State.spadHostWrite (s : State) (site ctx off : Nat) (bs : List Byte) : HostRes :=
  let len := bs.length
  match s.hostWriteClosed site ctx (off / 256) ((off + len - 1) / 256) with
  | 8 => ⟨(s.modRouter site countAtTile).logFault (tileNote (s.envOf site) (s.tile site) 1 0x0204 none 0 0), hsDenied, []⟩
  | 9 =>
    let f := { plainNote 1 0x0203 with site := some site, part := s.partOfSite site, d0 := 0x10 + 9 * 256 }
    ⟨(s.modRouter site countAtTile).logFault f, hsDenied, []⟩
  | 10 => ⟨s, hsDenied, []⟩
  | _ =>
    let s := s.runTile site (fun env t =>
      (TOut.pure ((noteInbound t (off / 256) ((off + len - 1) / 256)).writeAll env [(off, bs)])).andIf
        (partRowsBad t off len) (parityFound env))
    ⟨s, hsOk, []⟩

/-- A host write in a tile window (R94, R127, R294, R341, R401). -/
def State.tileHostWrite (s : State) (site ctx off : Nat) (bs : List Byte) : HostRes :=
  let conf := match s.partOfSite site with | some p => (s.part p).confidential | none => false
  let len := bs.length
  if off + len ≤ 0x7000000 then (if conf then ⟨s, hsDenied, []⟩ else s.spadHostWrite site ctx off bs)
  else if 0x7F00000 ≤ off ∧ off + len ≤ 0x7F09000 then
    if off % 8 ≠ 0 ∨ len % 8 ≠ 0 then ⟨s, hsUnmapped, []⟩
    else ⟨s.modTile site (fun t => tsWriteBytes t (off - 0x7F00000) bs), hsOk, []⟩
  else ⟨s, hsOk, []⟩

/-- The note of a refusal at the memory (R333, R499). -/
def memNote (sev code k site : Nat) (p : Packet) (d0 d1 : Nat) : FaultNote :=
  let part := if p.part.toNat < 20 then some p.part.toNat else none
  { unitNote sev code 2 k with part := part, site := some site, site2 := some p.ssite.toNat, d0 := d0, d1 := d1 }

/-- A packet for an address that is unmapped in its partition: counted and logged at the home stack (R333). -/
def State.outOfGrant (s : State) (site : Nat) (p : Packet) : State :=
  let k := ((s.part p.part.toNat).grant.home p.addr.toNat).1
  let s := s.modStack k (fun x => { x with outOfGrant := satAdd x.outOfGrant 1 0xFF })
  s.logFault { (memNote 1 0x0603 k site p p.addr.toNat 0) with site := none }

/-- A host read at the memory (R341): ciphertext of a confidential partition. -/
def State.memHostRead (s : State) (site : Nat) (p : Packet) (len : Nat) : HostRes :=
  let part := s.part p.part.toNat
  let a := p.addr.toNat
  match s.hbmRefuses part a with
  | some .unmapped => ⟨s.outOfGrant site p, hsUnmapped, []⟩
  | some .outOfService => ⟨s.logFault (siteDropNote p site 0 3), hsPoisoned, []⟩
  | none =>
    let x := part.acc a
    let os := transferOffs x.off len
    if part.confidential then
      match s.hbm.firstBad x.stack os with
      | some o => ⟨s.meetBad x.stack o, hsPoisoned, []⟩
      | none =>
        let s := s.correct x.stack os
        ⟨s.countAct (packetAccount p) .hbmByte len, hsOk, ((os.flatMap (s.hbm.stored x.stack)).drop (x.off % 32)).take len⟩
    else
      let r := s.hbmRead x len
      match r.bytes with
      | none => ⟨r.st, hsPoisoned, []⟩
      | some bs => ⟨(r.st.checkShelf x bs).countAct (packetAccount p) .hbmByte len, hsOk, bs⟩

/-- A host write at the memory (R334, R341). -/
def State.memHostWrite (s : State) (site : Nat) (p : Packet) : HostRes :=
  let part := s.part p.part.toNat
  let a := p.addr.toNat
  match s.hbmRefuses part a with
  | some .unmapped => ⟨s.outOfGrant site p, hsUnmapped, []⟩
  | some .outOfService => ⟨s.logFault (siteDropNote p site 0 3), hsPoisoned, []⟩
  | none =>
    if part.confidential then ⟨s, hsDenied, []⟩
    else
      let r := s.hbmWrite (part.acc a) p.payload
      ⟨r.st.countAct (packetAccount p) .hbmByte p.payload.length, if r.ok then hsOk else hsPoisoned, []⟩

/-! ### A router's registers (R207, R212, R345) -/

/-- The ports of a router with buffers: N, S, E, W and the tile's, and those of its attachments (R179). -/
def routerPorts (n : Nat) : Nat :=
  5 + ([5, 6].filter (fun q => decide (attachAt n q ≠ .nothing))).length

/-- Circuit flits buffered at a router (R212): in its entries, and of packets that its tile port holds (R213). -/
def State.circuitFlitsAt (s : State) (n : Nat) : Nat :=
  ((s.router n).buffers.map (fun b => b.2.length)).sum
    + ((s.net.inFlight.filter (fun f => decide (f.place.site = n) && f.pkt.circ)).map (fun f => flitCount f.pkt)).sum

/-- NET_ROUTER_STATUS (R212). -/
def State.netRouterStatus (s : State) (n : Nat) : Nat :=
  let r := s.router n
  let flits (q : Flight → Bool) : Nat := ((s.net.inFlight.filter q).map (fun f => flitCount f.pkt)).sum
  let used := (r.circuits.filter (fun c => bitOf c.2.toNat 63)).length
  fieldAt (min (flits (fun f => f.freeAt n)) (68 * routerPorts n)) 41 9 + fieldAt used 32 9
    + fieldAt (min (flits (fun f => f.controlAt n)) 28) 16 8 + fieldAt (min (s.circuitFlitsAt n) 255) 8 8
    + fieldAt (flagNat r.bypassed) 7 1 + fieldAt (flagNat r.lateSeen) 2 1 + fieldAt (flagNat r.hcrcSeen) 1 1
    + flagNat r.dropSeen

/-- NET_DROP_COUNT (R212). -/
def netDropCount (r : Router) : Nat :=
  fieldAt r.lateAck.toNat 48 16 + fieldAt r.badHeader.toNat 32 16 + fieldAt r.atTile.toNat 16 16 + r.atAttach.toNat

/-- A register of router n (R345); offsets not listed read as zero. -/
def State.netRead (s : State) (n off : Nat) : Nat :=
  let r := s.router n
  if off = 0 then s.netRouterStatus n
  else if off = 8 then netDropCount r
  else if 0x1000 ≤ off ∧ off < 0x1800 then (SMap.get 0 r.circuits ((off - 0x1000) / 8)).toNat
  else if 0x1800 ≤ off ∧ off < 0x2000 then (SMap.get 0 r.slots ((off - 0x1800) / 8)).toNat
  else 0

/-- A write of a register of router n (R212): the W1C bits of NET_ROUTER_STATUS; all else is RO. -/
def State.netWrite (s : State) (n off v : Nat) : State :=
  if off = 0 then
    s.modRouter n (fun r => { r with
      lateSeen := w1c r.lateSeen v 2, hcrcSeen := w1c r.hcrcSeen v 1, dropSeen := w1c r.dropSeen v 0 })
  else s

/-! ### Answers that come back to a UCIe module (R400, R401) -/

/-- Count WRITE_ERRORS (R400). -/
def State.writeError (s : State) (m : Nat) : State :=
  s.modUciModule m (fun x => { x with writeErrors := satAdd x.writeErrors 1 0xFFFF })

/-- A transaction is over: a read is answered, a failed write counted (R400). -/
def State.endPend (s : State) (x : HostPend) (status : Nat) : State :=
  let s := { s with uci := { s.uci with pend := dropFirst (fun y => decide (y = x)) s.uci.pend } }
  if x.isWrite then (if status = hsOk then s else s.writeError x.module)
  else s.emit (.readAnswer x.module x.tag status (if status = hsOk then (x.parts.map (fun p => p.2)).flatten else []))

/-- An answer comes back: the transaction ends with its last one, or with the first that failed. -/
def State.hostReturn (s : State) (m : Nat) (tag : BitVec 16) (isWrite : Bool) (addr status : Nat) (data : List Byte) :
    State :=
  match s.uci.pend.find? (fun x => decide (x.module = m) && decide (x.tag = tag) && decide (x.isWrite = isWrite)) with
  | none => s
  | some x =>
    let y := { x with due := x.due - 1, parts := SMap.put addr data x.parts }
    if status ≠ hsOk ∨ y.due = 0 then
      let s := { s with uci := { s.uci with pend := s.uci.pend.map (fun z => if z = x then y else z) } }
      s.endPend y status
    else { s with uci := { s.uci with pend := s.uci.pend.map (fun z => if z = x then y else z) } }

end Sys2Proof.Machine
end

