-- ==== Sys2Proof/Machine/Power.lean ====
section
/-! DEFINITION. Meanings of the power, droop, heat and telemetry rows (chapter 12, R515). -/

namespace Sys2Proof.Machine

/-! ### Droop (R366, R367, R379, R384) -/

/-- A reservoir threshold is crossed (R379, R384): the armed banks fire; in hinted mode outside a heavy phase
it is an unheralded surge, and the region returns to full margin. -/
def State.reservoirTrip (s : State) (r : Nat) : State :=
  let armed := s.banksArmed r
  let surge := s.pwr.hinted && (s.heavyNow r).isNone
  let s := s.modPregion r (fun x => { x with
    fired := x.fired + armed, nowFirings := if 0 < armed then x.nowFirings + 1 else x.nowFirings,
    firedSeen := x.firedSeen || decide (0 < armed), unheralded := if surge then satAdd x.unheralded 1 0xFFFF else x.unheralded,
    unheraldedSeen := x.unheraldedSeen || surge, surgeHold := if surge then 16 else x.surgeHold })
  if surge then s.setVlogs else s

/-- Whether a region may stretch its next period (R366): within a run of fewer than 8, or 56 unstretched periods after one. -/
def ClkRegion.mayStretch (x : ClkRegion) : Bool :=
  (decide (x.gap = 0) && decide (0 < x.run) && decide (x.run < 8)) || decide (56 ≤ x.gap)

/-- A period is stretched under the limits of R366; `half` counts the slip in half cycles (R367). -/
def State.stretch (s : State) (r half : Nat) : State :=
  if s.clk.quiescent ∨ !(s.cregion r).mayStretch then s
  else
    s.modCregion r (fun x => { x with
      run := if x.gap = 0 then x.run + 1 else 1, gap := 0, owed := x.owed + 1, nowStretches := x.nowStretches + 1,
      nowSlip := x.nowSlip + half, stretchesTotal := satAdd x.stretchesTotal 1 0xFFFFFFFF, stretchSeen := true })

/-- DROOP_DETECTOR_TRIP (R379). -/
def execDroopDetectorTrip (region : Nat) (level : DroopLevel) (s : State) : Host.Outcome State Fault Refusal :=
  if 20 ≤ region then .fault .noSuchUnit
  else if !s.pins.railsOn || !s.vlogOn region || decide (s.clk.bin = 0) then .next s
  else match level with
  | .reservoir => .next (s.reservoirTrip region)
  | .half => .next (s.stretch region 1)
  | .full => .next (s.stretch region 2)

/-- RESERVOIR_RECHARGED (R379): banks that fired are armed again. -/
def execReservoirRecharged (region banks : Nat) (s : State) : Host.Outcome State Fault Refusal :=
  if 20 ≤ region then .fault .noSuchUnit
  else .next (s.modPregion region (fun x => { x with fired := x.fired - banks }))

/-! ### Heat (R387 to R389) -/

/-- A sensor's region or edge group: sensors 0 to 479 are those of the sites, and 480 + 4e to 483 + 4e those of
edge group e. -/
def sensorRegion (i : Nat) : Option Nat := if i < 480 then some (regionOf i) else none
/-- Likewise. -/
def sensorEdge (i : Nat) : Option Nat := if 480 ≤ i ∧ i < 496 then some ((i - 480) / 4) else none

/-- All sensors are read (R387): regions, edge groups, and the trip. -/
def State.readSensors (s : State) (ts : List (Nat × Int)) : State :=
  let s := s.each (fun s r => match hottest ts (fun i => decide (sensorRegion i = some r)) with
    | some t => s.regionRead r t
    | none => s) allRegions
  let s := s.each (fun s e => match hottest ts (fun i => decide (sensorEdge i = some e)) with
    | some t => s.edgeRead e t
    | none => s) (List.range 4)
  match allRegions.find? (fun r => decide (120 ≤ (s.pregion r).temp)) with
  | some r => s.trip 1 r
  | none => match (List.range 4).find? (fun e => decide (120 ≤ SMap.get (0 : Int) s.pwr.edges e)) with
    | some e => s.trip 6 e
    | none => s

/-- SENSOR_READING (R387). -/
def execSensorReading (temps : List (Nat × Int)) (s : State) : Host.Outcome State Fault Refusal :=
  if temps.any (fun t => decide (496 ≤ t.1)) then .fault .noSuchUnit
  else if s.pins.vlnk && s.pins.resetN then .next (s.readSensors temps) else .next s

/-- Whether a region's tiles have completed their issued work (R388 step 2). -/
def State.regionIdle (s : State) (r : Nat) : Bool :=
  (regionSites r).all (fun n => issueStopped (s.tile n) && tileIdle (s.tile n))

/-- VLOG_SWITCH_OFF (R388 step 3). -/
def execVlogSwitchOff (region : Nat) (s : State) : Host.Outcome State Fault Refusal :=
  if 20 ≤ region then .fault .noSuchUnit
  else .next (if (s.pregion region).heatDue && s.regionIdle region then s.vlogOff region else s)

/-! ### Supply faults (R385, R515) -/

/-- RAIL_SHORT (R385): a VLOG or VMEM rail; VHIO and VLNK have rows of their own. -/
def execRailShort (rail : Nat) (s : State) : Host.Outcome State Fault Refusal :=
  if 40 ≤ rail then .fault .noSuchUnit
  else .next (if s.pins.railsOn ∧ !(s.rail rail).short then s.shortRegion rail else s)

/-- A phase is disabled and marked failed (R385). -/
def State.failPhase (s : State) (i phase : Nat) : State :=
  if !s.pins.railsOn ∨ (s.rail i).failed.contains phase then s
  else
    (s.modRail i (fun x => { x with
      failed := x.failed ++ [phase], phaseSeen := true,
      phasesOn := min x.phasesOn (railPhases i - (x.failed.length + 1)) })).logFault
      { unitNote 1 0x0802 5 i with d0 := phase }

/-- PHASE_FAILED (R385). -/
def execPhaseFailed (rail phase : Nat) (s : State) : Host.Outcome State Fault Refusal :=
  if 45 ≤ rail ∨ railPhases rail ≤ phase then .fault .noSuchUnit else .next (s.failPhase rail phase)

/-- VHIO_FAULT (R385). -/
def execVhioFault (edge : Nat) (s : State) : Host.Outcome State Fault Refusal :=
  if 4 ≤ edge then .fault .noSuchUnit
  else .next (if s.pins.railsOn ∧ !(s.rail (40 + edge)).short then s.failEdge edge else s)

/-- SUPPLY_FATAL (R385): VLNK, rail 44, or the input, 0xFF. -/
def execSupplyFatal (unit : Nat) (s : State) : Host.Outcome State Fault Refusal :=
  if unit ≠ 44 ∧ unit ≠ 0xFF then .fault .noSuchUnit
  else .next (if s.pins.vlnk then s.supplyFails unit else s)

/-- INPUT_DIP (R515): below 40 V for 50 µs is fatal, a shorter one is ridden through, and one that stays at or
above 40 V shows in the input voltage. -/
def execInputDip (mV ns : Nat) (s : State) : Host.Outcome State Fault Refusal :=
  if !s.pins.vlnk then .next s
  else if 40000 ≤ mV then .next { s with pins := { s.pins with input := mV } }
  else if ns < 50000 then .next s
  else .next ({ s with pins := { s.pins with input := mV } }.supplyFails 0xFF)

/-! ### Telemetry and energy (R390, R391, R394) -/

/-- A telemetry record (R390). -/
def State.telemRecord (s : State) (w : TelemetryData) : List Byte :=
  let t := s.pwr.telem
  let flags := flagNat t.lost + 2 * flagNat s.pwr.capUnmet + 4 * flagNat s.pwr.inputLimited + 8 * flagNat s.pwr.hinted
  let temps := allRegions.map (fun r => byteOf (s.pregion r).windowTemp.toNat 0)
  leBytes (t.windowEnd - 100000) 8 ++ leBytes t.seq 4 ++ leBytes flags 1 ++ leBytes s.clk.bin 1 ++ zeroBytes 2
    ++ (List.range 45).flatMap (fun i => leBytes (w.currents.getD i 0) 4) ++ leBytes w.vin 4 ++ leBytes w.iin 4
    ++ temps ++ zeroBytes 32

/-- Whether the telemetry ring is full (R390). -/
def Telem.full (t : Telem) : Bool := decide ((t.consumer + t.records - t.producer - 1) % t.records = 0)

/-- A TELEMETRY event after each interval's worth of records (R390, R433). -/
def State.telemEvent (s : State) : State :=
  let t := s.pwr.telem
  if t.sinceEvent < t.interval then s
  else
    let s := s.event 5 none none (leBytes (t.seq - 1) 4 ++ leBytes t.sinceEvent 4 ++ leBytes (flagNat t.droppedSince) 1)
    { s with pwr := { s.pwr with telem := { s.pwr.telem with sinceEvent := 0, droppedSince := false } } }

/-- A telemetry window ends (R390). -/
def State.telemWindow (s : State) (w : TelemetryData) : State :=
  let t := s.pwr.telem
  let s1 := s.each (fun s r => s.modPregion r (fun x => { x with windowTemp := x.temp })) allRegions
  if t.full then
    { s1 with pwr := { s1.pwr with telem := { t with lost := true, droppedSince := true, windowEnd := t.windowEnd + 100000 } } }
  else
    let u := { t with producer := (t.producer + 1) % t.records, seq := t.seq + 1, lost := false,
                      sinceEvent := t.sinceEvent + 1, windowEnd := t.windowEnd + 100000 }
    let s1 := s1.hostOut (t.ring + 256 * t.producer) (s.telemRecord w)
    ({ s1 with pwr := { s1.pwr with telem := u } }).telemEvent

/-- TELEMETRY_WINDOW (R390). -/
def execTelemetryWindow (w : TelemetryData) (s : State) : Host.Outcome State Fault Refusal :=
  .next (if s.pwr.telem.on && decide (s.pwr.telem.windowEnd ≤ s.clk.tide.toNat) && s.pins.vlnk then s.telemWindow w else s)

/-- The modelled total of R394. -/
def Pwr.modelled (p : Pwr) : Nat := p.attributed + p.unattributed + p.overhead

/-- The comparison of R394. -/
def State.compareEnergy (s : State) (measured : Nat) : State :=
  let m := s.pwr.modelled - s.pwr.modelledAt
  let measured := measured * 1000000000000
  let off := decide (measured < 20 * (max m measured - min m measured))
  let run := if off then s.pwr.driftRun + 1 else 0
  let s := { s with pwr := { s.pwr with
      modelledAt := s.pwr.modelled, driftRun := run, driftEnd := s.pwr.driftEnd + 100000000,
      modelDrift := s.pwr.modelDrift || decide (3 ≤ run) } }
  if 3 ≤ run then s.logFault (plainNote 0 0x0807) else s

/-- MODEL_DRIFT (R394). -/
def execModelDrift (measured : Nat) (s : State) : Host.Outcome State Fault Refusal :=
  .next (if decide (s.pwr.driftEnd ≤ s.clk.tide.toNat) && s.pins.vlnk then s.compareEnergy measured else s)

/-- A read of PWR_VMIN (R391): the lowest sample since the last read, whose value is free (log entry 20), and
the latch is armed again. -/
def State.readVmin (s : State) (i : Nat) : State × Nat :=
  let old := SMap.get (0xFFFF, 0) s.pwr.vmins i
  let new := if s.railOffNow i then (0xFFFF, 0) else Config.railLow i s.freeCtr
  let v := if new.1 < old.1 then new else old
  ({ s with freeCtr := s.freeCtr + 1, pwr := { s.pwr with vmins := SMap.set (0xFFFF, 0) s.pwr.vmins i (0xFFFF, 0) } },
   fieldAt v.1 48 16 + v.2 % 2 ^ 48)

/-- PWR_VMIN_READ (R391): the value leaves as a read answer of module 0 (log entry 34). -/
def execPwrVminRead (i : Nat) (s : State) : Host.Outcome State Fault Refusal :=
  if 45 ≤ i then .fault .noSuchUnit
  else
    let r := s.readVmin i
    .next (r.1.emit (.readAnswer 0 0 hsOk (leBytes r.2 8)))

/-! ### Pilot hints (R381) -/

/-- The hint that a PILOT packet carries (R381). -/
def hintOf (p : Packet) : Heavy :=
  ⟨leNat (p.payload.take 8), leNat ((p.payload.drop 8).take 2), leNat ((p.payload.drop 10).take 1) % 8⟩

/-- PILOT_PACKET (R381, R382): a hint reaches the power block. -/
def execPilotPacket (p : Packet) (s : State) : Host.Outcome State Fault Refusal :=
  if p.typ ≠ tyPilot ∨ !s.meshOn then .next s
  else
    let part := leNat ((p.payload.drop 11).take 1)
    let s := s.takeFlight p (.dest p.dsite.toNat 5)
    .next (if part < 20 then (s.takeHint part (hintOf p)).setVlogs else s)

end Sys2Proof.Machine
end

