-- ==== Sys2Proof/Machine/DevRegs.lean ====
section
/-! DEFINITION. The device registers: what each reads as, and what a write by the host does (R14, R212, R290,
R344 to R346, R369, R395, R427, R428, R467, R492, R508 to R511). -/

namespace Sys2Proof.Machine

/-- Base of the device register space (R342). -/
def devBase : Nat := 0x200000000000

/-! ### Host attachment and harbour master (R427, R428, R467, R511) -/

/-- STATE of UCI_MODULE. -/
def ModSt.code : ModSt → Nat
  | .down => 0 | .sidebandOnly => 1 | .training => 2 | .up => 3 | .retraining => 4 | .outOfService => 5

/-- Whether a module is in service. -/
def ModSt.inService (m : ModSt) : Bool := match m with
  | .up => true
  | .retraining => true
  | _ => false

/-- UCI_ID. -/
def uciId (f : ModuleFacts) : Nat :=
  fieldAt 0x7E1A 48 16 + fieldAt 0x0114 32 16 + fieldAt f.hbmStacks 24 8 + fieldAt f.linkDies 20 4 + fieldAt f.grade 16 4
    + fieldAt f.stepping.toNat 8 8

/-- UCI_STATUS. -/
def State.uciStatus (s : State) : Nat :=
  ((List.range 4).map (fun m => fieldAt (flagNat (s.uciModule m).state.inService) (8 + m) 1)).sum + s.bring.phase.code

/-- UCI_RING_BASE. -/
def uciRingBase (u : Uci) : Nat := u.ringBase * 4096 + fieldAt (flagNat u.enable) 5 1 + u.sizeLog2 % 32

/-- UCI_RING_PTR. -/
def uciRingPtr (u : Uci) : Nat :=
  u.producer % 65536 + fieldAt (flagNat u.phase) 16 1 + fieldAt (flagNat u.ringFull) 17 1 + fieldAt u.consumer 32 16

/-- UCI_IRQ_CTRL. -/
def uciIrqCtrl (u : Uci) : Nat := u.moderation % 256 + fieldAt (flagNat u.irqEnable) 8 1 + fieldAt u.irqData 32 32

/-- UCI_MODULE[m]. -/
def uciModuleWord (m : UciModule) : Nat :=
  m.state.code + fieldAt m.speed 16 2 + fieldAt m.repaired 24 8 + fieldAt m.writeErrors 32 16 + fieldAt m.retries 48 16

/-- The UCI_ registers. -/
def State.uciRead (s : State) (o : Nat) : Nat :=
  if o = 0x00 then uciId s.facts
  else if o = 0x08 then s.uciStatus
  else if o = 0x10 then s.bring.bootPtr.toNat
  else if o = 0x18 then uciRingBase s.uci
  else if o = 0x20 then uciRingPtr s.uci
  else if o = 0x28 then s.uci.irqAddr.toNat
  else if o = 0x30 then uciIrqCtrl s.uci
  else if 0x40 ≤ o ∧ o < 0x60 then uciModuleWord (s.uciModule ((o - 0x40) / 8))
  else 0

/-- Bytes that intake holds (R402). -/
def Hm.held4 (h : Hm) : Nat := (h.intake.map (fun p => p.bytes.length / 4)).sum

/-- HM_INTAKE. -/
def State.hmIntake (s : State) : Nat :=
  (65536 - s.hm.held4) + fieldAt s.unanswered 28 10 + fieldAt s.hm.refused 48 16

/-- HM_BRINGUP. -/
def State.hmBringup (s : State) : Nat :=
  let b := s.bring
  s.shownGood + fieldAt b.readyMs 16 16 + fieldAt b.licenceFails 40 8 + fieldAt b.verifyFails 50 2
    + fieldAt b.haltPhase 52 4 + fieldAt b.haltCause 56 8

/-- The entry that is HANDLING. -/
def FaultLog.handling (l : FaultLog) : Option LogEntry :=
  ((List.range 256).filterMap l.at).find? (fun e => decide (e.st = .handling))

/-- HM_FAULT_STATUS: NEXT_INDEX is the index that a new entry would take now (R497, R511). -/
def hmFaultStatus (l : FaultLog) : Nat :=
  l.fixedRefused % 65536 + fieldAt l.dropped 16 16 + fieldAt l.unhandled 32 7 + fieldAt l.held 39 9 + fieldAt (l.freeAt.getD l.next) 48 8
    + fieldAt l.highest 56 3 + (match l.handling with | some e => fieldAt 1 59 1 + fieldAt e.note.sev 60 3 | none => 0)
    + fieldAt (flagNat l.storm) 63 1

/-- HM_PARTITION[p]. -/
def hmPartition (p : Partn) : Nat :=
  fieldAt p.c0 4 2 + fieldAt p.c1 6 2 + fieldAt p.r0 8 3 + fieldAt p.r1 11 3 + fieldAt (flagNat p.running.isSome) 31 1
    + fieldAt (p.running.getD 0) 32 3 + fieldAt (flagNat p.switching.isSome) 35 1 + fieldAt p.quantum 40 16
    + fieldAt (flagNat p.valid) 63 1

/-- STATE of HM_CONTEXT. -/
def CtxSt.code : CtxSt → Nat
  | .none => 0 | .idle => 1 | .loading => 2 | .running => 3 | .ready => 4 | .paused => 5

/-- HM_CONTEXT[n]. -/
def hmContext (c : Ctxt) : Nat :=
  c.state.code + fieldAt (ceilDiv c.volume 0x10000000) 24 8 + fieldAt c.switches.toNat 32 32

/-- The HM_ registers. -/
def State.hmRead (s : State) (o : Nat) : Nat :=
  if o = 0x00 then s.hmIntake
  else if o = 0x08 then s.hmBringup
  else if o = 0x10 then hmFaultStatus s.faults
  else if 0x100 ≤ o ∧ o < 0x1A0 then hmPartition (s.part ((o - 0x100) / 8))
  else if 0x200 ≤ o ∧ o < 0x700 then hmContext (s.ctx ((o - 0x200) / 8))
  else 0

/-! ### Clocks and power (R369, R395) -/

/-- CLK_STATUS. TILE_LIMIT reads its reset value 0 until the floor plan is published (DESIGN CHOICE, log 127). -/
def State.clkStatus (s : State) : Nat :=
  let c := s.clk
  ((allRegions.map (fun r => fieldAt (flagNat (s.cregion r).oscFailed) r 1)).sum) + fieldAt (flagNat c.riseCancelled) 30 1
    + fieldAt (flagNat c.refOk) 31 1 + fieldAt (flagNat c.meshLocked) 32 1 + fieldAt (flagNat c.quiescent) 33 1
    + fieldAt (flagNat c.change.isSome) 34 1 + fieldAt (flagNat c.stress) 35 1 + fieldAt c.binding 36 2
    + fieldAt (if s.bring.published then s.tileLimit else 0) 38 7 + fieldAt c.bin 45 7

/-- CLK_PENDING. -/
def clkPending (c : Clk) : Nat :=
  match c.change with
  | some x => fieldAt x.oldBin 49 7 + fieldAt x.newBin 56 7 + fieldAt 1 63 1
  | none => 0

/-- CLK_REGION[r]: PROPOSAL and REASON read 0 with VLOG off and before READY (R369, R533). -/
def State.clkRegionWord (s : State) (r : Nat) : Nat :=
  let x := s.cregion r
  let on := s.bring.published && s.proposes r
  flagNat x.stretchSeen + fieldAt (flagNat x.skipSeen) 1 1 + fieldAt (flagNat x.oscFailed) 2 1 + fieldAt x.slip 16 16
    + fieldAt x.stretches 32 8 + fieldAt (s.pregion r).skip 49 6 + fieldAt (if on then x.reason else 0) 55 2
    + fieldAt (if on then x.proposal else 0) 57 7

/-- The CLK_ registers. -/
def State.clkRead (s : State) (o : Nat) : Nat :=
  if o = 0x00 then s.clkStatus
  else if o = 0x08 then s.clk.tide.toNat
  else if o = 0x10 then s.clk.position % 64 + fieldAt (twosOf s.clk.steps 32) 6 32
  else if o = 0x18 then s.clk.ceiling % 128
  else if o = 0x20 then clkPending s.clk
  else if o = 0x28 then s.clk.target.toNat
  else if 0x100 ≤ o ∧ o < 0x1A0 then s.clkRegionWord ((o - 0x100) / 8)
  else if 0x200 ≤ o ∧ o < 0x2A0 then
    (s.cregion ((o - 0x200) / 8)).slipTotal % 2 ^ 32 + fieldAt (s.cregion ((o - 0x200) / 8)).stretchesTotal 32 32
  else 0

/-- PWR_STATUS. -/
def pwrStatus (p : Pwr) : Nat :=
  p.sharesOver % 16 + fieldAt (flagNat p.inputLimited) 11 1 + fieldAt (flagNat p.modelDrift) 12 1
    + fieldAt (flagNat p.capUnmet) 13 1 + fieldAt (flagNat p.hinted) 14 1 + fieldAt (flagNat p.telem.on) 15 1

/-- PWR_RAIL[i]. -/
def State.pwrRail (s : State) (i : Nat) : Nat :=
  let x := s.rail i
  flagNat x.lowMargin + fieldAt (flagNat (s.railOffNow i)) 1 1 + fieldAt (flagNat x.phaseSeen) 2 1
    + fieldAt (flagNat x.abnormal) 3 1 + fieldAt (flagNat x.short) 4 1 + fieldAt (s.railLimit i) 10 10
    + fieldAt x.current 20 16 + fieldAt x.setting 36 12 + fieldAt (min x.failed.length 15) 48 4

/-- PWR_REGION[r]. -/
def State.pwrRegionWord (s : State) (r : Nat) : Nat :=
  let x := s.pregion r
  flagNat x.firedSeen + fieldAt (flagNat x.unheraldedSeen) 1 1 + fieldAt (flagNat x.offSeen) 2 1
    + fieldAt (flagNat x.hotSeen) 3 1 + fieldAt (flagNat x.thermalOff) 4 1 + fieldAt x.firings 11 8
    + fieldAt x.unheralded 19 16 + fieldAt (flagNat x.heavy.isSome) 35 1 + fieldAt (x.heavy.getD 0) 36 3
    + fieldAt (s.banksArmed r) 39 5 + fieldAt (if x.heatDue then 56 else x.skipThermal) 44 6 + fieldAt x.skipPower 50 6
    + fieldAt x.temp.toNat 56 8

/-- The PWR_ registers (R395) but for PWR_VMIN, whose read changes it. DESIGN CHOICE: by R395's offsets PWR_RAIL[32]
to [44] and PWR_VMIN[0] to [12] share addresses, as do PWR_VMIN[32] to [44] and PWR_REGION[0] to [12]; here each array
ends where the next begins (log 4). -/
def State.pwrRead (s : State) (o : Nat) : Nat :=
  if o = 0x00 then pwrStatus s.pwr
  else if o = 0x08 then s.pwr.cap % 65536 + fieldAt s.pwr.effective 32 16
  else if o = 0x10 then s.pwr.pin % 65536 + fieldAt s.pwr.iin 16 16 + fieldAt s.pwr.vin 32 16
  else if o = 0x18 then s.pwr.telem.producer % 65536 + fieldAt s.pwr.telem.consumer 32 16
  else if 0x100 ≤ o ∧ o < 0x200 then s.pwrRail ((o - 0x100) / 8)
  else if 0x300 ≤ o ∧ o < 0x3A0 then s.pwrRegionWord ((o - 0x300) / 8)
  else 0

/-! ### Security (R492) -/

/-- Two bits for each source. -/
def twoBits (xs : List Nat) : Nat := ((List.range xs.length).map (fun i => fieldAt (xs.getD i 0) (2 * i) 2)).sum

/-- Failed unwraps of the last 100,000,000 tide counts (R479). -/
def State.unwrapWindow (s : State) : List Word :=
  s.sec.unwraps.filter (fun t => decide ((s.clk.tide - t).toNat < 100000000))

/-- SEC_STATUS. -/
def State.secStatus (s : State) : Nat :=
  fieldAt (flagNat s.sec.session.isSome) 24 1 + fieldAt (flagNat s.sec.identityOk) 25 1 + fieldAt s.sec.lastResponse 26 2
    + fieldAt s.sec.lastSource 28 3 + fieldAt (flagNat s.pins.alarmLow) 31 1 + fieldAt s.unwrapWindow.length 32 8

/-- SEC_FUSES. -/
def secFuses (f : Fuses) : Nat :=
  twoBits f.floors + twoBits f.defaults * 2 ^ 14 + fieldAt (flagNat f.identityEnd) 29 1
    + fieldAt (flagNat f.secureDebug) 30 1 + fieldAt (flagNat f.terminalEn) 31 1 + fieldAt f.secver 32 6

/-- The alarm of a source. -/
def Sec.alarm (s : Sec) (i : Nat) : Alarm := s.alarms.getD i (Alarm.clear 0)

/-- SEC_ALARM[s]. -/
def State.secAlarm (s : State) (i : Nat) : Nat :=
  let a := s.sec.alarm i
  a.lastAt.toNat % 2 ^ 48 + fieldAt (flagNat a.seen) 49 1 + fieldAt (a.applied.getD 0) 50 2 + fieldAt a.response 52 2
    + fieldAt (s.facts.fuses.floors.getD i 0) 54 2 + fieldAt (min a.count 0xFF) 56 8

/-- SEC_PART[p]. -/
def State.secPart (s : State) (p : Nat) : Nat :=
  let x := s.part p
  ((List.range 8).map (fun c => fieldAt (flagNat (s.ctx (ctxNo p c)).debug) (8 + c) 1)).sum
    + fieldAt (flagNat x.switchKey) 4 1 + fieldAt (flagNat x.xferKey.isSome) 5 1 + fieldAt (flagNat x.hbmKey.isSome) 6 1
    + fieldAt (flagNat x.confidential) 7 1

/-- The SEC_ registers. -/
def State.secRead (s : State) (o : Nat) : Nat :=
  if o = 0x00 then s.secStatus
  else if o = 0x08 then secFuses s.facts.fuses
  else if 0x100 ≤ o ∧ o < 0x138 then s.secAlarm ((o - 0x100) / 8)
  else if 0x200 ≤ o ∧ o < 0x2A0 then s.secPart ((o - 0x200) / 8)
  else 0

/-! ### Memory, fabric and network (R212, R290, R346) -/

/-- STATE of HBM_STACK. -/
def StackSt.code : StackSt → Nat
  | .absent => 0 | .training => 1 | .inService => 2 | .outOfService => 3 | .failed => 4

/-- HBM_STACK[k] (R346): no band counts as free before the stack's training ends. -/
def State.hbmStackWord (s : State) (k : Nat) : Nat :=
  let x := s.stack k
  x.state.code + fieldAt (flagNat (decide (85 < x.temp))) 8 1 + fieldAt x.repaired 24 8
    + fieldAt (if x.state = .absent ∨ x.state = .training then 0 else s.freeBands k) 32 12 + fieldAt x.temp 48 8

/-- HBM_ERRORS[k]. -/
def hbmErrorsWord (x : Stack) : Nat :=
  x.patrolPasses % 65536 + fieldAt x.outOfGrant 16 8 + fieldAt x.refused 24 8 + fieldAt x.shelfMismatch 32 8
    + fieldAt x.uncorrected 40 8 + fieldAt x.corrected 48 16

/-- HBM_PART[p]. -/
def hbmPartWord (p : Partn) : Nat :=
  fieldAt (flagNat p.held.isLocal) 4 1 + fieldAt (flagNat p.hbmKey.isSome) 5 1 + fieldAt (flagNat p.confidential) 6 1
    + fieldAt (flagNat p.valid) 7 1 + fieldAt (if p.held.isLocal then 0 else p.held.hbmStacks.length) 8 5

/-- HBM_GRANT[m]. -/
def hbmGrantWord (p : Partn) (k : Nat) : Nat := (p.held.on k).1 % 4096 + fieldAt (p.held.on k).2 16 12

/-- The HBM_ registers. -/
def State.hbmRegRead (s : State) (o : Nat) : Nat :=
  if o = 0x00 then s.hbm.patrolHours % 256 + fieldAt (flagNat s.hbm.patrolEn) 8 1
  else if 0x100 ≤ o ∧ o < 0x1C0 then s.hbmStackWord ((o - 0x100) / 8)
  else if 0x200 ≤ o ∧ o < 0x2C0 then hbmErrorsWord (s.stack ((o - 0x200) / 8))
  else if 0x300 ≤ o ∧ o < 0x3A0 then hbmPartWord (s.part ((o - 0x300) / 8))
  else if 0x1000 ≤ o ∧ o < 0x1F00 then
    let m := (o - 0x1000) / 8
    hbmGrantWord (s.part (m / 24)) (m % 24)
  else 0

/-- FAB_CONFIG. -/
def fabConfig (f : Fab) : Nat :=
  f.self.toNat + fieldAt f.root.toNat 15 15 + fieldAt (f.sx - 1) 30 5 + fieldAt (f.sy - 1) 35 5 + fieldAt (f.sz - 1) 40 5
    + fieldAt (flagNat f.wrapX) 45 1 + fieldAt (flagNat f.wrapY) 46 1 + fieldAt (flagNat f.wrapZ) 47 1
    + fieldAt (flagNat f.pairSide) 48 1 + fieldAt (flagNat f.pairEn) 49 1 + fieldAt f.rgen.toNat 52 4

/-- FAB_TIDE_STATUS. -/
def fabTideStatus (f : Fab) : Nat :=
  twosOf (f.offset / 1024) 16 + fieldAt f.depth 48 8 + fieldAt (f.parent.getD 0xF) 56 4
    + fieldAt (flagNat f.offsetLarge) 60 1 + fieldAt (flagNat f.tideLost) 61 1 + fieldAt (flagNat f.isRoot) 62 1
    + fieldAt (flagNat f.locked) 63 1

/-- FAB_EXPORT[a]. -/
def fabExport (on : Bool) (base lost : Nat) : Nat := base % 2 ^ 48 + fieldAt lost 48 8 + fieldAt (flagNat on) 63 1

/-- STATE of FAB_LINK_STATUS. -/
def LinkSt.code : LinkSt → Nat
  | .absent => 0 | .down => 1 | .training => 2 | .up => 3 | .retraining => 4 | .failed => 5 | .miswired => 6 | .idle => 7

/-- FAB_LINK_STATUS[p]. -/
def fabLinkStatus (l : Link) : Nat :=
  l.state.code + fieldAt l.width 8 2 + fieldAt l.speed 10 2 + fieldAt l.delay.toNat 16 16
    + fieldAt (l.peer.getD 0).toNat 32 15 + fieldAt (flagNat l.peer.isSome) 47 1

/-- FAB_LINK_ERRORS[p]. -/
def fabLinkErrors (l : Link) : Nat :=
  l.unreach % 256 + fieldAt l.stale 8 8 + fieldAt l.loop 16 4 + fieldAt l.retrains 20 4 + fieldAt l.replays 24 8
    + fieldAt l.fecUncorr 32 8 + fieldAt l.fecCorr 40 24

/-- The FAB_ registers. -/
def State.fabRead (s : State) (o : Nat) : Nat :=
  if o = 0x00 then fabConfig s.fab
  else if o = 0x08 then s.fab.dirX.toNat
  else if o = 0x10 then s.fab.dirY.toNat
  else if o = 0x18 then s.fab.dirZ.toNat
  else if o = 0x20 then fabTideStatus s.fab
  else if o = 0x28 then fabExport s.fab.exportA s.fab.baseA s.fab.lostA
  else if o = 0x30 then fabExport s.fab.exportB s.fab.baseB s.fab.lostB
  else if 0x100 ≤ o ∧ o < 0x140 then fabLinkStatus (s.link ((o - 0x100) / 8))
  else if 0x140 ≤ o ∧ o < 0x180 then fabLinkErrors (s.link ((o - 0x140) / 8))
  else 0

/-- NET_SW_STATUS: the state of the device scope and of the partition scopes (R212). -/
def State.netSwStatus (s : State) : Nat :=
  let code (k : Scope) : Nat := match s.scopeSt k with
    | none => 0
    | some r => match r.st with
      | .draining => 1
      | .slack => 2
  ((List.range 20).map (fun p => fieldAt (code (.part p)) (2 * p) 2)).sum + fieldAt (code .device) 40 2

/-- The NET_ device registers. -/
def State.netDevRead (s : State) (o : Nat) : Nat :=
  if o = 0 then s.netSwStatus else if o = 8 then s.net.ackTimeout % 32 else 0

/-- The register at an offset of the device register space, and the state after the read (R344); routers'
registers are read over the mesh. -/
def State.devRead (s : State) (o : Nat) : State × Nat :=
  if o < 0x10000 then (s, s.hmRead o)
  else if o < 0x20000 then (s, s.clkRead (o - 0x10000))
  else if 0x20200 ≤ o ∧ o < 0x20300 then s.readVmin ((o - 0x20200) / 8)
  else if o < 0x30000 then (s, s.pwrRead (o - 0x20000))
  else if o < 0x40000 then (s, s.secRead (o - 0x30000))
  else if o < 0x50000 then (s, s.hbmRegRead (o - 0x40000))
  else if o < 0x60000 then (s, s.fabRead (o - 0x50000))
  else if o < 0x70000 then (s, s.uciRead (o - 0x60000))
  else if 0x100000 ≤ o ∧ o < 0x110000 then (s, s.netDevRead (o - 0x100000))
  else (s, 0)

/-! ### Writes (R508 to R510) -/

/-- A write to a fixed field whose owner runs (R508): ignored, counted and logged. -/
def State.fixedRefused (s : State) (addr : Nat) : State :=
  ({ s with faults := { s.faults with fixedRefused := satAdd s.faults.fixedRefused 1 0xFFFF } }).logFault
    { plainNote 0 0x0A05 with d0 := addr }

/-- UCIe modules in service (R398). -/
def State.modulesUp (s : State) : List Nat := (List.range 4).filter (fun m => (s.uciModule m).state.inService)

/-- The image fetch begins (R451); where no module is in service the device halts (R398). -/
def State.startFetch (s : State) : State :=
  let a := s.bring.bootPtr.toNat
  if s.modulesUp = [] then s.halt causeNoUcie
  else ({ s with bring := { s.bring with fetch := some ⟨[], a, false⟩ } }).emit (.hostFetch a 4096)

/-- LOADING begins (R398, R451, R454): the mainband trains first, where it has not yet. -/
def State.startLoading (s : State) (v : Word) : State :=
  let waited := match s.bring.waitFrom with
    | some t => s.bring.waited + (s.clk.tide - t).toNat
    | none => s.bring.waited
  let s := { s with bring := { s.bring with
    bootPtr := v, phase := .loading, haltCause := 0, waited := waited, waitFrom := none, fetch := none } }
  if s.bring.mainband then s.startFetch
  else s.each (fun s m => s.modUciModule m (fun x => { x with state := .training })) (List.range 4)

/-- Whether UCI_BOOT_PTR may be written (R454, R508). -/
def State.bootOpen (s : State) : Bool :=
  decide (s.bring.verifyFails < 3)
    && (decide (s.bring.phase = .ident) || (decide (s.bring.phase = .halted) && decide (s.bring.haltPhase = 2)))

/-- A write of UCI_BOOT_PTR (R427, R451, R454). -/
def State.writeBootPtr (s : State) (v : Word) : State :=
  if s.bring.phase = .dark then s
  else if !s.bootOpen then s.fixedRefused (devBase + 0x60010)
  else if v.toNat % 4096 ≠ 0 then s
  else if v = 0 then { s with bring := { s.bring with bootPtr := 0 } }
  else s.startLoading v

/-- A write of UCI_RING_BASE (R404, R427, R508). -/
def State.writeRingBase (s : State) (v : Word) : State :=
  if s.bring.phase = .dark then s
  else
    let base := v.toNat / 4096
    let size := bitsOf v.toNat 0 5
    let on := bitOf v.toNat 5
    let u := s.uci
    let s := if u.enable && (decide (base ≠ u.ringBase) || decide (size ≠ u.sizeLog2)) then
      s.fixedRefused (devBase + 0x60018) else s
    let u := if u.enable then u
      else { u with ringBase := base, sizeLog2 := if 6 ≤ size ∧ size ≤ 16 then size else u.sizeLog2 }
    let u := if on && !u.enable then { u with producer := 0, phase := true, recSeq := 0 } else u
    { s with uci := { u with enable := on, producer := u.producer, backlog := s.uci.backlog, waiting := s.uci.waiting } }

/-- A write of UCI_RING_PTR (R404, R427). -/
def State.writeRingPtr (s : State) (v : Word) : State :=
  if s.bring.phase = .dark then s
  else { s with uci := { s.uci with consumer := bitsOf v.toNat 32 16, ringFull := w1c s.uci.ringFull v.toNat 17 } }

/-- A write of PWR_TELEM_PTR (R390, R395). -/
def State.writeTelemPtr (s : State) (v : Word) : State :=
  let c := bitsOf v.toNat 32 16
  if c < s.pwr.telem.records then { s with pwr := { s.pwr with telem := { s.pwr.telem with consumer := c } } } else s

/-- Writes of the other UCI_ registers (R427). -/
def State.uciWrite (s : State) (o v : Nat) : State :=
  if s.bring.phase = .dark then s
  else if o = 0x10 then s.writeBootPtr (BitVec.ofNat 64 v)
  else if o = 0x18 then s.writeRingBase (BitVec.ofNat 64 v)
  else if o = 0x20 then s.writeRingPtr (BitVec.ofNat 64 v)
  else if o = 0x28 then { s with uci := { s.uci with irqAddr := BitVec.ofNat 64 v } }
  else if o = 0x30 then
    { s with uci := { s.uci with
        moderation := bitsOf v 0 8, irqEnable := bitOf v 8, irqData := bitsOf v 32 32 } }
  else s

/-- Writes of the CLK_ registers (R369): W1C bits. -/
def State.clkWrite (s : State) (o v : Nat) : State :=
  if o = 0x00 then { s with clk := { s.clk with riseCancelled := w1c s.clk.riseCancelled v 30 } }
  else if 0x100 ≤ o ∧ o < 0x1A0 then
    s.modCregion ((o - 0x100) / 8) (fun x => { x with
      skipSeen := w1c x.skipSeen v 1, stretchSeen := w1c x.stretchSeen v 0 })
  else s

/-- Writes of the PWR_ registers (R395). -/
def State.pwrWrite (s : State) (o v : Nat) : State :=
  if o = 0x00 then
    { s with pwr := { s.pwr with capUnmet := w1c s.pwr.capUnmet v 13, modelDrift := w1c s.pwr.modelDrift v 12 } }
  else if o = 0x18 then s.writeTelemPtr (BitVec.ofNat 64 v)
  else if 0x100 ≤ o ∧ o < 0x200 then
    s.modRail ((o - 0x100) / 8) (fun x => { x with abnormal := w1c x.abnormal v 3, phaseSeen := w1c x.phaseSeen v 2 })
  else if 0x300 ≤ o ∧ o < 0x3A0 then
    s.modPregion ((o - 0x300) / 8) (fun x => { x with
      hotSeen := w1c x.hotSeen v 3, offSeen := w1c x.offSeen v 2, unheraldedSeen := w1c x.unheraldedSeen v 1,
      firedSeen := w1c x.firedSeen v 0 })
  else s

/-- Writes of the SEC_ registers (R492). -/
def State.secWrite (s : State) (o v : Nat) : State :=
  if 0x100 ≤ o ∧ o < 0x138 then
    let i := (o - 0x100) / 8
    let a := s.sec.alarm i
    { s with sec := { s.sec with alarms := s.sec.alarms.set i { a with seen := w1c a.seen v 49 } } }
  else s

/-- Writes of HBM_CONFIG (R346, R509, R510): PATROL_EN at once, PATROL_HOURS at the next tide mark. -/
def State.hbmConfigWrite (s : State) (v : Nat) : State :=
  { s with hbm := { s.hbm with
      patrolEn := bitOf v 8, hoursNext := if bitsOf v 0 8 = 0 then s.hbm.hoursNext else some (bitsOf v 0 8) } }

/-- Writes of NET_CONFIG (R212, R509, R510). -/
def State.netConfigWrite (s : State) (v : Nat) : State :=
  let a := bitsOf v 0 5
  { s with net := { s.net with ackNext := if 16 ≤ a ∧ a ≤ 30 then some a else s.net.ackNext } }

/-- Writes of FAB_TIDE_STATUS (R290). -/
def State.fabWrite (s : State) (o v : Nat) : State :=
  if o = 0x20 then
    { s with fab := { s.fab with tideLost := w1c s.fab.tideLost v 61, offsetLarge := w1c s.fab.offsetLarge v 60 } }
  else s

/-- Writes of the HM_ registers (R511): HIGHEST is cleared by writing 0b111. -/
def State.hmWrite (s : State) (o v : Nat) : State :=
  if o = 0x10 ∧ bitsOf v 56 3 = 7 then { s with faults := { s.faults with highest := 0 } } else s

/-- A write of the register at an offset of the device register space (R344). -/
def State.devWrite (s : State) (o v : Nat) : State :=
  if o < 0x10000 then s.hmWrite o v
  else if o < 0x20000 then s.clkWrite (o - 0x10000) v
  else if o < 0x30000 then s.pwrWrite (o - 0x20000) v
  else if o < 0x40000 then s.secWrite (o - 0x30000) v
  else if o < 0x50000 then (if o = 0x40000 then s.hbmConfigWrite v else s)
  else if o < 0x60000 then s.fabWrite (o - 0x50000) v
  else if o < 0x70000 then s.uciWrite (o - 0x60000) v
  else if o = 0x100008 then s.netConfigWrite v
  else if 0x1000000 ≤ o ∧ o < 0x1000000 + 480 * 0x10000 then
    s.netWrite ((o - 0x1000000) / 0x10000) ((o - 0x1000000) % 0x10000) v
  else s

/-! ### Rows of single registers -/

/-- Whether the register space is served: by the sideband from IDENT on for UCI_, by the mainband from LOADING
on for the rest (R400, R427). -/
def State.regsServed (s : State) : Bool :=
  s.pins.vlnk && s.pins.resetN && !decide (s.bring.phase = .dark)

/-- UCI_BOOT_PTR_WRITE (R451, R454). -/
def execUciBootPtrWrite (v : Word) (s : State) : Host.Outcome State Fault Refusal :=
  .next (if s.regsServed then s.writeBootPtr v else s)

/-- UCI_RING_BASE_WRITE (R427). -/
def execUciRingBaseWrite (v : Word) (s : State) : Host.Outcome State Fault Refusal :=
  .next (if s.regsServed then s.writeRingBase v else s)

/-- UCI_RING_PTR_WRITE (R404). -/
def execUciRingPtrWrite (v : Word) (s : State) : Host.Outcome State Fault Refusal :=
  .next (if s.regsServed then s.writeRingPtr v else s)

/-- PWR_TELEM_PTR_WRITE (R390). -/
def execPwrTelemPtrWrite (v : Word) (s : State) : Host.Outcome State Fault Refusal :=
  .next (if s.regsServed then s.writeTelemPtr v else s)

/-- TS_COMPLETION_WRITE (R176): the host's write of a completion counter. -/
def execTsCompletionWrite (t n : Nat) (v : Word) (s : State) : Host.Outcome State Fault Refusal :=
  if 480 ≤ t ∨ 4096 ≤ n then .fault .noSuchUnit
  else .next (if s.tileOn t then s.modTile t (fun x => writeComp x n v.toNat) else s)

/-- A write of one whole register by its device address (R344, R510). -/
def State.regWrite (s : State) (addr v : Nat) : State :=
  if addr % 8 ≠ 0 then s
  else if devBase ≤ addr ∧ addr < devBase + 0x2E00000 then s.devWrite (addr - devBase) v
  else if tileWindow ≤ addr ∧ addr < tileWindow + 480 * tileWindowSize then
    let t := (addr - tileWindow) / tileWindowSize
    let o := (addr - tileWindow) % tileWindowSize
    if 0x7F00000 ≤ o ∧ o < 0x7F09000 ∧ s.tileOn t then s.modTile t (fun x => tsWrite x (o - 0x7F00000) v) else s
  else s

/-- REGISTER_WRITE (R510). -/
def execRegisterWrite (addr : Nat) (v : Word) (s : State) : Host.Outcome State Fault Refusal :=
  .next (if s.regsServed then s.regWrite addr v.toNat else s)

end Sys2Proof.Machine
end

