-- ==== Sys2Proof/Machine/CmdIdentity.lean ====
section
/-! DEFINITION. The identity, status, configuration and licence commands (R438, R439, R457 to R459, R463 to
R465). -/

namespace Sys2Proof.Machine

/-- Cut or fill a byte string to a length. -/
def fitBytes (n : Nat) (bs : List Byte) : List Byte := (bs ++ zeroBytes n).take n

/-! ### Identity (R473) -/

/-- The device hash (R473). -/
def State.deviceHash (s : State) : List Byte :=
  let k := Config.identityKeys s.facts.fuses.seed
  fitBytes 48 (Config.sha384 (fitBytes 384 k.1 ++ fitBytes 48 k.2))

/-- IDENTIFY (R438). -/
def opIdentify (c : Call) (s : State) : State :=
  s.answer c stOk (leBytes (uciId s.facts) 8 ++ leBytes s.bring.fwver 4 ++ leBytes s.facts.fuses.secver 2 ++ zeroBytes 2
    ++ (if s.sec.identityOk then s.deviceHash else zeroBytes 48))

/-- The flags of STATUS (R438). -/
def State.statusFlags (s : State) : Nat :=
  flagNat s.uci.ringFull + fieldAt (flagNat s.pins.alarmLow) 1 1 + fieldAt (flagNat s.faults.storm) 2 1

/-- STATUS (R438). UNANSWERED counts the STATUS itself, whose answer carries it. -/
def opStatus (c : Call) (s : State) : State :=
  s.answer c stOk (leBytes s.bring.phase.code 1 ++ leBytes s.clk.bin 1 ++ leBytes s.shownGood 2 ++ leBytes (s.unanswered + 1) 2
    ++ leBytes s.statusFlags 1 ++ zeroBytes 1
    ++ leBytes ((allParts.map (fun p => fieldAt (flagNat (s.part p).valid) p 1)).sum) 4 ++ leBytes s.faults.held 2
    ++ zeroBytes 2)

/-! ### The floor plan (R457 to R459) -/

/-- The state of an attachment port in the floor plan (R459). -/
def State.attachState (s : State) (site port : Nat) : Nat :=
  let a := attachAt site port
  let down := a.sites.any s.bypassed
  match a with
  | .nothing => 0
  | .hbm k =>
    if !stackFitted s.facts k then 2
    else if down then 3
    else match (s.stack k).state with
    | .inService => 1
    | .outOfService => 3
    | .failed => 4
    | _ => 5
  | .link l _ =>
    if !linkFitted s.facts l then 2
    else if down then 3
    else if s.bring.published || !(decide ((s.link l).state = .down) || decide ((s.link l).state = .training)
        || decide ((s.link l).state = .absent)) then 1 else 5
  | .ucie m =>
    match (s.uciModule m).state with
    | .up => if down then 3 else 1
    | .retraining => 1
    | .outOfService => if (s.uciModule m).lost then 4 else 3
    | _ => if down then 3 else 5

/-- STATUS and REASON of a site as the floor plan shows them: untested before publication (R457, R460). -/
def State.shownStatus (s : State) (n : Nat) : Nat × Nat :=
  let x := s.siteRec n
  if !s.bring.published && decide (x.status = 0) then (4, 0) else (x.status, x.reason)

/-- The flags of a site record (R457). -/
def State.siteFlags (s : State) (n : Nat) : Nat :=
  let r := regionOf n
  let shown (b : Bool) : Nat := flagNat (s.bring.published && b)
  flagNat (s.bypassed n) + fieldAt (shown (s.tile n).integ.suspect) 1 1 + fieldAt (shown (s.pregion r).thermalOff) 2 1
    + fieldAt (shown (s.regionDown r)) 3 1

/-- A site record (R457). -/
def State.siteBytes (s : State) (n : Nat) : List Byte :=
  let x := s.siteRec n
  let st := s.shownStatus n
  leBytes n 2 ++ leBytes st.1 1 ++ leBytes (s.siteFlags n) 1 ++ leBytes (s.fusedBin n) 1
    ++ leBytes (if s.bring.published then s.serviceBin n else s.fusedBin n) 1
    ++ leBytes (if s.bring.published then (s.pregion (regionOf n)).ageing else 0) 1 ++ leBytes st.2 1
    ++ leBytes (s.attachState n 5) 1 ++ leBytes (s.attachState n 6) 1 ++ leBytes x.retiredAt.toNat 6

/-- READ_FLOORPLAN (R438). -/
def opReadFloorplan (c : Call) (buf len : Nat) (s : State) : State :=
  s.check c [(bufOk buf, stBadParam)] (fun s =>
    if len < 7680 then s.tooSmall c 7680
    else (s.hostOut buf (allSites.flatMap s.siteBytes)).answer c stOk (leBytes 7680 8))

/-- The 64 bytes of a log index (R497, R498): an index with no entry since the log was cleared holds zeros. -/
def FaultLog.bytesAt (l : FaultLog) (i : Nat) : List Byte :=
  match l.at i with
  | some e => e.bytes
  | none => zeroBytes 64

/-- READ_FAULTLOG (R438): the entries of the indices named, in index order, wrapping. -/
def opReadFaultlog (c : Call) (buf len first count : Nat) (s : State) : State :=
  s.check c [(bufOk buf && decide (first < 256) && decide (1 ≤ count) && decide (count ≤ 256), stBadParam)] (fun s =>
    if len < 64 * count then s.tooSmall c (64 * count)
    else (s.hostOut buf ((List.range count).flatMap (fun i => s.faults.bytesAt ((first + i) % 256)))).answer c stOk
      (leBytes count 8))

/-- ECHO (R438). -/
def opEcho (c : Call) (bytes : List Byte) (s : State) : State :=
  s.check c [(decide (bytes.length ≤ 976), stBadParam)] (fun s => s.answer c stOk bytes)

/-! ### Configuration (R439) -/

/-- Whether a configuration item is known and its value in range (R439). -/
def configOk (x : Nat × Nat) : Bool :=
  match x.1 with
  | 1 => decide (16 ≤ x.2) && decide (x.2 ≤ 30)
  | 2 => decide (x.2 < 2)
  | 3 => decide (1 ≤ x.2) && decide (x.2 ≤ 255)
  | _ => false

/-- Set a configuration item; it takes effect by its field's class (R14, R439, R509). -/
def State.setItem (s : State) (x : Nat × Nat) : State :=
  match x.1 with
  | 1 => { s with net := { s.net with ackNext := some x.2 } }
  | 2 => { s with hbm := { s.hbm with patrolEn := decide (x.2 = 1) } }
  | _ => { s with hbm := { s.hbm with hoursNext := some x.2 } }

/-- SET_CONFIG (R439). -/
def opSetConfig (c : Call) (items : List (Nat × Nat)) (s : State) : State :=
  s.check c [(decide (1 ≤ items.length) && decide (items.length ≤ 8) && items.all configOk, stBadParam)] (fun s =>
    (items.foldl State.setItem s).answer c stOk [])

/-- The value of a configuration item (R439). -/
def State.configItem (s : State) (code : Nat) : Nat :=
  match code with
  | 1 => s.net.ackTimeout
  | 2 => flagNat s.hbm.patrolEn
  | _ => s.hbm.patrolHours

/-- GET_CONFIG (R439). -/
def opGetConfig (c : Call) (codes : List Nat) (s : State) : State :=
  s.check c [(decide (1 ≤ codes.length) && decide (codes.length ≤ 120)
      && codes.all (fun x => decide (1 ≤ x) && decide (x ≤ 3)), stBadParam)] (fun s =>
    s.answer c stOk (codes.flatMap (fun x => leBytes (s.configItem x) 8)))

/-! ### Licences (R463 to R465) -/

/-- Whether a level is one of its feature's (R439, R463). -/
def levelOk (feature level : Nat) : Bool :=
  if feature = 0 then [1, 64, 4096, 32768].contains level else decide (feature < 6) && decide (level = 1)

/-- Whether a licence's layout, device and signatures pass (R463, R464, R471). -/
def State.licenceOk (s : State) (bs : List Byte) : Bool :=
  let f (o n : Nat) : Nat := fieldBytes bs o n
  let part (o n : Nat) : List Byte := (bs.drop o).take n
  decide (128 ≤ bs.length) && decide (f 0 4 = 0x434C5453) && decide (f 4 2 = 1) && levelOk (f 6 1) (f 8 4)
    && allZero bs 7 1 && allZero bs 12 4 && allZero bs 88 40 && decide (part 16 48 = s.deviceHash)
    && decide (f 76 4 = 384) && decide (f 84 4 = 16224) && decide (f 72 4 + 384 ≤ bs.length)
    && decide (f 80 4 + 16224 ≤ bs.length)
    && Config.signaturesOk (bs.take 128) (part (f 72 4) 384) (part (f 80 4) 16224)

/-- A licence has been read whole: installed, refused and counted (R464), or, one for PAIR where the variant has no
server ports, refused (R8). -/
def State.applyLicence (s : State) (j : Job) (bs : List Byte) : State :=
  if s.licenceOk bs then
    let feature := fieldBytes bs 6 1
    if feature = 1 ∧ s.facts.linkDies ≠ 8 then s.complete j stDenied [] else
    let level := max (s.licence feature) (fieldBytes bs 8 4)
    let s := { s with bring := { s.bring with licences := SMap.set 0 s.bring.licences feature level } }
    s.complete j stOk (leBytes feature 1 ++ zeroBytes 1 ++ leBytes level 2)
  else
    let s := { s with bring := { s.bring with licenceFails := satAdd s.bring.licenceFails 1 0xFF } }
    (s.logFault { plainNote 0 0x0A03 with d0 := fieldBytes bs 6 1 }).complete j stDenied []

/-- The device read of a range of host memory that ends at a 4 KiB boundary (R399). -/
def State.askHost (s : State) (addr left : Nat) : State :=
  let n := min left (4096 - addr % 4096)
  ({ s with hm := { s.hm with reading := s.hm.reading ++ [(addr, n)] } }).emit (.hostFetch addr n)

/-- The job of a call that has just been accepted. -/
def Call.job (c : Call) (w : Work) : Job := ⟨c.hdr, c.op, w, c.serial⟩

/-- INSTALL_LICENCE (R439, R464). -/
def opInstallLicence (c : Call) (addr len : Nat) (d : HostData) (s : State) : State :=
  s.check c [(decide (1 ≤ len) && decide (len ≤ 65536), stBadParam)] (fun s =>
    let j := c.job (.licence addr len [])
    let s := s.accept c (.licence addr len [])
    match d with
    | .later => s.askHost addr len
    | .failed => s.complete j stFaulted []
    | .bytes b => s.applyLicence j (b.take len))

/-- The level of a feature that applies (R439): that of the licence held; level 1 of FABRIC_SCALE without one (R6). -/
def State.levelApplied (s : State) (f : Nat) : Nat := if f = 0 then max 1 (s.licence f) else s.licence f

/-- LIST_LICENCES (R439). -/
def opListLicences (c : Call) (s : State) : State :=
  s.answer c stOk ((List.range 6).flatMap (fun f =>
    leBytes f 1 ++ leBytes (flagNat (decide (0 < s.licence f))) 1 ++ leBytes (s.levelApplied f) 2 ++ zeroBytes 4))

end Sys2Proof.Machine
end

