-- ==== Sys2Proof/Machine/CmdPartition.lean ====
section
/-! DEFINITION. The partition and context commands (R326, R327, R409 to R414, R418, R425, R426, R440). -/

namespace Sys2Proof.Machine

/-! ### Grant blocks (R440) -/

/-- Whether two runs of bands share a band. -/
def bandsMeet (a b : Nat × Nat) : Bool := runsMeet a b

/-- The grant that a block asks for (R328, R440): the stacks in service are counted when the grant is made. -/
def State.grantOf (s : State) (g : GrantBlock) : Grant :=
  if bitOf g.flags 1 then ⟨true, [], 0, 0, g.runs⟩ else ⟨false, s.stacksInService, g.firstBand, g.bandCount, []⟩

/-- Whether a run of bands of a stack is free for a partition: granted to no other and in no save area (R326,
R419). -/
def State.runFree (s : State) (p k : Nat) (r : Nat × Nat) : Bool :=
  allParts.all (fun q => decide (q = p) || !(s.part q).valid || !bandsMeet r ((s.part q).grant.on k))
    && allCtxs.all (fun n => (s.ctx n).saveArea.all (fun b =>
        decide (b.1 ≠ k) || decide (b.2 < r.1) || decide (r.1 + r.2 ≤ b.2)))

/-- Whether the bands of a grant block pass (R440): the unused form zero, every run on a stack in service, within
3,069 bands and free. -/
def State.grantOk (s : State) (p : Nat) (g : GrantBlock) : Bool :=
  let x := s.grantOf g
  let isLocal := bitOf g.flags 1
  decide (g.flags < 4)
    && (if isLocal then decide (g.firstBand = 0) && decide (g.bandCount = 0) && decide (g.runs.length ≤ 24)
        else g.runs.all (fun r => decide (r = (0, 0))) && decide (g.firstBand + g.bandCount ≤ bandCount))
    && (List.range 24).all (fun k =>
        let r := x.on k
        decide (r.2 = 0) || (decide ((s.stack k).state = .inService) && decide (r.1 + r.2 ≤ bandCount) && s.runFree p k r))

/-! ### Partitions (R409 to R411, R426) -/

/-- The regions of a rectangle. -/
def rectRegions (c0 c1 r0 r1 : Nat) : List Nat :=
  (List.range 20).filter (fun r => decide (c0 ≤ r % 4) && decide (r % 4 ≤ c1) && decide (r0 ≤ r / 4) && decide (r / 4 ≤ r1))

/-- Whether a rectangle lies on the die, overlaps no partition and holds a good tile (R409, R411). -/
def State.rectOk (s : State) (g : GrantBlock) : Bool :=
  let rs := rectRegions g.c0 g.c1 g.r0 g.r1
  decide (g.c0 ≤ g.c1) && decide (g.c1 ≤ 3) && decide (g.r0 ≤ g.r1) && decide (g.r1 ≤ 4)
    && rs.all (fun r => (s.partOfRegion r).isNone) && rs.any (fun r => (regionSites r).any s.siteGood)

/-- The partitions that exist. -/
def State.partCount (s : State) : Nat := (allParts.filter (fun p => (s.part p).valid)).length

/-- A new partition (R410, R419). -/
def State.newPartn (s : State) (g : GrantBlock) : Partn :=
  { Partn.none with
    valid := true, c0 := g.c0, c1 := g.c1, r0 := g.r0, r1 := g.r1, confidential := bitOf g.flags 0, level := g.level,
    switchKey := true, grant := s.grantOf g, zeroing := true }

/-- CREATE_PARTITION (R411, R440, R483). -/
def opCreatePartition (c : Call) (g : GrantBlock) (s : State) : State :=
  let conf := bitOf g.flags 0
  s.check c
    [(decide (c.p < 20) && s.rectOk g && decide (g.level ≤ 3) && s.grantOk c.p g, stBadParam),
     (decide (s.partCount < 4) || decide (0 < s.licence 2), stNoLicence),
     (!conf || decide (0 < s.licence 3), stNoLicence),
     (!conf || s.facts.fuses.secureDebug, stDenied),
     (!(s.part c.p).valid, stBusy)] (fun s =>
    let s := s.accept c .zero
    let s := s.zeroGrant (s.grantOf g)
    s.setPart c.p (s.newPartn g))

/-- Copies and fills of a partition end FAULTED as it is reset (R448). -/
def State.faultCopies (s : State) (p : Nat) : State :=
  s.completeAll (s.hm.jobs.filter (fun j => decide (j.hdr.part.toNat = p) && (match j.work with
    | .copyIn _ _ _ => true
    | .copyOut _ => true
    | .fill _ _ _ => true
    | _ => false))) stFaulted

/-- RESET_PARTITION (R425). -/
def opResetPartition (c : Call) (s : State) : State :=
  s.check c [(s.partExists c.p, stBadParam)] (fun s =>
    let w := Work.resetTiles .draining
    let s := s.accept c w
    ((s.faultCopies c.p).endAll c.p).pumpReset (c.job w))

/-- DESTROY_PARTITION (R426). -/
def opDestroyPartition (c : Call) (s : State) : State :=
  s.check c [(s.partExists c.p, stBadParam)] (fun s =>
    let w := Work.destroy .draining
    let s := s.accept c w
    ((s.faultCopies c.p).endAll c.p).pumpReset (c.job w))

/-! ### Contexts (R412 to R414, R418, R426) -/

/-- Whether a launched context of a partition has a volume beyond the budget of R418. -/
def State.overBudget (s : State) (p : Nat) : Bool :=
  (ctxsOf p).any (fun n => (s.ctx n).launched && decide (s.switchBudget < (s.ctx n).volume))

/-- CREATE_CONTEXT (R412, R418). -/
def opCreateContext (c : Call) (tenant : Word) (s : State) : State :=
  s.check c
    [(s.partExists c.p && decide (c.c < 8), stBadParam),
     (decide ((s.ctx c.n).state = .none) && !s.overBudget c.p, stBusy)] (fun s =>
    (s.setCtx c.n { Ctxt.none with state := .idle, tenant := tenant }).answer c stOk [])

/-- DESTROY_CONTEXT (R426). -/
def opDestroyContext (c : Call) (s : State) : State :=
  s.check c [(s.ctxExists c.p c.c, stBadParam), (!(s.ctx c.n).launched, stBusy)] (fun s =>
    let s := s.accept c .destroyCtx
    s.pumpDestroyCtx (c.job .destroyCtx))

/-- SWITCH_CONTEXT (R413, R440). -/
def opSwitchContext (c : Call) (s : State) : State :=
  let x := s.ctx c.n
  s.check c
    [(s.ctxExists c.p c.c && (decide (x.state = .running) || decide (x.state = .ready)), stBadParam)] (fun s =>
    if x.state = .running then s.answer c stOk []
    else (s.accept c .switchTo).beginSwitch c.p c.c)

/-- SET_QUANTUM (R414). -/
def opSetQuantum (c : Call) (ms : Nat) (s : State) : State :=
  s.check c [(s.partExists c.p && decide (ms ≤ 10000), stBadParam)] (fun s =>
    (s.modPart c.p (fun x => { x with quantumNext := some ms })).answer c stOk [])

end Sys2Proof.Machine
end

