-- ==== Sys2Proof/Machine/CmdMemory.lean ====
section
/-! DEFINITION. The memory commands and their work on target ranges (R209, R213, R326, R386, R399, R441, R448,
R480, R481, R483, R507). -/

namespace Sys2Proof.Machine

/-! ### Target ranges (R441) -/

/-- The site whose scratchpad holds a range of device addresses; none where it does not lie in one (R441). -/
def spadTarget (dev len : Nat) : Option Nat :=
  if tileWindow ≤ dev ∧ dev < tileWindow + 480 * tileWindowSize then
    let site := (dev - tileWindow) / tileWindowSize
    if (dev - tileWindow) % tileWindowSize + len ≤ 0x7000000 then some site else none
  else none

/-- Whether a range is a target range of a partition (R441). -/
def State.targetOk (s : State) (p dev len : Nat) : Bool :=
  decide (dev % 256 = 0) && decide (len % 256 = 0) && decide (256 ≤ len) && decide (len ≤ 2 ^ 40)
    && ((s.part p).mapsRange dev len || (match spadTarget dev len with
      | some n => decide (s.partOfSite n = some p) && s.siteGood n
      | none => false))

/-- Whether a tile takes the harbour master's transfers (R197, R401). -/
def State.tileServes (s : State) (n : Nat) : Bool := s.siteGood n && !(s.tile n).inReset

/-- Write bytes of one piece to a target (R118, R197, R341, R401, R441); no context is named (log 35). -/
def State.putPiece (s : State) (p dev : Nat) (bs : List Byte) : RangeWrite :=
  match spadTarget dev bs.length with
  | some n =>
    if s.tileServes n then
      let r := s.spadHostWrite n 0xFF ((dev - tileWindow) % tileWindowSize) bs
      ⟨r.st, if r.status = hsOk then bs.length else 0, decide (r.status = hsOk)⟩
    else ⟨s, 0, false⟩
  | none => s.writeMapped (s.part p) dev bs

/-- Read bytes of one piece of a target; none where the read is poisoned or refused. -/
def State.getPiece (s : State) (p dev len : Nat) : HRead :=
  match spadTarget dev len with
  | some n =>
    if s.tileServes n then
      let r := s.spadHostRead n ((dev - tileWindow) % tileWindowSize) len
      ⟨r.st, if r.status = hsOk then some r.data else none⟩
    else ⟨s, none⟩
  | none => s.readMapped (s.part p) dev len

/-- Write bytes to a target piece by piece, stopping at the first refusal. -/
def State.putTarget (s : State) (p : Nat) : List (Nat × Nat) → List Byte → RangeWrite
  | [], _ => ⟨s, 0, true⟩
  | (a, n) :: r, bs =>
    let res := s.putPiece p a (bs.take n)
    if res.ok then
      let rest := res.st.putTarget p r (bs.drop n)
      ⟨rest.st, n + rest.applied, rest.ok⟩
    else res

/-- Write one piece's worth of a function of the offset to a target, piece by piece. -/
def State.putEach (s : State) (p : Nat) (f : Nat → Nat → List Byte) : Nat → List (Nat × Nat) → RangeWrite
  | _, [] => ⟨s, 0, true⟩
  | o, (a, n) :: r =>
    let res := s.putPiece p a (f o n)
    if res.ok then
      let rest := res.st.putEach p f (o + n) r
      ⟨rest.st, n + rest.applied, rest.ok⟩
    else res

/-- Pieces of a copy: at most 4,096 bytes, crossing no 4 KiB boundary of either address (R441): offset and
length; `k` bounds the pieces. -/
def copyPieces (host dev : Nat) : Nat → Nat → Nat → List (Nat × Nat)
  | 0, _, _ => []
  | k + 1, o, left =>
    if left = 0 then []
    else
      let n := min left (min (4096 - (host + o) % 4096) (4096 - (dev + o) % 4096))
      (o, n) :: copyPieces host dev k (o + n) (left - n)

/-- All pieces of a copy. -/
def allPieces (c : CopyParams) : List (Nat × Nat) := copyPieces c.host c.dev (2 * (c.len / 4096) + 4) 0 c.len

/-- What reading a target gave: the bytes of the pieces before the first that failed. -/
structure TargetRead where
  st : State
  bytes : List Byte
  ok : Bool

/-- Read a target piece by piece; `send` writes each piece to the host as it is read. -/
def State.readPieces (s : State) (p : Nat) (c : CopyParams) (send : Bool) : List (Nat × Nat) → TargetRead
  | [] => ⟨s, [], true⟩
  | (o, n) :: r =>
    let res := s.getPiece p (c.dev + o) n
    match res.bytes with
    | none => ⟨res.st, [], false⟩
    | some bs =>
      let s := if send then res.st.hostOut (c.host + o) bs else res.st
      let rest := s.readPieces p c send r
      ⟨rest.st, bs ++ rest.bytes, rest.ok⟩

/-! ### Encrypted copies (R480, R481) -/

/-- The additional data of an encrypted copy (R480). -/
def copyAad (op p : Nat) (c : CopyParams) : List Byte :=
  leBytes op 2 ++ leBytes p 1 ++ zeroBytes 5 ++ leBytes c.dev 8 ++ leBytes c.len 8

/-- A nonce as a big-endian integer (R481). -/
def nonceNat (bs : List Byte) : Nat := leNat bs.reverse

/-- Whether a copy passes the values of order 4 (R441, R481). -/
def State.copyValues (s : State) (p : Nat) (c : CopyParams) : Bool :=
  s.partExists p && s.targetOk p c.dev c.len && (!c.encrypted || decide (c.len ≤ 68719476480))

/-- Whether a copy is permitted (R441, R481, R483). -/
def State.copyAllowed (s : State) (p : Nat) (c : CopyParams) : Bool :=
  let x := s.part p
  decide (c.encrypted = x.confidential) && (!x.confidential || x.hbmKey.isSome)
    && (!c.encrypted || (x.xferKey.isSome && decide (x.lastNonce < nonceNat c.nonce)))

/-- The nonce of an accepted encrypted copy is spent (R481). -/
def State.spendNonce (s : State) (p : Nat) (c : CopyParams) : State :=
  if c.encrypted then s.modPart p (fun x => { x with lastNonce := nonceNat c.nonce }) else s

/-! ### Copies and fills at work (R399, R403, R441, R448) -/

/-- COPY_OUT runs (R441, R480). -/
def State.runCopyOut (s : State) (j : Job) (c : CopyParams) : State :=
  let p := j.hdr.part.toNat
  let r := s.readPieces p c (!c.encrypted) (allPieces c)
  if !r.ok then r.st.complete j stFaulted (leBytes r.bytes.length 8)
  else if c.encrypted then
    let x := Config.gcmSeal ((s.part p).xferKey.getD []) c.nonce (copyAad j.op p c) r.bytes
    let st := (allPieces c).foldl (fun s q => s.hostOut (c.host + q.1) (((fitBytes c.len x.1).drop q.1).take q.2)) r.st
    st.complete j stOk (leBytes c.len 8 ++ fitBytes 16 x.2)
  else r.st.complete j stOk (leBytes c.len 8)

/-- The bytes of a FILL at an offset (R441). -/
def patternAt (pattern : Word) (o n : Nat) : List Byte := (List.range n).map (fun i => byteOf pattern.toNat ((o + i) % 8))

/-- FILL runs (R441). -/
def State.runFill (s : State) (j : Job) (dev len : Nat) (pattern : Word) : State :=
  let r := s.putEach j.hdr.part.toNat (patternAt pattern) 0 (blocksOf dev len)
  r.st.complete j (if r.ok then stOk else stFaulted) []

/-- The next device read of a COPY_IN: its address and length. -/
def copyNext (c : CopyParams) (done : Nat) : Nat × Nat :=
  (c.host + done, min (c.len - done) (min (4096 - (c.host + done) % 4096) (4096 - (c.dev + done) % 4096)))

/-- A COPY_IN asks for its next bytes, where it has not. -/
def State.askCopy (s : State) (c : CopyParams) (done : Nat) : State :=
  let x := copyNext c done
  if s.hm.reading.any (fun r => decide (r.1 = x.1)) then s
  else ({ s with hm := { s.hm with reading := s.hm.reading ++ [x] } }).emit (.hostFetch x.1 x.2)

/-- An encrypted COPY_IN has all its bytes (R441, R480): the target takes the plaintext, or is zeroed. -/
def State.openCopy (s : State) (j : Job) (c : CopyParams) (got : List Byte) : State :=
  let p := j.hdr.part.toNat
  match Config.gcmOpen ((s.part p).xferKey.getD []) c.nonce (copyAad j.op p c) got c.tag with
  | some plain =>
    let r := s.putTarget p (blocksOf c.dev c.len) (fitBytes c.len plain)
    r.st.complete j (if r.ok then stOk else stFaulted) (leBytes r.applied 8)
  | none =>
    let r := s.putEach p (fun _ n => zeroBytes n) 0 (blocksOf c.dev c.len)
    r.st.complete j stDenied (leBytes 0 8)

/-- Bytes of a COPY_IN arrive (R399, R441). -/
def State.feedCopy (s : State) (j : Job) (c : CopyParams) (done : Nat) (got : List Byte) (ok : Bool) (data : List Byte) :
    State :=
  let p := j.hdr.part.toNat
  let n := (copyNext c done).2
  let fin := done + n
  if !ok || decide (data.length ≠ n) then s.complete j stFaulted (leBytes (if c.encrypted then 0 else done) 8)
  else if c.encrypted then
    if fin = c.len then s.openCopy j c (got ++ data) else s.setWork j (.copyIn c fin (got ++ data))
  else
    let r := s.putPiece p (c.dev + done) data
    if !r.ok then r.st.complete j stFaulted (leBytes (done + r.applied) 8)
    else if fin = c.len then r.st.complete j stOk (leBytes c.len 8)
    else r.st.setWork j (.copyIn c fin [])

/-- Whether the tile of a target takes transfers now: its supply is on (R213). -/
def State.targetOn (s : State) (dev : Nat) : Bool := match spadTarget dev 256 with
  | some n => s.vlogOn (regionOf n)
  | none => true

/-- What the memory work of jobs in order leaves: the state and the partitions whose work stands. -/
structure Pump where
  st : State
  busy : List Nat

/-- One job of memory work in its turn: the work of one partition runs in the order of acceptance. -/
def Pump.job (u : Pump) (j : Job) : Pump :=
  let p := j.hdr.part.toNat
  let free (dev : Nat) : Bool := !u.busy.contains p && !u.st.transfersHeld p && u.st.targetOn dev
  let wait : Pump := ⟨u.st, p :: u.busy⟩
  match j.work with
  | .copyIn c done _ => if free c.dev then ⟨u.st.askCopy c done, p :: u.busy⟩ else wait
  | .copyOut c => if free c.dev then ⟨u.st.runCopyOut j c, u.busy⟩ else wait
  | .fill dev len pattern => if free dev then ⟨u.st.runFill j dev len pattern, u.busy⟩ else wait
  | _ => u

/-- Memory work goes on (R209, R403). -/
def State.pumpJobs (s : State) : State :=
  if s.bring.phase = .ready ∧ !s.sec.erasing then (s.hm.jobs.foldl Pump.job ⟨s, []⟩).st else s

/-! ### The commands -/

/-- COPY_IN (R441). -/
def opCopyIn (c : Call) (x : CopyParams) (s : State) : State :=
  s.check c [(s.copyValues c.p x, stBadParam), (s.copyAllowed c.p x, stDenied)] (fun s =>
    ((s.spendNonce c.p x).accept c (.copyIn x 0 [])).pumpJobs)

/-- COPY_OUT (R441). -/
def opCopyOut (c : Call) (x : CopyParams) (s : State) : State :=
  s.check c [(s.copyValues c.p x, stBadParam), (s.copyAllowed c.p x, stDenied)] (fun s =>
    ((s.spendNonce c.p x).accept c (.copyOut x)).pumpJobs)

/-- FILL (R441, R483). -/
def opFill (c : Call) (dev len : Nat) (pattern : Word) (s : State) : State :=
  let x := s.part c.p
  s.check c
    [(s.partExists c.p && s.targetOk c.p dev len, stBadParam), (!x.confidential || x.hbmKey.isSome, stDenied)] (fun s =>
    (s.accept c (.fill dev len pattern)).pumpJobs)

/-- SET_INTERLEAVE (R326, R441): the old grant's bands and the new one's are zeroed. -/
def opSetInterleave (c : Call) (g : GrantBlock) (s : State) : State :=
  let x := s.part c.p
  s.check c
    [(s.partExists c.p && decide (g.c0 = 0 ∧ g.c1 = 0 ∧ g.r0 = 0 ∧ g.r1 = 0 ∧ g.level = 0)
        && decide (bitOf g.flags 0 = x.confidential) && s.grantOk c.p g, stBadParam),
     ((ctxsOf c.p).all (fun n => decide ((s.ctx n).state = .none)), stBusy)] (fun s =>
    let s := s.accept c .zero
    let s := (s.zeroGrant x.grant).zeroGrant (s.grantOf g)
    s.modPart c.p (fun y => { y with grant := s.grantOf g, zeroing := true }))

/-! ### SALVAGE (R386, R441, R507) -/

/-- Bytes of a tile's scratchpad, and of its part of a salvage. -/
def spadBytes : Nat := 117440512
def salvageBytes : Nat := spadBytes + 2228224

/-- Accumulator bytes of a tile in the layout of R94. -/
def accAll (t : Tile) : List Byte := accBytes t 0 2097152

/-- What SALVAGE has written so far. -/
structure Salvage where
  st : State
  tiles : Nat
  bytes : Nat
  ok : Bool

/-- SALVAGE of one tile: scratchpad, whose parity every access checks, and context record (R128, R416, R441). -/
def Salvage.tile (p dev : Nat) (u : Salvage) (x : Nat × Nat) : Salvage :=
  if !u.ok || !u.st.siteGood x.2 then u
  else
    let t := u.st.tile x.2
    let bs := Memory.readBytes t.spad.mem 0 spadBytes ++ accAll t ++ fitBytes 131072 (Config.recordTail u.st.freeCtr)
    let s := { u.st with freeCtr := u.st.freeCtr + 1 }
    let s := if t.spad.parityHit 0 spadBytes then s.runTile x.2 parityFound else s
    let r := s.writeMapped (s.part p) (dev + x.1 * salvageBytes) bs
    ⟨r.st, if r.ok then u.tiles + 1 else u.tiles, u.bytes + r.applied, r.ok⟩

/-- SALVAGE (R441, R507). -/
def opSalvage (c : Call) (region dev : Nat) (s : State) : State :=
  let x := s.part c.p
  s.check c
    [(s.partExists c.p && x.regions.contains region && (s.rail (railVlog region)).off
        && !(s.rail (railVmem region)).off && decide (dev % 4096 = 0)
        && (!x.maps dev || x.mapsRange dev (24 * salvageBytes)), stBadParam),
     (x.maps dev, stDenied)] (fun s =>
    let r := ((List.range 24).zip (regionSites region)).foldl (Salvage.tile c.p dev) ⟨s, 0, 0, true⟩
    r.st.acceptDone c (if r.ok then stOk else stFaulted) (leBytes r.tiles 2 ++ zeroBytes 6 ++ leBytes r.bytes 8))

end Sys2Proof.Machine
end

