-- ==== Sys2Proof/Machine/CmdLaunch.lean ====
section
/-! DEFINITION. The launch and channel commands (R178, R214, R244 to R246, R422, R424, R442, R448). -/

namespace Sys2Proof.Machine

/-- LAUNCH (R422, R442, R483). -/
def opLaunch (c : Call) (addr : Nat) (arg start : Word) (s : State) : State :=
  let part := s.part c.p
  s.check c
    [(s.ctxExists c.p c.c, stBadParam), (!part.confidential || part.hbmKey.isSome, stDenied),
     (decide ((s.ctx c.n).state = .idle), stBusy)] (fun s =>
    let s := s.accept c .launch
    let r := s.checkLaunch c.p c.c addr
    match r.plan with
    | none => r.st.complete (c.job .launch) r.status (r.st.launchResults c.n 0 0xFFFF false)
    | some (plan, area, v) =>
      r.st.modCtx c.n (fun x => { x with
        state := .loading, launch := some ⟨plan, arg, if start = 0 then plan.start else start, part.level⟩,
        saveArea := area,
        volume := v, ending := none }))

/-- Whether a context takes part in a switch of its partition. -/
def State.inSwitch (s : State) (p c : Nat) : Bool := match (s.part p).switching with
  | some w => decide (w.incoming = c) || decide (w.outgoing = some c)
  | none => false

/-- PAUSE (R178, R420, R442). -/
def opPause (c : Call) (s : State) : State :=
  let x := s.ctx c.n
  s.check c
    [(s.ctxExists c.p c.c, stBadParam), (decide (x.state = .running) || decide (x.state = .ready), stBusy)] (fun s =>
    let s := s.accept c .pause
    let s := s.modCtx c.n (fun y => { y with userPause := true })
    if s.inSwitch c.p c.c then s
    else if x.state = .ready then
      let s := s.modCtx c.n (fun y => { y with state := .paused })
      s.completeAll (s.jobsOf c.p c.c (fun k => match k with | .pause => true | _ => false)) stOk
    else (s.each (fun s i => s.modTile i askPause) x.sites).settlePauses)

/-- RESUME (R442). -/
def opResume (c : Call) (s : State) : State :=
  let x := s.ctx c.n
  s.check c [(s.ctxExists c.p c.c, stBadParam), (decide (x.state = .paused), stBusy)] (fun s =>
    let s := if x.onTiles then s.accept c .resume else s.answer c stOk []
    let s := s.modCtx c.n (fun y => { y with userPause := false })
    s.unpauseCtx c.n)

/-- ABORT (R424, R442). -/
def opAbort (c : Call) (s : State) : State :=
  let x := s.ctx c.n
  s.check c [(s.ctxExists c.p c.c, stBadParam), (x.launched, stBusy)] (fun s =>
    let s := s.accept c .abort
    if x.state = .loading then (s.clearCircuits c.p (some c.c)).endLaunch c.n ⟨stOk, excAborted, 0xFFFF, false⟩
    else s.markEnding c.n ⟨stOk, excAborted, 0xFFFF, true⟩ excAborted 0)

/-- SET_CHANNEL_TABLE (R214, R442). -/
def opSetChannelTable (c : Call) (base count : Nat) (s : State) : State :=
  s.check c
    [(s.partExists c.p && decide (count ≤ 65536)
        && (decide (count = 0) || (decide (base % 64 = 0) && (s.part c.p).mapsRange base (64 * count))), stBadParam),
     (!s.partLaunched c.p, stBusy)] (fun s =>
    (s.modPart c.p (fun x => { x with chBase := if count = 0 then 0 else base, chCount := count })).answer c stOk [])

/-! ### INVALIDATE_CHANNELS (R244) -/

/-- The named entries with their channels, where each could be read. -/
def namedEntries (es : List (Option ChEntry)) (first count : Nat) : List (Nat × Option ChEntry) :=
  (List.range count).map (fun i => (first + i, es.getD (first + i) none))

/-- Whether the named entries pass R217 and, with the rest of the table, R218; of closed ones only CHK is asked. -/
def State.invalidateOk (s : State) (p : Nat) (es : List (Option ChEntry)) (named : List (Nat × Option ChEntry)) : Bool :=
  named.all (fun x => match x.2 with
    | some e =>
      let sites := (s.ctx (ctxNo p e.ctx.toNat)).sites
      s.entryPasses p sites e && (decide (e.state = 0) || s.budgetsOk p e.ctx.toNat sites (es.filterMap id))
    | none => false)

/-- The stream tables of switched-out tiles are refilled for the named channels (R234, R244 step 4). -/
def renumberSaved (named : List (Nat × Option ChEntry)) (x : Ctxt) : Ctxt :=
  let all (t : Tile) : Tile := named.foldl (fun t y => match y.2 with
    | some e => renumber t (BitVec.ofNat 16 y.1) e
    | none => t) t
  { x with saved := SMap.mapAll none (fun _ t => t.map all) x.saved }

/-- Every tile of the partition drops its copies of the named channels, and the stream tables are refilled (R234, R244
step 4, R246). -/
def State.dropCopies (s : State) (p : Nat) (named : List (Nat × Option ChEntry)) : State :=
  let s := s.each (fun s i => named.foldl (fun s x => match x.2 with
    | some e => s.runTile i (fun env t => tileInvalidate env t (BitVec.ofNat 16 x.1) e)
    | none => s) s) (s.partSites p)
  s.each (fun s n => s.modCtx n (renumberSaved named)) (ctxsOf p)

/-- INVALIDATE_CHANNELS (R244, R442). -/
def opInvalidateChannels (c : Call) (first count : Nat) (s : State) : State :=
  let part := s.part c.p
  s.check c
    [(s.partExists c.p && decide (1 ≤ count) && decide (count ≤ 65536)
        && (decide (part.chCount = 0) || decide (first + count ≤ part.chCount)), stBadParam),
     (decide (part.chCount ≠ 0), stDenied)] (fun s =>
    let r := s.readTable c.p part.chBase 0 part.chCount
    let s := r.st
    let named := namedEntries r.entries first count
    let busy := (s.partSites c.p).any (fun i => named.any (fun x => match x.2 with
      | some e => tileChanged (s.tile i) (BitVec.ofNat 16 x.1) e && invalidateBusy (s.tile i) (BitVec.ofNat 16 x.1)
      | none => false))
    if !s.invalidateOk c.p r.entries named then s.acceptDone c stBadParam []
    else if busy then s.acceptDone c stBusy []
    else (s.dropCopies c.p named).acceptDone c stOk [])

end Sys2Proof.Machine
end

