-- ==== Sys2Proof/Machine/Network.lean ====
section
/-! DEFINITION. Meanings of the network rows: packets at routers, circuits, and packets that reach a tile,
memory, a UCIe module or the step collector (chapters 06, 07, 10 and 13). -/

namespace Sys2Proof.Machine

/-! ### Routing -/

/-- Hops between two sites. -/
def hops (a b : Nat) : Nat :=
  (max (siteX a) (siteX b) - min (siteX a) (siteX b)) + (max (siteY a) (siteY b) - min (siteY a) (siteY b))

/-- A header check fails at a router: the whole packet is dropped (R188). -/
def State.badHeader (s : State) (site : Nat) : State :=
  let s := s.modRouter site (fun r => { r with badHeader := bump16 r.badHeader, hcrcSeen := true, dropSeen := true })
  s.logFault { plainNote 1 0x0201 with site := some site }

/-- A parity error of a flit at a router: logged, and the flit goes on unchanged (R299). -/
def State.flitParity (s : State) (site : Nat) (p : Packet) : State :=
  if p.parityError then s.logFault { plainNote 1 0x0205 with site := some site } else s

/-- A packet for a device that the tables call unreachable (R266, R271). -/
def State.unreachableAt (s : State) (site inPort : Nat) (p : Packet) : State :=
  let d := ([0, 1, 2].find? (fun d => decide (coordOf p.fdest d ≠ coordOf s.fab.self d))).getD 0
  let s := s.modLink (2 * d) Link.countUnreach
  let s := s.logFault { plainNote 1 0x0503 with site := some site, d0 := 2 }
  match nackOf (s.envOf site) (s.tile site) p 2 with
  | some q => s.inject site (max inPort 4) q
  | none => s

/-- Whether a packet is an answer that asks for none itself (R194, R236). -/
def answerType (ty : BitVec 8) : Bool := decide (ty = tyAck) || decide (ty = tyReadData) || decide (ty = tyCredit)

/-- An answer whose source has been reset reaches nobody (R197). -/
def State.nobodyThere (s : State) (site : Nat) (p : Packet) : Bool :=
  answerType p.typ && ((s.tile site).inReset || (s.tile site).ctx.isNone)

/-- Whether a memory controller serves a packet, or refuses it by R333: rows, a READ or a HOST transaction. -/
def hbmType (ty : BitVec 8) : Bool := rowType ty || decide (ty = tyRead) || decide (ty = tyHost)

/-- A packet has reached the router of its destination, by an input whose buffer holds it until it is taken: the tile port
or an attachment takes it, or the router drops it (R23, R24, R187, R197). -/
def State.arriveAt (s : State) (site port vc via : Nat) (p : Packet) : State :=
  let stays (s : State) : State := s.addFlight p (.dest site port) vc via
  if port < 4 ∨ 6 < port ∨ !knownType p.typ then s.dropAt site port 1 4 p
  else if port = 4 then
    if p.typ = tyMgmt ∨ controlType p.typ then stays s
    else if s.nobodyThere site p then s
    else match s.tileRefusal site p with
    | some (sev, row) => s.dropAt site 4 sev row p
    | none => stays s
  else match attachAt site port with
  | .hbm k =>
    if !hbmType p.typ && !s.attachServes (.hbm k) || !s.attachFitted (.hbm k) then s.dropAt site port 0 3 p else stays s
  | a => if s.attachServes a then stays s else s.dropAt site port 0 3 p

/-- The router to which a packet goes on from one towards a site, and the port on which it arrives there; none where the
site is at a bypassed router that comes first, or the mesh ends (R182, R190, R191). -/
def State.nextHop (s : State) (site vc d : Nat) : Option (Nat × Nat) :=
  let dir := hopPort vc site d
  match s.nextRouter dir 30 site with
  | none => none
  | some m => if s.bypassed d ∧ hops site d < hops site m then none else some (m, opposite dir)

/-- A packet leaves a router towards another (R190, R191). A destination at a bypassed router is not there:
the last router before it drops the packet. -/
def State.forwardTo (s : State) (site vc d port : Nat) (p : Packet) : State :=
  match s.nextHop site vc d with
  | some (m, q) => s.addFlight p (.router m q) vc q
  | none => s.dropAt site port 0 (if port = 4 then 5 else 3) p

/-- A router routes a packet (R190, R266), and its flits are counted (R392). -/
def State.routePacket (s : State) (site inPort vc : Nat) (p : Packet) : State :=
  let s := s.countAct (packetAccount p) .flit (flitCount p)
  match s.target p with
  | .unreachable => s.unreachableAt site inPort p
  | .at d port => if d = site then s.arriveAt site port vc inPort p else s.forwardTo site vc d port p
  | .link l r =>
    if linkRouter l r = site then
      if s.attachServes (.link l r) then s.linkSend l site 0 p else s.dropAt site 5 0 3 p
    else s.forwardTo site vc (linkRouter l r) 5 p

/-- Whether the next router has room for a packet that is to go on (R200, R201, R213). -/
def State.mayHop (s : State) (site vc : Nat) (p : Packet) : Bool :=
  match s.exitOf p with
  | none => true
  | some d =>
    if d = site then true
    else match s.nextHop site vc d with
    | some (m, q) => s.hasRoom m q vc p
    | none => true

/-- The flight of a packet that waits at an input of a router. -/
def State.flightAt (s : State) (p : Packet) (w : Spot) : Option Flight :=
  s.net.inFlight.find? (fun f => decide (f.pkt = p) && decide (f.place = w))

/-- Whether a flight is the oldest of its buffer: control packets queue by output, free ones by input and virtual channel
(R200, R201, R213). -/
def State.oldest (s : State) (site : Nat) (x : Flight) : Bool :=
  let same (f : Flight) : Bool :=
    if controlClass x.pkt then f.controlAt site && decide (s.outputAt site f.vc f.pkt = s.outputAt site x.vc x.pkt)
    else f.freeAt site && decide (f.via = x.via) && decide (f.vc = x.vc)
  match s.net.inFlight.find? same with
  | some f => decide (f = x)
  | none => true

/-- A packet's first flit reaches a router (R188, R190, R299). It waits behind an older one of its buffer, and while the
next router has no room for it (R200, R201). -/
def State.packetArrives (s : State) (site inPort : Nat) (p : Packet) : State :=
  match s.flightAt p (.router site inPort) with
  | none => s
  | some x =>
    if !s.meshOn ∨ s.bypassed site ∨ !s.oldest site x then s
    else
      let t := s.takeFlight p (.router site inPort)
      if (s.router site).failed then t
      else if p.hcrc ≠ hcrcOf p then (t.flitParity site p).badHeader site
      else if !s.mayHop site x.vc p then s
      else (t.flitParity site p).routePacket site inPort x.vc p

/-- ROUTER_PACKET_ARRIVAL (R190). -/
def execRouterPacketArrival (site inPort : Nat) (p : Packet) (s : State) : Host.Outcome State Fault Refusal :=
  if 480 ≤ site ∨ 6 < inPort then .fault .noSuchUnit else .next (s.packetArrives site inPort p)

/-! ### Circuits (R203 to R206, R273) -/

/-- Whether an output of a circuit has room downstream (R204, R213). -/
def State.circuitRoom (s : State) (site n port : Nat) : Bool :=
  if port < 4 then
    match s.nextRouter port 30 site with
    | some m => decide ((s.router m).entryFlits n < 2)
    | none => true
  else if port = 4 then s.vlogOn (regionOf site)
  else true

/-- A circuit's flit reaches the tile port (R203, R206): the last one of a packet delivers it. -/
def State.circuitDelivers (s : State) (site n : Nat) (f : CFlit) : State :=
  let fs := (if f.head then [] else SMap.get [] (s.router site).arriving n) ++ [f]
  if f.tail then
    (s.modRouter site (fun r => { r with arriving := SMap.set [] r.arriving n [] })).arriveAt site 4 0 4 (packetOfFlits fs)
  else s.modRouter site (fun r => { r with arriving := SMap.set [] r.arriving n fs })

/-- A circuit's flit leaves by one port (R203, R206, R273). -/
def State.circuitOut (site n : Nat) (f : CFlit) (s : State) (port : Nat) : State :=
  if port < 4 then
    match s.nextRouter port 30 site with
    | some m => s.modRouter m (fun r => { r with buffers := SMap.set [] r.buffers n (SMap.get [] r.buffers n ++ [f]) })
    | none => s
  else if port = 4 then s.circuitDelivers site n f
  else match attachAt site port with
    | .link l _ => s.linkSendCircuit l site n f
    | _ => s

/-- The first flit of an entry's buffer leaves it, and one that waits at the entry's input enters (R204). -/
def Router.shift (n : Nat) (r : Router) : Router :=
  ({ r with buffers := SMap.set [] r.buffers n ((SMap.get [] r.buffers n).drop 1) }).feed n

/-- The rest of a circuit's packet is discarded, until its last flit (R188). -/
def Router.discard (n : Nat) (f : CFlit) (r : Router) : Router :=
  let rest := r.discards.filter (fun m => decide (m ≠ n))
  { r with discards := if f.tail then rest else n :: rest }

/-- The oldest flit of a circuit entry leaves by every port of the output set at once (R204, R205). Held for want of room,
it misses its slot (R212). A first flit whose header check fails takes its whole packet with it (R188), and so does an
entry that is not valid (R271). -/
def State.circuitStep (s : State) (site n : Nat) : State :=
  if !s.meshOn ∨ s.bypassed site then s
  else match SMap.get [] (s.router site).buffers n with
  | [] => s.modRouter site (Router.feed n)
  | f :: _ =>
    let v := (SMap.get 0 (s.router site).circuits n).toNat
    let ports := (List.range 7).filter (bitOf (bitsOf v 0 7))
    let gone := s.modRouter site (Router.shift n)
    if (s.router site).failed then gone
    else if !bitOf v 63 then
      if f.head then gone.logFault { plainNote 1 0x0503 with site := some site, d0 := 6 } else gone
    else if !f.head && (s.router site).discards.contains n then
      gone.modRouter site (Router.discard n f)
    else if f.head && !f.headerOk then
      (gone.badHeader site).modRouter site (Router.discard n f)
    else if !ports.all (s.circuitRoom site n) then s.modRouter site (fun r => { r with lateSeen := true })
    else
      let s := if f.bad then gone.logFault { plainNote 1 0x0205 with site := some site } else gone
      (ports.foldl (State.circuitOut site n f) s).countAct (s.circuitAccount site n) .flit ports.length

/-- CIRCUIT_FLIT (R204). -/
def execCircuitFlit (site n : Nat) (s : State) : Host.Outcome State Fault Refusal :=
  if 480 ≤ site ∨ 256 ≤ n then .fault .noSuchUnit else .next (s.circuitStep site n)

/-! ### Packets at a tile -/

/-- A packet that waits at a tile port is taken: dropped where R197 says so by now, held while the tile's logic
does not run (R213), otherwise handled by the tile. -/
def State.tilePacket (s : State) (site : Nat) (p : Packet) (f : TileEnv → Tile → Packet → TOut) : State :=
  if s.nobodyThere site p then s.takeFlight p (.dest site 4)
  else match s.tileRefusal site p with
  | some (sev, row) => (s.takeFlight p (.dest site 4)).dropAt site 4 sev row p
  | none =>
    if s.tileOn site then (s.takeFlight p (.dest site 4)).runTile site (fun env t => f env t p) else s

/-- A row of the table at a tile port, for its own packet type. -/
def State.tileRow (s : State) (site : Nat) (p : Packet) (ty : BitVec 8) (f : TileEnv → Tile → Packet → TOut) :
    Host.Outcome State Fault Refusal :=
  if 480 ≤ site then .fault .noSuchUnit
  else if p.typ = ty ∧ p.dport = 4 then .next (s.tilePacket site p f) else .next s

/-- The step collector takes a tile digest (R287, R288); one for a record already formed is discarded. -/
def State.collect (s : State) (p : Packet) : State :=
  let bs := p.payload
  let site := leNat (bs.take 2)
  let part := leNat ((bs.drop 2).take 1)
  let ctx := leNat ((bs.drop 3).take 1)
  let seq := leNat ((bs.drop 8).take 8)
  if !rowPacketOk p || !s.fab.pairEn || s.fab.formed.contains (part, ctx, seq) then s
  else
    let mine (c : Collect) : Bool := decide (c.stepSeq = seq) && decide (c.part = part) && decide (c.ctx = ctx)
    let cs := s.fab.collects
    let new : Collect := ⟨seq, part, ctx, [(site, bs)], s.clk.tide, s.net.ackTimeout⟩
    let cs := if cs.any mine then cs.map (fun c => if mine c then { c with digests := SMap.put site bs c.digests } else c)
      else cs ++ [new]
    { s with fab := { s.fab with collects := cs } }

/-- Whether a packet is a tile digest for the step collector of L6 (R287). -/
def isDigest (site : Nat) (p : Packet) : Bool :=
  decide (site = (linkRouters 6).1) && decide (p.dport = 5) && decide (p.addr = 0xFFFFFFFFFFC0) && decide (p.typ = tyWrite)

/-- WRITE (R297): rows at a tile, or a tile digest at the step collector. -/
def execWrite (site : Nat) (p : Packet) (s : State) : Host.Outcome State Fault Refusal :=
  if isDigest site p then .next (if s.meshOn then (s.takeFlight p (.dest site 5)).collect p else s)
  else s.tileRow site p tyWrite tileRows

/-- WRITE_ADD32 (R310). -/
def execWriteAdd32 (site : Nat) (p : Packet) (s : State) : Host.Outcome State Fault Refusal :=
  s.tileRow site p tyAdd32 tileRows

/-- WRITE_ADD16 (R310). -/
def execWriteAdd16 (site : Nat) (p : Packet) (s : State) : Host.Outcome State Fault Refusal :=
  s.tileRow site p tyAdd16 tileRows

/-- READ_DATA (R194). -/
def execReadData (site : Nat) (p : Packet) (s : State) : Host.Outcome State Fault Refusal :=
  s.tileRow site p tyReadData tileReadData

/-- ACK (R194). -/
def execAck (site : Nat) (p : Packet) (s : State) : Host.Outcome State Fault Refusal :=
  s.tileRow site p tyAck tileAck

/-- MESSAGE (R230). -/
def execMessage (site : Nat) (p : Packet) (s : State) : Host.Outcome State Fault Refusal :=
  s.tileRow site p tyMessage tileMessage

/-- CREDIT (R236). -/
def execCredit (site : Nat) (p : Packet) (s : State) : Host.Outcome State Fault Refusal :=
  s.tileRow site p tyCredit tileCredit

/-- The READ_DATA at a tile port that answers a tile's read of a channel entry. -/
def State.entryAnswer (s : State) (t : Nat) (chan : BitVec 16) : Option Packet :=
  ((s.net.inFlight.find? (fun f => decide (f.place = .dest t 4) && decide (f.pkt.typ = tyReadData)
    && (match takeOut (answers f.pkt) (s.tile t).outst with
        | some (o, _) => decide (o.use = .entry chan)
        | none => false))).map (fun f => f.pkt))

/-- CHANNEL_ENTRY_READ (R195, R243): the answer that waits at the tile port ends the read of the entry; without one it ends
FAULTED once its timeout has run. -/
def State.entryRead (s : State) (t chan : Nat) : State :=
  let i := BitVec.ofNat 16 chan
  if !s.tileOn t then s
  else match s.entryAnswer t i with
  | some p => s.tilePacket t p tileReadData
  | none => s.runTile t (fun env tl => tileEntryLate env tl i)

/-- CHANNEL_ENTRY_READ (R243). -/
def execChannelEntryRead (t : Nat) (chan : Nat) (s : State) : Host.Outcome State Fault Refusal :=
  if 480 ≤ t then .fault .noSuchUnit else .next (s.entryRead t chan)

/-! ### STOP and RESUME (R209) -/

/-- A control packet of a type waiting at a tile port is taken. -/
def State.takeControl (s : State) (t : Nat) (ty : BitVec 8) : State :=
  { s with net := { s.net with
      inFlight := dropFirst (fun f => decide (f.place = .dest t 4) && decide (f.pkt.typ = ty)) s.net.inFlight } }

/-- Whether a control packet of another type waits at a tile port before any of this one: they are taken in order. -/
def State.orderBlocked (s : State) (t : Nat) (ty : BitVec 8) : Bool :=
  match s.net.inFlight.find? (fun f => decide (f.place = .dest t 4) && controlType f.pkt.typ) with
  | some f => decide (f.pkt.typ ≠ ty)
  | none => false

/-- A control packet reaches a tile (R209, R213). -/
def State.takeOrder (s : State) (t : Nat) (ty : BitVec 8) (f : TileEnv → Tile → TOut) :
    Host.Outcome State Fault Refusal :=
  if s.orderBlocked t ty then .next s else (if s.tileOn t then s.takeControl t ty else s).tileStep t f

/-- STOP (R209): the tile's engines stop injecting. -/
def execStop (t : Nat) (s : State) : Host.Outcome State Fault Refusal := s.takeOrder t tyStop (fun _ tl => tileStop tl)

/-- RESUME_PACKET (R209): injection continues. -/
def execResumePacket (t : Nat) (s : State) : Host.Outcome State Fault Refusal := s.takeOrder t tyResume tileResume

/-! ### Packets at memory (R330 to R335) -/

/-- A refusal of R333 at an edge router: logged for its row, and answered with NACK. -/
def State.hbmNack (s : State) (site port : Nat) (p : Packet) : State :=
  match nackOf (s.envOf site) (s.tile site) p 4 with
  | some q => s.inject site port q
  | none => s

/-- HBM_REFUSED of a row of R333's table (R499). -/
def State.hbmRefused (s : State) (k site row : Nat) (p : Packet) : State :=
  s.logFault (memNote 1 0x0606 k site p (p.typ.toNat + row * 256) p.addr.toNat)

/-- Bytes that a packet reads or writes. -/
def packetSpan (p : Packet) : Nat := if p.typ = tyRead then p.len.toNat else p.payload.length

/-- Whether the HBM controllers refuse every request: from an ERASE on (R487). -/
def State.alarmedMemory (s : State) : Bool := s.sec.erasing || decide (s.bring.phase = .alarmed)

/-- What the checks of R333 before any transfer is touched find: the state after the refusal, none where the
access may proceed. -/
def State.hbmCheck (s : State) (k site port : Nat) (p : Packet) : Option State :=
  let part := s.part p.part.toNat
  let a := p.addr.toNat
  if s.alarmedMemory then some (s.hbmNack site port p)
  else if !part.maps a then some ((s.outOfGrant site p).hbmNack site port p)
  else if 4096 < a % 4096 + packetSpan p then some ((s.hbmRefused k site 2 p).hbmNack site port p)
  else if p.typ = tyAdd32 ∨ p.typ = tyAdd16 then some ((s.hbmRefused k site 3 p).hbmNack site port p)
  else if p.typ = tyWrite ∧ !rowPacketOk p then
    let s := s.modStack k (fun x => { x with refused := satAdd x.refused 1 0xFF })
    some ((s.hbmRefused k site 4 p).hbmNack site port p)
  else if !s.attachServes (.hbm k) then
    let s := s.modRouter site countAtAttach
    some ((s.logFault (siteDropNote p site 0 3)).hbmNack site port p)
  else none

/-- A WRITE packet at the controller (R332, R334, R335). -/
def State.hbmWritePacket (s : State) (k site port : Nat) (p : Packet) : State :=
  match s.hbmCheck k site port p with
  | some s' => s'
  | none =>
    let r := s.hbmWrite ((s.part p.part.toNat).acc p.addr.toNat) p.payload
    let t := r.st.countAct (packetAccount p) .hbmByte p.payload.length
    if r.ok then t.inject site port (ackOf (t.envOf site) p false) else t.hbmNack site port p

/-- The READ_DATA of bytes read (R194, R296, R335): of a whole block with the shelf's entry as SEG0. -/
def hbmAnswer (env : TileEnv) (p : Packet) (shelf : Nat) (bs : List Byte) : Packet :=
  let whole := decide (bs.length = 4096)
  let seg := if whole then some shelf else none
  sealPacket { answerTo env p tyReadData false with
    aux := p.aux, len := BitVec.ofNat 14 bs.length, payload := bs,
    trailer := rowTrailer 0 env.parityMode (whole && decide (shelf = crc32c bs)) seg none bs }

/-- A READ packet at the controller (R333 to R335). -/
def State.hbmReadPacket (s : State) (k site port : Nat) (p : Packet) : State :=
  match s.hbmCheck k site port p with
  | some s' => s'
  | none =>
    let x := (s.part p.part.toNat).acc p.addr.toNat
    let r := s.hbmRead x p.len.toNat
    match r.bytes with
    | none => r.st.hbmNack site port p
    | some bs =>
      let s := (r.st.checkShelf x bs).countAct (packetAccount p) .hbmByte bs.length
      s.inject site port (hbmAnswer (s.envOf site) p (s.hbm.shelfFor x).toNat bs)

/-- A packet that waits at an attachment and is the oldest there that names its block: the controller serves requests for
one block in the order in which they arrive (R331, R347). -/
def State.nextAt (s : State) (site port : Nat) (p : Packet) : Bool :=
  match s.net.inFlight.find? (fun f => decide (f.place = .dest site port) && decide (f.pkt.part = p.part)
      && decide (f.pkt.addr.toNat / 4096 = p.addr.toNat / 4096)) with
  | some f => decide (f.pkt = p)
  | none => false

/-- A packet that waits at an HBM attachment is served. -/
def State.atHbm (s : State) (site : Nat) (p : Packet) (ok : Bool) (f : State → Nat → Nat → Nat → Packet → State) :
    Host.Outcome State Fault Refusal :=
  let port := p.dport.toNat
  if 480 ≤ site then .fault .noSuchUnit
  else match attachAt site port with
  | .hbm k =>
    if ok && s.meshOn && s.nextAt site port p then
      .next (f (s.takeFlight p (.dest site port)) k site port p)
    else .next s
  | _ => .next s

/-- HBM_WRITE (R332): a row packet at the memory; WRITE_ADD is refused there (R333). -/
def execHbmWrite (site : Nat) (p : Packet) (s : State) : Host.Outcome State Fault Refusal :=
  s.atHbm site p (rowType p.typ) State.hbmWritePacket

/-- HBM_READ (R335): a READ packet at the memory. -/
def execHbmRead (site : Nat) (p : Packet) (s : State) : Host.Outcome State Fault Refusal :=
  s.atHbm site p (decide (p.typ = tyRead)) State.hbmReadPacket

/-- READ (R194): at a tile, or at memory. -/
def execRead (site : Nat) (p : Packet) (s : State) : Host.Outcome State Fault Refusal :=
  if p.dport = 4 then s.tileRow site p tyRead tileRead
  else s.atHbm site p (decide (p.typ = tyRead)) State.hbmReadPacket

/-! ### HOST and MGMT packets (R401) -/

/-- KIND of a HOST packet. -/
def hostKind (p : Packet) : Nat := bitsOf p.aux.toNat 28 4
/-- TAG of a HOST or MGMT packet. -/
def hostTag (p : Packet) : BitVec 16 := p.aux.setWidth 16

/-- A served transaction is answered. -/
def HostRes.reply (r : HostRes) (site port : Nat) (p : Packet) : State :=
  r.st.inject site port (hostAnswer (r.st.envOf site) p r.status (if r.status = hsOk then r.data else []))

/-- The offset of a device address in the tile window of a site. -/
def windowOff (site a : Nat) : Nat := a - (tileWindow + site * tileWindowSize)

/-- A HOST packet at a tile (R94, R127, R341, R343, R401, R462). -/
def State.hostAtTile (s : State) (site : Nat) (p : Packet) : State :=
  match s.tileRefusal site p with
  | some (sev, row) => (s.takeFlight p (.dest site 4)).dropAt site 4 sev row p
  | none =>
    let off := windowOff site p.addr.toNat
    if !s.meshOn || !s.vlogOn (regionOf site) || !s.bring.published then s
    else
      let s := s.takeFlight p (.dest site 4)
      if hostKind p = 1 then (s.tileHostRead site off p.len.toNat).reply site 4 p
      else if hostKind p = 0 then (s.tileHostWrite site p.ctx.toNat off p.payload).reply site 4 p
      else s

/-- A HOST packet at memory (R341, R401). -/
def State.hostAtHbm (s : State) (site port : Nat) (p : Packet) : State :=
  let t := s
  let s := s.takeFlight p (.dest site port)
  if !t.nextAt site port p then t
  else if s.alarmedMemory && decide (hostKind p ≤ 1) then (HostRes.mk s hsDenied []).reply site port p
  else if hostKind p = 1 then (s.memHostRead site p p.len.toNat).reply site port p
  else if hostKind p = 0 then (s.memHostWrite site p).reply site port p
  else s

/-- A HOST packet that answers a transaction, at its UCIe module (R400, R401). -/
def State.hostAtUcie (s : State) (site m : Nat) (p : Packet) : State :=
  let s := s.takeFlight p (.dest site 5)
  if hostKind p = 2 ∨ hostKind p = 3 then
    s.hostReturn m (hostTag p) (decide (hostKind p = 3)) p.addr.toNat (bitsOf p.aux.toNat 24 4) p.payload
  else s

/-- HOST (R401). -/
def execHost (site : Nat) (p : Packet) (s : State) : Host.Outcome State Fault Refusal :=
  let port := p.dport.toNat
  if 480 ≤ site then .fault .noSuchUnit
  else if p.typ ≠ tyHost ∨ !s.meshOn then .next s
  else if port = 4 then .next (s.hostAtTile site p)
  else match attachAt site port with
  | .hbm _ => .next (s.hostAtHbm site port p)
  | .ucie m => .next (s.hostAtUcie site m p)
  | _ => .next s

/-- The answer to an MGMT packet: to the UCIe module that asked, with the register's value (log entry 33). -/
def mgmtAnswer (env : TileEnv) (p : Packet) (data : List Byte) : Packet :=
  sealPacket { blankPacket with
    typ := tyMgmt, last := true, rgen := env.rgen, dport := 5, dsite := p.ssite, ssite := BitVec.ofNat 9 env.site,
    fsrc := env.selfFab, seq := p.seq, ctx := p.ctx, part := p.part, len := BitVec.ofNat 14 data.length,
    addr := p.addr, aux := p.aux, payload := data }

/-- An MGMT packet at the router whose register it names (R345, R401). -/
def State.mgmtAtRouter (s : State) (site : Nat) (p : Packet) : State :=
  let s := s.takeFlight p (.dest site 4)
  if bitOf p.aux.toNat 31 then
    (s.netWrite site p.addr.toNat (leNat (p.payload.take 8))).inject site 4 (mgmtAnswer (s.envOf site) p [])
  else s.inject site 4 (mgmtAnswer (s.envOf site) p (leBytes (s.netRead site p.addr.toNat) 8))

/-- MGMT (R401): a router register is read or written, or the answer reaches its module. -/
def execMgmt (site : Nat) (p : Packet) (s : State) : Host.Outcome State Fault Refusal :=
  if 480 ≤ site then .fault .noSuchUnit
  else if p.typ ≠ tyMgmt ∨ !s.meshOn ∨ s.bypassed site then .next s
  else if p.dport = 4 then .next (s.mgmtAtRouter site p)
  else match attachAt site p.dport.toNat with
  | .ucie m =>
    .next ((s.takeFlight p (.dest site 5)).hostReturn m (hostTag p) (bitOf p.aux.toNat 31) p.addr.toNat hsOk p.payload)
  | _ => .next s

end Sys2Proof.Machine
end

