-- ==== Sys2Proof/Machine/CmdFabric.lean ====
section
/-! DEFINITION. Slack water and the fabric commands (R207 to R211, R262 to R266, R269, R270, R278, R286,
R443). -/

namespace Sys2Proof.Machine

/-! ### Scopes (R208 to R210) -/

/-- The scope of a scope code, partition and context (R443). -/
def scopeOf (code p c : Nat) : Scope := if code = 0 then .device else if code = 1 then .part p else .ctx p c

/-- Whether two scopes share a tile or a table entry. -/
def scopesMeet (a b : Scope) : Bool := match a, b with
  | .device, _ => true
  | _, .device => true
  | .part p, .part q => decide (p = q)
  | .part p, .ctx q _ => decide (p = q)
  | .ctx p _, .part q => decide (p = q)
  | .ctx p c, .ctx q d => decide (p = q) && decide (c = d)

/-- The tiles of a scope: of a context, those that it holds. -/
def State.scopeSites (s : State) (k : Scope) : List Nat := match k with
  | .device => allSites
  | .part p => s.partSites p
  | .ctx p c => if (s.ctx (ctxNo p c)).onTiles then (s.ctx (ctxNo p c)).sites else []

/-- STOP is sent to every tile of a scope (R209 step 1), whose send timers stand still from now on (R227). -/
def State.sendStops (s : State) (k : Scope) : State :=
  (s.each (fun s i => s.modTile i beginDraining) (s.scopeSites k)).stopSites (s.scopeSites k)

/-- Whether a switch of its partition has stopped the tiles of a site, which go on when it ends (R211, R415). -/
def State.switchStops (s : State) (i : Nat) : Bool := match s.partOfSite i with
  | some p => (match (s.part p).switching with | some w => w.stopped.isSome | none => false)
  | none => false

/-- The tiles that RELEASE sets going: those of the scope and, of a context that has left its tiles since the DRAIN, those
that its STOPs still hold or will reach. -/
def State.releaseSites (s : State) (k : Scope) : List Nat := match k with
  | .ctx p _ => (s.partSites p).filter (fun i =>
      (s.scopeSites k).contains i || (((s.tile i).stopped.isSome || s.stopWaits i) && (match (s.tile i).ctx with
        | some c => !s.drainHolds (ctxNo p c.toNat)
        | none => !s.drainsPart p)))
  | _ => s.scopeSites k

/-- RESUME is sent to every tile of a scope (R209 step 6), and its send timers go on (R227). -/
def State.sendResumes (s : State) (k : Scope) : State :=
  (s.each (fun s i => s.modTile i endDraining) (s.releaseSites k)).resumeSites
    ((s.releaseSites k).filter (fun i => !s.switchStops i))

/-- Whether every free and scheduled queue on the die is empty (R209 step 3). -/
def State.queuesEmpty (s : State) : Bool :=
  s.net.inFlight.all (fun f => controlClass f.pkt)
    && s.net.routers.all (fun r => (r.2.buffers ++ r.2.feeds).all (fun b => decide (b.2 = [])))

/-- Whether a scope has drained (R209 step 3). -/
def State.drained (s : State) (k : Scope) : Bool :=
  (s.scopeSites k).all s.siteQuiet
    && (match k with
        | .device => s.queuesEmpty
        | .part p => s.circuitsEmpty p none
        | .ctx p c => s.circuitsEmpty p (some c))

/-- The DRAIN whose scope it is. -/
def drainOf (k : Scope) (j : Job) : Bool := match j.work with
  | .drain q => decide (q = k)
  | _ => false

/-- The DRAIN of a scope completes. -/
def State.endDrain (s : State) (k : Scope) (status : Nat) : State := s.completeAll (s.hm.jobs.filter (drainOf k)) status

/-- Change the record of a scope. -/
def State.modScope (s : State) (k : Scope) (f : ScopeRec → ScopeRec) : State :=
  { s with net := { s.net with scopes := s.net.scopes.map (fun r => if r.scope = k then f r else r) } }

/-- SLACK_WATER (R209): the scope is in SLACK, and the DRAIN completes. -/
def State.slackWater (s : State) (k : Scope) : State :=
  match s.scopeSt k with
  | some r =>
    if r.st = .draining ∧ !r.timedOut ∧ s.drained k then (s.modScope k (fun r => { r with st := .slack })).endDrain k stOk
    else s
  | none => s

/-- SLACK_WATER (R209). -/
def execSlackWater (k : Scope) (s : State) : Host.Outcome State Fault Refusal := .next (s.slackWater k)

/-- DRAIN_TIMEOUT (R210): the DRAIN completes with TIMEOUT, and the scope stays DRAINING. -/
def State.drainTimeout (s : State) (k : Scope) : State :=
  match s.scopeSt k with
  | some r =>
    if r.st = .draining ∧ !r.timedOut ∧ r.deadline.toNat ≤ s.clk.tide.toNat then
      (s.modScope k (fun r => { r with timedOut := true })).endDrain k stTimeout
    else s
  | none => s

/-- DRAIN_TIMEOUT (R210). -/
def execDrainTimeout (k : Scope) (s : State) : Host.Outcome State Fault Refusal := .next (s.drainTimeout k)

/-- Whether a scope code's objects exist (R443). -/
def State.scopeExists (s : State) (c : Call) (code : Nat) : Bool :=
  decide (code = 0) || (decide (code = 1) && s.partExists c.p) || (decide (code = 2) && s.ctxExists c.p c.c)

/-- DRAIN (R209, R443). -/
def opDrain (c : Call) (code ms : Nat) (s : State) : State :=
  let k := scopeOf code c.p c.c
  s.check c
    [(s.scopeExists c code && decide (ms ≤ 10000), stBadParam),
     (!s.net.scopes.any (fun r => scopesMeet r.scope k), stBusy)] (fun s =>
    let s := s.accept c (.drain k)
    let wait := (if ms = 0 then 100 else ms) * 100000
    let r : ScopeRec := ⟨k, .draining, s.clk.tide + BitVec.ofNat 64 wait, false⟩
    ({ s with net := { s.net with scopes := s.net.scopes ++ [r] } }).sendStops k)

/-- RELEASE (R209, R210, R269, R270, R443). -/
def opRelease (c : Call) (code : Nat) (s : State) : State :=
  let k := scopeOf code c.p c.c
  s.check c [(s.scopeExists c code && (s.scopeSt k).isSome, stBadParam)] (fun s =>
    let s := s.endDrain k stTimeout
    let s := { s with net := { s.net with scopes := s.net.scopes.filter (fun r => decide (r.scope ≠ k)) } }
    let s := if code = 0 ∧ s.fab.routesWritten then
        { s with fab := { s.fab with rgen := s.fab.rgen + 1, routesWritten := false } } else s
    let s := s.answer c stOk []
    let s := s.sendResumes k
    let s := if code = 0 then s.each State.forwardAll (List.range 8) else s
    s.pumpJobs)

/-! ### Routes (R263, R265, R278) -/

/-- The entry of the standard table (R265) for coordinate v, from coordinate c of a ring of n. -/
def standardEntry (n c v : Nat) (wrap : Bool) : Nat :=
  if n ≤ v then 3
  else if v = c then 0
  else if wrap then (if (v + n - c) % n ≤ (c + n - v) % n then 1 else 2)
  else if c < v then 1 else 2

/-- A direction table from its 32 entries (R265, R290). -/
def dirWord (f : Nat → Nat) : Word := BitVec.ofNat 64 (((List.range 32).map (fun v => fieldAt (f v) (2 * v) 2)).sum)

/-- Whether a direction table obeys R265. -/
def dirOk (w : Word) (n c : Nat) : Bool :=
  (List.range 32).all (fun v =>
    let e := bitsOf w.toNat (2 * v) 2
    if n ≤ v then decide (e = 3) else if v = c then decide (e = 0) else decide (e ≠ 0))

/-- The ring sizes of a WRITE_ROUTES. -/
def routeSize (r : RouteParams) (d : Nat) : Nat := 1 + (if d = 0 then r.sxM1 else if d = 1 then r.syM1 else r.szM1)
/-- The ring closures of a WRITE_ROUTES. -/
def routeWrap (r : RouteParams) (d : Nat) : Bool := bitOf r.flags d
/-- The tables that a WRITE_ROUTES supplies. -/
def routeGiven (r : RouteParams) (d : Nat) : Word := if d = 0 then r.dirX else if d = 1 then r.dirY else r.dirZ

/-- The table of a dimension after a WRITE_ROUTES (R265). -/
def routeTable (r : RouteParams) (d : Nat) : Word :=
  if bitOf r.flags 3 then dirWord (fun v => standardEntry ((routeSize r d)) (coordOf r.self d) v ((routeWrap r d))) else (routeGiven r d)

/-- Steps between two coordinates of a ring (R278). -/
def ringSteps (n a b : Nat) (wrap : Bool) : Nat :=
  if wrap then min ((a + n - b) % n) ((b + n - a) % n) else (a - b) + (b - a)

/-- The farthest device of a ring from a root's coordinate (R263). -/
def ringDepth (n root : Nat) (wrap : Bool) : Nat :=
  ((List.range n).map (fun v => ringSteps n v root wrap)).foldl max 0

/-- Devices of a fabric. -/
def routeDevices (r : RouteParams) : Nat := (routeSize r 0) * (routeSize r 1) * (routeSize r 2)

/-- Whether the values of a WRITE_ROUTES pass R7, R263 and R265. -/
def State.routesOk (s : State) (r : RouteParams) : Bool :=
  let ds := [0, 1, 2]
  decide (r.flags < 16)
    && ds.all (fun d => decide ((routeSize r d) ≤ 32) && decide (coordOf r.self d < (routeSize r d)) && decide (coordOf r.root d < (routeSize r d))
        && !((routeWrap r d) && decide ((routeSize r d) ≤ 2)) && dirOk (routeTable r d) ((routeSize r d)) (coordOf r.self d)
        && (!bitOf r.flags 3 || decide ((routeGiven r d) = 0)))
    && (decide (s.facts.linkDies ≠ 4) || decide ((routeSize r 2) = 1))
    && decide ((ds.map (fun d => ringDepth ((routeSize r d)) (coordOf r.root d) ((routeWrap r d)))).sum ≤ 48)
    && decide (routeDevices r ≤ (if s.facts.linkDies = 4 then 1024 else 32768))

/-- The parent link of R278: towards the root in Z, else Y, else X; none at the root. -/
def parentOf (r : RouteParams) : Option Nat :=
  ([2, 1, 0].find? (fun d => decide (coordOf r.self d ≠ coordOf r.root d))).map (fun d =>
    2 * d + (if standardEntry ((routeSize r d)) (coordOf r.self d) (coordOf r.root d) ((routeWrap r d)) = 1 then 0 else 1))

/-- The depth of R278. -/
def depthOf (r : RouteParams) : Nat :=
  ([0, 1, 2].map (fun d => ringSteps ((routeSize r d)) (coordOf r.self d) (coordOf r.root d) ((routeWrap r d)))).sum

/-- The torus links after a WRITE_ROUTES (R262, R263): peers are to be learnt anew, and each learns this device's
address. -/
def State.rejoinLinks (s : State) : State :=
  s.each (fun s l =>
    let on := (s.link l).carries
    let s := if on then
      s.modLink l (fun x => { x with state := s.servingState l, peer := none, delays := [], lastBeacon := none }) else s
    if on ∨ (s.link l).state = .retraining then s.emit (.linkAddress l s.fab.self) else s)
    (List.range 6)

/-- The tables are written (R263, R265, R278, R465). -/
def State.setRoutes (s : State) (r : RouteParams) : State :=
  let f := { s.fab with
    wrapX := (routeWrap r 0), wrapY := (routeWrap r 1), wrapZ := (routeWrap r 2), sx := (routeSize r 0), sy := (routeSize r 1), sz := (routeSize r 2),
    root := r.root, self := r.self, dirX := routeTable r 0, dirY := routeTable r 1, dirZ := routeTable r 2,
    routesWritten := true, locked := false, isRoot := decide (r.self = r.root), parent := parentOf r, depth := depthOf r,
    offset := 0, lockMarks := 0, missed := 0, beaconSeen := false, beaconed := false }
  ({ s with fab := f, bring := { s.bring with fabScale := max 1 (s.licence 0) } }).rejoinLinks

/-- WRITE_ROUTES (R263, R443). -/
def opWriteRoutes (c : Call) (r : RouteParams) (s : State) : State :=
  s.check c
    [(s.routesOk r, stBadParam), (decide (routeDevices r ≤ max 1 (s.licence 0)), stNoLicence),
     (s.inSlack .device, stTableBusy)] (fun s => (s.setRoutes r).answer c stOk [])

/-! ### Circuits, status and pairs (R207, R210, R286, R443) -/

/-- Whether a record names an entry that another partition owns (R210). -/
def State.circuitForeign (s : State) (p : Nat) (r : CircuitRec) : Bool :=
  let v := SMap.get 0 (s.router r.site).circuits r.entry
  bitOf v.toNat 63 && !circuitOf p none v

/-- Whether the scopes in SLACK cover the entries that records name (R208, R210). -/
def State.circuitsCovered (s : State) (p c : Nat) (rs : List CircuitRec) : Bool :=
  s.inSlack .device || s.inSlack (.part p) || (s.inSlack (.ctx p c) && !s.circuitsTaken p c rs)

/-- WRITE_CIRCUITS (R207, R210, R443). -/
def opWriteCircuits (c : Call) (rs : List CircuitRec) (s : State) : State :=
  s.check c
    [(s.ctxExists c.p c.c && decide (1 ≤ rs.length) && decide (rs.length ≤ 168)
        && rs.all (fun r => decide (r.site < 480) && decide (r.entry < 256)) && s.circuitsOk c.p c.c rs, stBadParam),
     (!rs.any (s.circuitForeign c.p), stDenied), (s.circuitsCovered c.p c.c rs, stTableBusy)] (fun s =>
    (s.writeCircuits c.p c.c rs).answer c stOk [])

/-- FABRIC_STATUS (R443). -/
def opFabricStatus (c : Call) (s : State) : State :=
  s.answer c stOk (leBytes (s.fabRead 0) 8 ++ leBytes (s.fabRead 0x20) 8 ++ leBytes s.netSwStatus 8
    ++ (List.range 8).flatMap (fun l => leBytes (s.fabRead (0x100 + 8 * l)) 8)
    ++ (List.range 8).flatMap (fun l => leBytes (s.fabRead (0x140 + 8 * l)) 8))

/-- SET_PAIR (R286). -/
def opSetPair (c : Call) (flags baseA baseB : Nat) (s : State) : State :=
  let on := bitOf flags 0
  s.check c
    [(decide (flags < 4) && decide (baseA % 256 = 0) && decide (baseB % 256 = 0) && decide (baseA < 2 ^ 48)
        && decide (baseB < 2 ^ 48), stBadParam),
     (decide (0 < s.licence 1), stNoLicence), (decide (s.facts.linkDies = 8), stDenied), (!s.anyRunning, stBusy)] (fun s =>
    ({ s with fab := { s.fab with
        pairEn := on, pairSide := bitOf flags 1, exportA := on, exportB := on, baseA := baseA, baseB := baseB } }).answer
      c stOk [])

end Sys2Proof.Machine
end

