-- ==== Sys2Proof/Machine/CmdPower.lean ====
section
/-! DEFINITION. The power and integrity commands (R302, R311, R317 to R319, R375, R380, R381, R390, R394, R444,
R445). -/

namespace Sys2Proof.Machine

/-! ### Power (R444) -/

/-- SET_CAP (R375, R444): the cap that the next tide mark takes. -/
def opSetCap (c : Call) (watts : Nat) (s : State) : State :=
  s.check c [(decide (2500 ≤ watts) && decide (watts ≤ 10500), stBadParam)] (fun s =>
    { s with pwr := { s.pwr with capNext := some watts } }.answer c stOk [])

/-- SET_OPPOINT (R380, R444): the ceiling and the hinted mode that the next tide mark takes. -/
def opSetOppoint (c : Call) (bin hinted : Nat) (s : State) : State :=
  s.check c [(decide (32 ≤ bin) && decide (bin ≤ 76) && decide (hinted < 2), stBadParam)] (fun s =>
    let s := { s with clk := { s.clk with ceilingNext := some bin } }
    { s with pwr := { s.pwr with hintedNext := some (decide (hinted = 1)) } }.answer c stOk [])

/-- The phase that a PILOT command declares (R381): LEAD counts from the tide mark that follows acceptance. -/
def State.pilotPhase (s : State) (lead cls dur : Nat) : Heavy := ⟨s.markNo + 1 + lead, dur, cls⟩

/-- PILOT (R381, R444). -/
def opPilot (c : Call) (lead cls dur : Nat) (s : State) : State :=
  s.check c
    [(s.partExists c.p && decide (1 ≤ lead) && decide (lead ≤ 255) && decide (cls ≤ 7) && decide (1 ≤ dur)
        && decide (dur ≤ 4095), stBadParam)] (fun s =>
    let h := s.pilotPhase lead cls dur
    ((s.takeHint c.p h).setVlogs).answer c stOk (leBytes h.start 8))

/-- Whether the parameters of SET_TELEMETRY are in range (R390, R444). -/
def telemOk (mode ring records interval : Nat) : Bool :=
  match mode with
  | 0 => decide (ring = 0) && decide (records = 0) && decide (interval = 0)
  | 1 => decide (ring % 256 = 0) && decide (16 ≤ records) && decide (records ≤ 65536) && decide (1 ≤ interval)
      && decide (interval ≤ 1000)
  | _ => false

/-- Telemetry as SET_TELEMETRY leaves it (R390): the pointers and the sequence begin again, and the first window
begins at the next multiple of 100,000 tide counts. -/
def State.newTelem (s : State) (mode ring records interval : Nat) : Telem :=
  { Telem.clear with
    on := decide (mode = 1), ring := ring, records := records, interval := interval,
    windowEnd := if mode = 1 then (ceilDiv s.clk.tide.toNat 100000 + 1) * 100000 else 0 }

/-- SET_TELEMETRY (R390, R444). -/
def opSetTelemetry (c : Call) (mode ring records interval : Nat) (s : State) : State :=
  s.check c [(telemOk mode ring records interval, stBadParam)] (fun s =>
    { s with pwr := { s.pwr with telem := s.newTelem mode ring records interval } }.answer c stOk [])

/-- The contexts that READ_ENERGY names (R444). -/
def namedCtxs (mask : BitVec 160) : List Nat := allCtxs.filter (fun n => mask.getLsbD n)

/-- The five totals of R444. -/
def Pwr.totals (p : Pwr) : List Nat := [p.attributed, p.unattributed, p.overhead, p.railEnergy, p.lossEnergy]

/-- READ_ENERGY (R394, R444), in mJ. -/
def opReadEnergy (c : Call) (mask : BitVec 160) (s : State) : State :=
  let ns := namedCtxs mask
  s.check c [(decide (ns.length ≤ 118) && ns.all (fun n => decide ((s.ctx n).state ≠ .none)), stBadParam)] (fun s =>
    s.answer c stOk ((s.pwr.totals ++ ns.map (fun n => (s.ctx n).energy)).flatMap (fun e => leBytes (e / 1000000000000) 8)))

/-! ### Integrity (R445) -/

/-- SET_CHECK_LEVEL (R302, R321): from the partition's next LAUNCH on. -/
def opSetCheckLevel (c : Call) (level : Nat) (s : State) : State :=
  s.check c [(s.partExists c.p && decide (level ≤ 3), stBadParam)] (fun s =>
    (s.modPart c.p (fun x => { x with level := level })).answer c stOk [])

/-- The sites that a stress test covers (R317): the good ones of the regions that its mask names. -/
def State.stressSites (s : State) (mask : Nat) : List Nat :=
  allSites.filter (fun n => bitOf mask (regionOf n) && s.siteGood n)

/-- RUN_STRESS_TEST (R317, R445): the test begins with the heating load. DESIGN CHOICE (log 126): a test that runs counts as
a running context. -/
def opRunStressTest (c : Call) (mask target : Nat) (r : StressResult) (s : State) : State :=
  let tested := s.stressSites mask
  s.check c
    [(decide (mask < 2 ^ 20) && (decide (target = 0) || (decide (60 ≤ target) && decide (target ≤ 94)))
        && decide (tested ≠ []), stBadParam),
     (allCtxs.all (fun n => decide ((s.ctx n).state ≠ .running)) && !s.stressing, stBusy)] (fun s =>
    s.accept c (.stress ⟨tested, tested, [], r.fails, if target = 0 then 90 else target, [], s.clk.bin, s.clk.tide, .heating⟩))

/-- A tally-log entry as READ_TALLY_LOG returns it (R445). -/
def tallyOut (hidden : Bool) (y : Tally) : List Byte :=
  leBytes (tallyWord (if hidden then { y with crc := 0, sum := 0, absSum := 0 } else y)) 48

/-- READ_TALLY_LOG (R311, R445). -/
def opReadTallyLog (c : Call) (site : Nat) (s : State) : State :=
  s.check c [(decide (site < 480) && s.siteGood site, stBadParam)] (fun s =>
    let hidden := match s.partOfSite site with
      | some p => (s.part p).confidential
      | none => false
    s.answer c stOk ((List.range 16).flatMap (fun i =>
      tallyOut hidden (SMap.get Tally.empty (s.tile site).integ.tallyLog i))))

end Sys2Proof.Machine
end

