-- ==== Sys2Proof/Machine/CmdSecurity.lean ====
section
/-! DEFINITION. The security commands (R446, R475 to R479, R485, R490). -/

namespace Sys2Proof.Machine

/-! ### Attestation (R475, R476) -/

/-- Session RSA modulus and ML-KEM encapsulation key of the present bring-up (R474); zeros where none exist. -/
def State.sessionParts (s : State) : List Byte × List Byte :=
  match s.sec.session with
  | some n =>
    let k := Config.sessionKeys n
    (fitBytes 384 k.1, fitBytes 1568 k.2)
  | none => (zeroBytes 384, zeroBytes 1568)

/-- The session hash (R474). -/
def State.sessionHash (s : State) : List Byte := fitBytes 48 (Config.sha384 (s.sessionParts.1 ++ s.sessionParts.2))

/-- What a report says of a partition (R475). -/
def State.reportPart (s : State) (p : Nat) : List Byte :=
  let x := s.part p
  let count (f : Ctxt → Bool) : Nat := ((ctxsOf p).filter (fun n => f (s.ctx n))).length
  leBytes (flagNat x.valid + 2 * flagNat x.confidential + 4 * flagNat x.hbmKey.isSome + 8 * flagNat x.xferKey.isSome) 1
    ++ leBytes (count (fun c => decide (c.state ≠ .none))) 1 ++ leBytes (count (fun c => c.debug)) 1 ++ zeroBytes 1

/-- Bytes 0 to 2,895 of a report, over which it is signed (R475, R476). -/
def State.reportBody (s : State) (nonce : List Byte) : List Byte :=
  let fuses := s.facts.fuses
  let responses := ((List.range 7).map (fun i => fieldAt (s.sec.alarms.getD i (Alarm.clear 0)).response (4 * i) 2)).sum
  let held := ((List.range 6).map (fun f => fieldAt (flagNat (decide (0 < s.licence f))) f 1)).sum
  let id := Config.identityKeys fuses.seed
  leBytes 0x54415453 4 ++ leBytes 1 2 ++ leBytes 1 2 ++ leBytes 38944 4 ++ zeroBytes 4 ++ fitBytes 32 nonce
    ++ s.deviceHash ++ s.sessionHash ++ leBytes (uciId s.facts) 8 ++ leBytes fuses.secver 1 ++ leBytes s.bring.secver 1
    ++ zeroBytes 2 ++ leBytes s.bring.fwver 4 ++ fitBytes 48 s.bring.imageHash ++ leBytes s.clk.tide.toNat 8
    ++ leBytes responses 4 ++ leBytes (flagNat fuses.terminalEn + 2 * flagNat fuses.secureDebug) 1
    ++ leBytes s.bring.phase.code 1 ++ leBytes (flagNat s.sec.everApplied) 1 ++ leBytes held 1
    ++ leBytes s.bring.fabScale 4 ++ zeroBytes 4 ++ allParts.flatMap s.reportPart ++ zeroBytes 200
    ++ fitBytes 384 id.1 ++ fitBytes 48 id.2 ++ s.sessionParts.1 ++ s.sessionParts.2

/-- A report with both signatures (R475, R476). -/
def State.report (s : State) (nonce : List Byte) : List Byte :=
  let body := s.reportBody nonce
  let sig := Config.reportSignatures s.facts.fuses.seed body
  body ++ fitBytes 384 sig.1 ++ fitBytes 35664 sig.2

/-- ATTEST (R431, R446, R475). -/
def opAttest (c : Call) (nonce : List Byte) (buf len : Nat) (s : State) : State :=
  s.check c [(bufOk buf && decide (nonce.length = 32), stBadParam)] (fun s =>
    if len < 38944 then s.tooSmall c 38944
    else ((s.sayAccepted c).hostOut buf (s.report nonce)).cmdRecord 3 c.hdr c.op stOk (leBytes 38944 8))

/-! ### Keys (R446, R477 to R479) -/

/-- The length of an envelope of a kind (R477). -/
def envelopeLength (kind : Nat) : Nat := if kind = 0 then 2108 else 2076

/-- The layout of an envelope (R477, R478 step 1). -/
def State.envelopeOk (s : State) (p kind : Nat) (bs : List Byte) : Bool :=
  let f (o n : Nat) : Nat := fieldBytes bs o n
  decide (bs.length = envelopeLength kind) && decide (f 0 4 = 0x594B5453) && decide (f 4 2 = 1) && decide (f 6 1 = kind)
    && decide (f 7 1 = p) && allZero bs 56 8 && s.sec.session.isSome
    && decide ((bs.drop 8).take 48 = s.sessionHash)

/-- The key of an envelope (R478): none where a step fails. -/
def State.unwrapKey (s : State) (p kind : Nat) (bs : List Byte) : Option (List Byte) :=
  if s.envelopeOk p kind bs then Config.openEnvelope (s.sec.session.getD 0) bs else none

/-- Install a key (R478 step 6, R481). -/
def State.installKey (s : State) (p kind : Nat) (key : List Byte) : State :=
  s.modPart p (fun x => if kind = 0 then { x with hbmKey := some (fitBytes 64 key) }
    else { x with xferKey := some (fitBytes 32 key), lastNonce := 0 })

/-- A failed unwrap (R479): a notice, and the alarm at the sixteenth in the window, which then begins again. -/
def State.failedUnwrap (s : State) (p : Nat) : State :=
  let w := s.unwrapWindow ++ [s.clk.tide]
  let s := s.logFault { plainNote 0 0x0A04 with part := some p, d0 := w.length }
  if 16 ≤ w.length then
    { s with sec := { s.sec with unwraps := [] } }.alarm 6 (leBytes p 1 ++ leBytes w.length 1) (some p)
  else { s with sec := { s.sec with unwraps := w } }

/-- An envelope has been read whole (R478, R479). -/
def State.applyEnvelope (s : State) (j : Job) (kind : Nat) (bs : List Byte) : State :=
  let p := j.hdr.part.toNat
  match s.unwrapKey p kind bs with
  | some key => (s.installKey p kind key).complete j stOk []
  | none => (s.complete j stDenied []).failedUnwrap p

/-- LOAD_KEY (R446, R478). -/
def opLoadKey (c : Call) (kind addr len : Nat) (d : HostData) (s : State) : State :=
  s.check c
    [(s.partExists c.p && decide (kind < 2) && decide (1 ≤ len) && decide (len ≤ 16384) && (s.part c.p).confidential,
      stBadParam),
     (decide (0 < s.licence 3), stNoLicence),
     (decide (kind = 1) || !s.partLaunched c.p, stBusy)] (fun s =>
    let j := c.job (.envelope kind addr len [])
    let s := s.accept c (.envelope kind addr len [])
    match d with
    | .later => s.askHost addr len
    | .failed => s.complete j stFaulted []
    | .bytes b => s.applyEnvelope j kind (b.take len))

/-- The keys of a partition are destroyed and its launched contexts end (R446). -/
def State.eraseKeysOf (s : State) (p : Nat) : State :=
  (s.endAll p).modPart p (fun x => { x with hbmKey := none, xferKey := none })

/-- ERASE_KEYS (R446). -/
def opEraseKeys (c : Call) (s : State) : State :=
  s.check c [(decide (c.p = 0xFF) || s.partExists c.p, stBadParam)] (fun s =>
    let ps := if c.p = 0xFF then allParts.filter (fun p => (s.part p).valid) else [c.p]
    (s.each State.eraseKeysOf ps).answer c stOk [])

/-! ### Alarms (R446, R485, R489, R490) -/

/-- SET_ALARM_POLICY (R446, R485). -/
def opSetAlarmPolicy (c : Call) (source response : Nat) (s : State) : State :=
  s.check c
    [(decide (source < 7) && decide (response < 4), stBadParam),
     (decide (s.alarmFloor source ≤ response) && (decide (response ≠ respTerminal) || s.facts.fuses.terminalEn), stDenied)]
    (fun s =>
      let a := s.sec.alarms.getD source (Alarm.clear 0)
      { s with sec := { s.sec with alarms := s.sec.alarms.set source { a with response := response } } }.answer c stOk [])

/-- READ_ALARMS (R446, R489, R490): ALARM_N is released after a NOTE or HALT. -/
def opReadAlarms (c : Call) (s : State) : State :=
  let keep := s.sec.erasing || decide (s.bring.phase = .alarmed)
  let records := (List.range 7).flatMap s.alarmRecord
  { s with pins := { s.pins with alarmLow := s.pins.alarmLow && keep } }.answer c stOk records

end Sys2Proof.Machine
end

