-- ==== Sys2Proof/Machine/CmdDebug.lean ====
section
/-! DEFINITION. The debug and maintenance commands (R94, R219, R220, R447, R461). -/

namespace Sys2Proof.Machine

/-- The context on a site's tile (R447): its number, where a partition and a context are there. -/
def State.ctxOnSite (s : State) (site : Nat) : Option Nat :=
  match s.partOfSite site, (s.tile site).ctx with
  | some p, some c => some (ctxNo p c.toNat)
  | _, _ => none

/-- Whether debug mode is on for the context running on a site (R447). -/
def State.debugOnSite (s : State) (site : Nat) : Bool :=
  match s.ctxOnSite site with
  | some n => decide ((s.ctx n).state = .running) && (s.ctx n).debug
  | none => false

/-- Whether a partition is confidential; debug mode is refused for its contexts (R447, R482). -/
def State.confidentialPart (s : State) (p : Nat) : Bool := (s.part p).confidential

/-- SET_DEBUG_MODE (R447). -/
def opSetDebugMode (c : Call) (mode : Nat) (s : State) : State :=
  s.check c
    [(s.ctxExists c.p c.c && decide (mode < 2), stBadParam), (!s.confidentialPart c.p, stDenied)] (fun s =>
    (s.modCtx c.n (fun x => { x with debug := decide (mode = 1) })).answer c stOk [])

/-- The bytes of a queue's head message, wrapping in the queue (R219, R220). -/
def headBytes (t : Tile) (q : Nat) : List Byte :=
  let x := t.chan.queue q
  match x.msgs with
  | [] => []
  | m :: _ => (List.range m.len).map (fun j =>
      (Memory.readBytes t.spad.mem (0x6FF0000 + q * 4096 + (x.head * 128 + j) % 4096) 1).getD 0 0)

/-- PEEK_QUEUE (R447). -/
def opPeekQueue (c : Call) (site queue buf : Nat) (s : State) : State :=
  s.check c [(decide (site < 480) && s.siteGood site && decide (queue < 16) && bufOk buf, stBadParam)] (fun s =>
    let t := s.tile site
    let bs := if buf ≠ 0 ∧ s.debugOnSite site then (headBytes t queue).take 1024 else []
    (s.hostOut buf bs).answer c stOk
      (leBytes (chQueue (t.chan.queue queue)) 8 ++ leBytes (chQhead (t.chan.queue queue)) 8 ++ leBytes bs.length 8))

/-- READ_ACCUMULATOR (R94, R431, R447). -/
def opReadAccumulator (c : Call) (site first count buf len : Nat) (s : State) : State :=
  s.check c
    [(decide (site < 480) && decide (1 ≤ count) && decide (count ≤ 128) && decide (first + count ≤ 128) && bufOk buf,
      stBadParam)] (fun s =>
    if len < 16384 * count then s.tooSmall c (16384 * count)
    else s.check c [(s.debugOnSite site, stDenied)] (fun s =>
      let bs := accBytes (s.tile site) (16384 * first) (16384 * count)
      ((s.sayAccepted c).hostOut buf bs).cmdRecord 3 c.hdr c.op stOk (leBytes bs.length 8)))

/-- TRACE starts (R447). -/
def State.startTrace (s : State) (c : Call) (kinds buf len : Nat) : State :=
  (s.modCtx c.n (fun x => { x with trace := some ⟨kinds, buf, len, 0⟩ })).answer c stOk []

/-- TRACE stops (R447): the number of records written. -/
def State.stopTrace (s : State) (c : Call) : State :=
  let n := match (s.ctx c.n).trace with
    | some t => t.written
    | none => 0
  (s.modCtx c.n (fun x => { x with trace := none })).answer c stOk (leBytes n 8)

/-- TRACE (R447). -/
def opTrace (c : Call) (mode kinds buf len : Nat) (s : State) : State :=
  s.check c
    [(s.ctxExists c.p c.c && decide (mode < 2) && decide (kinds < 32) && bufOk buf && decide (len % 16 = 0), stBadParam),
     ((s.ctx c.n).debug, stDenied), (decide (mode = 0) || (s.ctx c.n).trace.isNone, stBusy)] (fun s =>
    if mode = 1 then s.startTrace c kinds buf len else s.stopTrace c)

/-- RETIRE_TILE (R447, R461): REASON 0x07. -/
def opRetireTile (c : Call) (site : Nat) (s : State) : State :=
  let st := (s.siteRec site).status
  s.check c [(decide (site < 480) && (decide (st = 0) || decide (st = 3)), stBadParam)] (fun s =>
    if st = 3 then s.answer c stOk []
    else ((s.sayAccepted c).retire site 7).cmdRecord 3 c.hdr c.op stOk [])

/-- SET_SERVICE_FMAX (R370, R447). -/
def opSetServiceFmax (c : Call) (site bin : Nat) (s : State) : State :=
  s.check c
    [(decide (site < 480) && s.siteGood site && decide (32 ≤ bin) && decide (bin ≤ s.serviceBin site), stBadParam)]
    (fun s => (s.modSite site (fun x => { x with serviceBin := some bin })).answer c stOk [])

end Sys2Proof.Machine
end

