-- ==== Sys2Proof/Machine/Commands.lean ====
section
/-! DEFINITION. Commands as they reach the harbour master (R403, R430, R434, R436): the checks of every command,
FENCE, and the meaning of each command row, which is the command as if its packet had just been taken from
intake (log entry 24). -/

namespace Sys2Proof.Machine

/-- A command that has passed the checks of the header and of the phase runs (R434). A row that is no command has
no effect here. -/
def runCommand (i : Instr) (call : Call) (s : State) : State :=
  match i with
  | .identify _ => opIdentify call s
  | .status _ => opStatus call s
  | .readFloorplan _ buf len => opReadFloorplan call buf len s
  | .readFaultlog _ buf len first count => opReadFaultlog call buf len first count s
  | .echo _ bytes => opEcho call bytes s
  | .setConfig _ items => opSetConfig call items s
  | .getConfig _ codes => opGetConfig call codes s
  | .installLicence _ addr len d => opInstallLicence call addr len d s
  | .listLicences _ => opListLicences call s
  | .createPartition _ g => opCreatePartition call g s
  | .destroyPartition _ => opDestroyPartition call s
  | .resetPartition _ => opResetPartition call s
  | .createContext _ tenant => opCreateContext call tenant s
  | .destroyContext _ => opDestroyContext call s
  | .switchContext _ => opSwitchContext call s
  | .setQuantum _ ms => opSetQuantum call ms s
  | .copyIn _ c => opCopyIn call c s
  | .copyOut _ c => opCopyOut call c s
  | .fill _ dev len pattern => opFill call dev len pattern s
  | .setInterleave _ g => opSetInterleave call g s
  | .salvage _ region dev => opSalvage call region dev s
  | .launch _ plan arg start => opLaunch call plan arg start s
  | .pause _ => opPause call s
  | .resume _ => opResume call s
  | .abort _ => opAbort call s
  | .setChannelTable _ base count => opSetChannelTable call base count s
  | .invalidateChannels _ first count => opInvalidateChannels call first count s
  | .drainCommand _ scope ms => opDrain call scope ms s
  | .release _ scope => opRelease call scope s
  | .writeRoutes _ r => opWriteRoutes call r s
  | .writeCircuits _ recs => opWriteCircuits call recs s
  | .fabricStatus _ => opFabricStatus call s
  | .setPair _ flags baseA baseB => opSetPair call flags baseA baseB s
  | .setCap _ watts => opSetCap call watts s
  | .setOppoint _ bin hinted => opSetOppoint call bin hinted s
  | .pilotCommand _ lead cls dur => opPilot call lead cls dur s
  | .setTelemetry _ mode ring records interval => opSetTelemetry call mode ring records interval s
  | .readEnergy _ mask => opReadEnergy call mask s
  | .setCheckLevel _ level => opSetCheckLevel call level s
  | .runStressTest _ mask target r => opRunStressTest call mask target r s
  | .readTallyLog _ site => opReadTallyLog call site s
  | .attest _ nonce buf len => opAttest call nonce buf len s
  | .loadKey _ kind addr len d => opLoadKey call kind addr len d s
  | .eraseKeys _ => opEraseKeys call s
  | .setAlarmPolicy _ source response => opSetAlarmPolicy call source response s
  | .readAlarms _ => opReadAlarms call s
  | .setDebugMode _ mode => opSetDebugMode call mode s
  | .peekQueue _ site queue buf => opPeekQueue call site queue buf s
  | .readAccumulator _ site first count buf len => opReadAccumulator call site first count buf len s
  | .trace _ mode kinds buf len => opTrace call mode kinds buf len s
  | .retireTile _ site => opRetireTile call site s
  | .setServiceFmax _ site bin => opSetServiceFmax call site bin s
  | _ => s

/-- A command is served: the phase, then its own checks and its work (R434, R436). -/
def State.serve (s : State) (i : Instr) (c : Call) : State :=
  if s.phaseStatus c.op = stOk then runCommand i c s else s.answer c (s.phaseStatus c.op) []

/-- Whether FENCE holds a command (R403). -/
def State.fenced (s : State) (c : Call) : Bool := bitOf c.hdr.flags.toNat 1 && s.earlierOpen c.serial

/-- A command whose packet bytes have been checked is submitted (R403, R430, R434). -/
def State.submit (s : State) (i : Instr) : State :=
  match cmdInfo i with
  | none => s
  | some x =>
    let c : Call := ⟨x.hdr, x.op, false, s.hm.nextSerial⟩
    let s := { s with hm := { s.hm with nextSerial := s.hm.nextSerial + 1 } }
    if !x.headerOk then s.answer c stBadParam []
    else if s.phaseStatus c.op ≠ stOk then s.answer c (s.phaseStatus c.op) []
    else if s.fenced c then
      { s with hm := { s.hm with held := s.hm.held ++ [⟨i, x.hdr, x.op, s.clk.tide, false, c.serial⟩] } }
    else runCommand i c s

/-- A command row: the command is submitted while the harbour master takes commands (R403, R405). -/
def State.command (s : State) (i : Instr) : State := if s.canTake then s.submit i else s

/-! ### Held commands (R403, R407) -/

/-- The first held command that FENCE holds no longer. -/
def State.nextHeld (s : State) : Option HeldCmd := s.hm.held.find? (fun h => !s.earlierOpen h.serial)

/-- Take a command out of the held ones. -/
def State.unhold (s : State) (h : HeldCmd) : State :=
  { s with hm := { s.hm with held := s.hm.held.filter (fun x => decide (x.serial ≠ h.serial)) } }

/-- Held commands whose turn has come are served; `n` bounds how many. -/
def State.releaseHeld : Nat → State → State
  | 0, s => s
  | n + 1, s => match s.nextHeld with
    | none => s
    | some h => ((s.unhold h).serve h.cmd ⟨h.hdr, h.op, h.accepted, h.serial⟩).releaseHeld n

/-- Held commands that would pass their deadline of 100,000 tide counts are answered ACCEPTED (R403, R407). -/
def State.ageHeld (s : State) : State :=
  let late (h : HeldCmd) : Bool := !h.accepted && decide (100000 ≤ (s.clk.tide - h.since).toNat)
  let old := s.hm.held.filter late
  let s := { s with hm := { s.hm with held := s.hm.held.map (fun h => if late h then { h with accepted := true } else h) } }
  old.foldl (fun s h => s.cmdRecord 0 h.hdr h.op stAccepted []) s

/-- Held commands go on. -/
def State.pumpHeld (s : State) : State :=
  if s.canTake then (s.releaseHeld s.hm.held.length).ageHeld else s

/-! ### The command rows -/

/-- IDENTIFY (R438). -/
def execIdentify (h : CmdHdr) (s : State) : Host.Outcome State Fault Refusal :=
  .next (s.command (.identify h))

/-- STATUS (R438). -/
def execStatus (h : CmdHdr) (s : State) : Host.Outcome State Fault Refusal :=
  .next (s.command (.status h))

/-- READ_FLOORPLAN (R438). -/
def execReadFloorplan (h : CmdHdr) (buf : Nat) (len : Nat) (s : State) : Host.Outcome State Fault Refusal :=
  .next (s.command (.readFloorplan h buf len))

/-- READ_FAULTLOG (R438). -/
def execReadFaultlog (h : CmdHdr) (buf : Nat) (len : Nat) (first : Nat) (count : Nat) (s : State) :
    Host.Outcome State Fault Refusal :=
  .next (s.command (.readFaultlog h buf len first count))

/-- ECHO (R438). -/
def execEcho (h : CmdHdr) (bytes : List Byte) (s : State) : Host.Outcome State Fault Refusal :=
  .next (s.command (.echo h bytes))

/-- SET_CONFIG (R439). -/
def execSetConfig (h : CmdHdr) (items : List (Nat × Nat)) (s : State) : Host.Outcome State Fault Refusal :=
  .next (s.command (.setConfig h items))

/-- GET_CONFIG (R439). -/
def execGetConfig (h : CmdHdr) (codes : List Nat) (s : State) : Host.Outcome State Fault Refusal :=
  .next (s.command (.getConfig h codes))

/-- INSTALL_LICENCE (R464). -/
def execInstallLicence (h : CmdHdr) (addr : Nat) (len : Nat) (d : HostData) (s : State) :
    Host.Outcome State Fault Refusal :=
  .next (s.command (.installLicence h addr len d))

/-- LIST_LICENCES (R439). -/
def execListLicences (h : CmdHdr) (s : State) : Host.Outcome State Fault Refusal :=
  .next (s.command (.listLicences h))

/-- CREATE_PARTITION (R411). -/
def execCreatePartition (h : CmdHdr) (g : GrantBlock) (s : State) : Host.Outcome State Fault Refusal :=
  .next (s.command (.createPartition h g))

/-- DESTROY_PARTITION (R426). -/
def execDestroyPartition (h : CmdHdr) (s : State) : Host.Outcome State Fault Refusal :=
  .next (s.command (.destroyPartition h))

/-- RESET_PARTITION (R425). -/
def execResetPartition (h : CmdHdr) (s : State) : Host.Outcome State Fault Refusal :=
  .next (s.command (.resetPartition h))

/-- CREATE_CONTEXT (R412). -/
def execCreateContext (h : CmdHdr) (tenant : Word) (s : State) : Host.Outcome State Fault Refusal :=
  .next (s.command (.createContext h tenant))

/-- DESTROY_CONTEXT (R426). -/
def execDestroyContext (h : CmdHdr) (s : State) : Host.Outcome State Fault Refusal :=
  .next (s.command (.destroyContext h))

/-- SWITCH_CONTEXT (R413). -/
def execSwitchContext (h : CmdHdr) (s : State) : Host.Outcome State Fault Refusal :=
  .next (s.command (.switchContext h))

/-- SET_QUANTUM (R414). -/
def execSetQuantum (h : CmdHdr) (ms : Nat) (s : State) : Host.Outcome State Fault Refusal :=
  .next (s.command (.setQuantum h ms))

/-- COPY_IN (R441). -/
def execCopyIn (h : CmdHdr) (c : CopyParams) (s : State) : Host.Outcome State Fault Refusal :=
  .next (s.command (.copyIn h c))

/-- COPY_OUT (R441). -/
def execCopyOut (h : CmdHdr) (c : CopyParams) (s : State) : Host.Outcome State Fault Refusal :=
  .next (s.command (.copyOut h c))

/-- FILL (R441). -/
def execFill (h : CmdHdr) (dev : Nat) (len : Nat) (pattern : Word) (s : State) : Host.Outcome State Fault Refusal :=
  .next (s.command (.fill h dev len pattern))

/-- SET_INTERLEAVE (R326). -/
def execSetInterleave (h : CmdHdr) (g : GrantBlock) (s : State) : Host.Outcome State Fault Refusal :=
  .next (s.command (.setInterleave h g))

/-- SALVAGE (R441). -/
def execSalvage (h : CmdHdr) (region : Nat) (dev : Nat) (s : State) : Host.Outcome State Fault Refusal :=
  .next (s.command (.salvage h region dev))

/-- LAUNCH (R422). -/
def execLaunch (h : CmdHdr) (plan : Nat) (arg : Word) (start : Word) (s : State) : Host.Outcome State Fault Refusal :=
  .next (s.command (.launch h plan arg start))

/-- PAUSE (R442). -/
def execPause (h : CmdHdr) (s : State) : Host.Outcome State Fault Refusal :=
  .next (s.command (.pause h))

/-- RESUME (R442). -/
def execResume (h : CmdHdr) (s : State) : Host.Outcome State Fault Refusal :=
  .next (s.command (.resume h))

/-- ABORT (R442). -/
def execAbort (h : CmdHdr) (s : State) : Host.Outcome State Fault Refusal :=
  .next (s.command (.abort h))

/-- SET_CHANNEL_TABLE (R214). -/
def execSetChannelTable (h : CmdHdr) (base : Nat) (count : Nat) (s : State) : Host.Outcome State Fault Refusal :=
  .next (s.command (.setChannelTable h base count))

/-- INVALIDATE_CHANNELS (R244). -/
def execInvalidateChannels (h : CmdHdr) (first : Nat) (count : Nat) (s : State) : Host.Outcome State Fault Refusal :=
  .next (s.command (.invalidateChannels h first count))

/-- DRAIN_COMMAND (R209). -/
def execDrainCommand (h : CmdHdr) (scope : Nat) (ms : Nat) (s : State) : Host.Outcome State Fault Refusal :=
  .next (s.command (.drainCommand h scope ms))

/-- RELEASE (R209). -/
def execRelease (h : CmdHdr) (scope : Nat) (s : State) : Host.Outcome State Fault Refusal :=
  .next (s.command (.release h scope))

/-- WRITE_ROUTES (R263). -/
def execWriteRoutes (h : CmdHdr) (r : RouteParams) (s : State) : Host.Outcome State Fault Refusal :=
  .next (s.command (.writeRoutes h r))

/-- WRITE_CIRCUITS (R207). -/
def execWriteCircuits (h : CmdHdr) (recs : List CircuitRec) (s : State) : Host.Outcome State Fault Refusal :=
  .next (s.command (.writeCircuits h recs))

/-- FABRIC_STATUS (R443). -/
def execFabricStatus (h : CmdHdr) (s : State) : Host.Outcome State Fault Refusal :=
  .next (s.command (.fabricStatus h))

/-- SET_PAIR (R286). -/
def execSetPair (h : CmdHdr) (flags : Nat) (baseA : Nat) (baseB : Nat) (s : State) :
    Host.Outcome State Fault Refusal :=
  .next (s.command (.setPair h flags baseA baseB))

/-- SET_CAP (R375). -/
def execSetCap (h : CmdHdr) (watts : Nat) (s : State) : Host.Outcome State Fault Refusal :=
  .next (s.command (.setCap h watts))

/-- SET_OPPOINT (R380). -/
def execSetOppoint (h : CmdHdr) (bin : Nat) (hinted : Nat) (s : State) : Host.Outcome State Fault Refusal :=
  .next (s.command (.setOppoint h bin hinted))

/-- PILOT_COMMAND (R381). -/
def execPilotCommand (h : CmdHdr) (lead : Nat) (cls : Nat) (dur : Nat) (s : State) :
    Host.Outcome State Fault Refusal :=
  .next (s.command (.pilotCommand h lead cls dur))

/-- SET_TELEMETRY (R390). -/
def execSetTelemetry (h : CmdHdr) (mode : Nat) (ring : Nat) (records : Nat) (interval : Nat) (s : State) :
    Host.Outcome State Fault Refusal :=
  .next (s.command (.setTelemetry h mode ring records interval))

/-- READ_ENERGY (R394). -/
def execReadEnergy (h : CmdHdr) (mask : BitVec 160) (s : State) : Host.Outcome State Fault Refusal :=
  .next (s.command (.readEnergy h mask))

/-- SET_CHECK_LEVEL (R302). -/
def execSetCheckLevel (h : CmdHdr) (level : Nat) (s : State) : Host.Outcome State Fault Refusal :=
  .next (s.command (.setCheckLevel h level))

/-- RUN_STRESS_TEST (R318). -/
def execRunStressTest (h : CmdHdr) (mask : Nat) (target : Nat) (r : StressResult) (s : State) :
    Host.Outcome State Fault Refusal :=
  .next (s.command (.runStressTest h mask target r))

/-- READ_TALLY_LOG (R311). -/
def execReadTallyLog (h : CmdHdr) (site : Nat) (s : State) : Host.Outcome State Fault Refusal :=
  .next (s.command (.readTallyLog h site))

/-- ATTEST (R475). -/
def execAttest (h : CmdHdr) (nonce : List Byte) (buf : Nat) (len : Nat) (s : State) :
    Host.Outcome State Fault Refusal :=
  .next (s.command (.attest h nonce buf len))

/-- LOAD_KEY (R478). -/
def execLoadKey (h : CmdHdr) (kind : Nat) (addr : Nat) (len : Nat) (d : HostData) (s : State) :
    Host.Outcome State Fault Refusal :=
  .next (s.command (.loadKey h kind addr len d))

/-- ERASE_KEYS (R446). -/
def execEraseKeys (h : CmdHdr) (s : State) : Host.Outcome State Fault Refusal :=
  .next (s.command (.eraseKeys h))

/-- SET_ALARM_POLICY (R485). -/
def execSetAlarmPolicy (h : CmdHdr) (source : Nat) (response : Nat) (s : State) : Host.Outcome State Fault Refusal :=
  .next (s.command (.setAlarmPolicy h source response))

/-- READ_ALARMS (R490). -/
def execReadAlarms (h : CmdHdr) (s : State) : Host.Outcome State Fault Refusal :=
  .next (s.command (.readAlarms h))

/-- SET_DEBUG_MODE (R447). -/
def execSetDebugMode (h : CmdHdr) (mode : Nat) (s : State) : Host.Outcome State Fault Refusal :=
  .next (s.command (.setDebugMode h mode))

/-- PEEK_QUEUE (R447). -/
def execPeekQueue (h : CmdHdr) (site : Nat) (queue : Nat) (buf : Nat) (s : State) :
    Host.Outcome State Fault Refusal :=
  .next (s.command (.peekQueue h site queue buf))

/-- READ_ACCUMULATOR (R447). -/
def execReadAccumulator (h : CmdHdr) (site : Nat) (first : Nat) (count : Nat) (buf : Nat) (len : Nat) (s : State) :
    Host.Outcome State Fault Refusal :=
  .next (s.command (.readAccumulator h site first count buf len))

/-- TRACE (R447). -/
def execTrace (h : CmdHdr) (mode : Nat) (kinds : Nat) (buf : Nat) (len : Nat) (s : State) :
    Host.Outcome State Fault Refusal :=
  .next (s.command (.trace h mode kinds buf len))

/-- RETIRE_TILE (R461). -/
def execRetireTile (h : CmdHdr) (site : Nat) (s : State) : Host.Outcome State Fault Refusal :=
  .next (s.command (.retireTile h site))

/-- SET_SERVICE_FMAX (R447). -/
def execSetServiceFmax (h : CmdHdr) (site : Nat) (bin : Nat) (s : State) : Host.Outcome State Fault Refusal :=
  .next (s.command (.setServiceFmax h site bin))

end Sys2Proof.Machine
end

