-- ==== Sys2Proof/Machine/Host.lean ====
section
/-! DEFINITION. Meanings of the host attachment rows: the command window, intake, the reply ring, host
transactions, device reads and the UCIe modules (R341 to R345, R398 to R406, R427, R450 to R453, R506). -/

namespace Sys2Proof.Machine

/-! ### The command window and intake (R402, R403, R450) -/

/-- Whether a command-window write can be carried: by a module in service, or by the sideband for a packet of 64
bytes while no module is (R398, R450). -/
def State.windowCarries (s : State) (m : Nat) (sideband : Bool) (len : Nat) : Bool :=
  s.regsServed && (if sideband then decide (s.modulesUp = []) && decide (len = 64)
    else decide ((s.uciModule m).state = .up) && !s.uci.pend.any (fun x => x.isWrite && decide (x.module = m)))

/-- Bytes that intake holds. -/
def Hm.intakeBytes (h : Hm) : Nat := (h.intake.map (fun p => p.bytes.length)).sum

/-- Whether a command packet enters intake (R402). -/
def State.intakeTakes (s : State) (bytes : List Byte) : Bool :=
  s.uci.enable && decide (fieldBytes bytes 4 2 = bytes.length) && decide (64 ≤ bytes.length)
    && decide (bytes.length ≤ 4096) && decide (bytes.length % 16 = 0)
    && decide (s.hm.intakeBytes + bytes.length ≤ 262144) && decide (s.unanswered < 512)

/-- A command-window write is refused BUSY and counted (R400, R402, R428). -/
def State.refuseWindow (s : State) (m : Nat) : State :=
  let s := { s with hm := { s.hm with refused := satAdd s.hm.refused 1 0xFFFF } }
  (s.writeError m).emit (.windowAnswer m hsBusy)

/-- A command-window write (R402). -/
def State.windowWrite (s : State) (m : Nat) (bytes : List Byte) : State :=
  if s.intakeTakes bytes then
    { s with hm := { s.hm with intake := s.hm.intake ++ [IntakePkt.mk bytes] } }.emit (.windowAnswer m hsOk)
  else s.refuseWindow m

/-- COMMAND_WRITE (R402). -/
def execCommandWrite (m : Nat) (sideband : Bool) (bytes : List Byte) (s : State) : Host.Outcome State Fault Refusal :=
  if 4 ≤ m then .fault .noSuchUnit
  else .next (if s.windowCarries m sideband bytes.length then s.windowWrite m bytes else s)

/-- The answer to a packet that no command can be read from (R430, R434). -/
def State.answerPacket (s : State) (h : CmdHdr) (op status : Nat) : State :=
  s.answer ⟨h, op, false, 0⟩ status []

/-- A packet taken from intake is checked and its command submitted (R403, R430, R434). -/
def State.takePacket (s : State) (bs : List Byte) : State :=
  let op := fieldBytes bs 0 2
  let h := packetHdr bs
  if !packetBytesOk bs op || decide (4 ≤ h.flags.toNat) then s.answerPacket h op stBadParam
  else
    let s := { s with freeCtr := s.freeCtr + 1 }
    match packetCmd bs h (Config.stressOutcome s.freeCtr) op with
    | none => s.answerPacket h op stBadOpcode
    | some i => s.submit i

/-- INTAKE_TAKE (R403). -/
def execIntakeTake (s : State) : Host.Outcome State Fault Refusal :=
  match s.hm.intake with
  | [] => .next s
  | x :: rest =>
    .next (if s.canTake then { s with hm := { s.hm with intake := rest } }.takePacket x.bytes else s)

/-! ### The reply ring (R405, R406) -/

/-- The oldest waiting record is written where the ring has room (R405); one that waited for the backlog moves
up. -/
def State.writeWaiting (s : State) : State :=
  match s.uci.backlog with
  | [] => s
  | r :: rest =>
    if s.hm.silent || !s.ringTakes r then s
    else
      let u := { s.uci with backlog := rest ++ s.uci.waiting.take 1, waiting := s.uci.waiting.drop 1 }
      { s with uci := u }.putRecord r

/-- RECORD_WRITE (R405). -/
def execRecordWrite (s : State) : Host.Outcome State Fault Refusal := .next s.writeWaiting

/-- Whether the moderation interval has passed (R406). -/
def State.moderated (s : State) : Bool := match s.uci.irqAt with
  | none => true
  | some t => decide (s.uci.moderation * 100 ≤ (s.clk.tide - t).toNat)

/-- The interrupt that was held back is sent (R406). -/
def State.sendInterrupt (s : State) : State :=
  if s.uci.irqDue && s.uci.irqEnable && s.moderated then
    { s with uci := { s.uci with irqAt := some s.clk.tide, irqDue := false } }.emit
      (.interrupt s.uci.irqAddr.toNat s.uci.irqData)
  else s

/-- MESSAGE_INTERRUPT (R406). -/
def execMessageInterrupt (s : State) : Host.Outcome State Fault Refusal := .next s.sendInterrupt

/-! ### Host transactions (R341 to R345, R399 to R401) -/

/-- Where a device address lies (R342, R344). -/
inductive HostArea where
  | memory
  | tile (site : Nat)
  | device (off : Nat)
  | router (site off : Nat)
  | window
  | unmapped
  deriving DecidableEq, Repr

/-- The area of a device address (R342, R344). -/
def hostArea (a : Nat) : HostArea :=
  if a < hbmEnd then .memory
  else if tileWindow ≤ a ∧ a < tileWindow + 480 * tileWindowSize then .tile ((a - tileWindow) / tileWindowSize)
  else if devBase ≤ a ∧ a < devBase + 0x2E00000 then
    let o := a - devBase
    if 0x1000000 ≤ o then .router ((o - 0x1000000) / 0x10000) ((o - 0x1000000) % 0x10000) else .device o
  else if 0x300000000000 ≤ a ∧ a < 0x300000010000 then .window
  else .unmapped

/-- Whether a transaction can be carried: through a module in service, or through the sideband to the UCI_
registers; 1 to 4,096 bytes that cross no 4 KiB boundary (R399, R427). -/
def State.carries (s : State) (x : HostTx) (len : Nat) : Bool :=
  s.regsServed && decide (1 ≤ len) && decide (x.addr % 4096 + len ≤ 4096)
    && (if x.sideband then decide (devBase + 0x60000 ≤ x.addr) && decide (x.addr < devBase + 0x70000)
        else decide ((s.uciModule x.module).state = .up))

/-- A HOST packet of a transaction (R401). -/
def State.hostPacket (s : State) (x : HostTx) (kind dsite dport len : Nat) (data : List Byte) : Packet :=
  sealPacket { blankPacket with
    typ := tyHost, last := true, rgen := s.fab.rgen, dsite := BitVec.ofNat 9 dsite, dport := BitVec.ofNat 3 dport,
    ssite := BitVec.ofNat 9 (ucieRouter x.module), fsrc := s.fab.self, part := x.part.setWidth 5, ctx := x.ctx.setWidth 3,
    len := BitVec.ofNat 14 len, addr := BitVec.ofNat 48 x.addr, payload := data,
    aux := BitVec.ofNat 32 (x.tag.toNat + fieldAt x.module 16 2 + fieldAt kind 28 4) }

/-- An MGMT packet for a router's register (R401). -/
def State.mgmtPacket (s : State) (x : HostTx) (site off : Nat) (isWrite : Bool) (data : List Byte) : Packet :=
  sealPacket { blankPacket with
    typ := tyMgmt, last := true, rgen := s.fab.rgen, dsite := BitVec.ofNat 9 site, dport := 4,
    ssite := BitVec.ofNat 9 (ucieRouter x.module), fsrc := s.fab.self, part := x.part.setWidth 5, ctx := x.ctx.setWidth 3,
    len := BitVec.ofNat 14 data.length, addr := BitVec.ofNat 48 off, payload := data,
    aux := BitVec.ofNat 32 (x.tag.toNat + fieldAt (flagNat isWrite) 31 1) }

/-- A transaction ends at its attachment with a status (R400). -/
def State.refuseTx (s : State) (x : HostTx) (isWrite : Bool) (status : Nat) : State :=
  if isWrite then s.writeError x.module else s.emit (.readAnswer x.module x.tag status [])

/-- Packets of a transaction enter the mesh, and it waits for their answers (R196, R400, R401). To a router that
cannot be reached nothing is sent (R192): logged, and the transaction fails. -/
def State.sendTx (s : State) (x : HostTx) (isWrite : Bool) (dsite : Nat) (ps : List Packet) : State :=
  let at0 := ucieRouter x.module
  if !s.routable at0 dsite then
    let f := { plainNote 1 0x0202 with site := some at0, site2 := some dsite }
    (s.logFault f).refuseTx x isWrite hsPoisoned
  else
    let y : HostPend := ⟨x.module, x.tag, s.clk.tide, s.net.ackTimeout, isWrite, ps.length, []⟩
    let s := { s with uci := { s.uci with pend := s.uci.pend ++ [y] } }
    ps.foldl (fun s p => s.inject at0 5 p) s

/-- Whether an access covers whole registers (R344). -/
def wholeRegs (addr len : Nat) : Bool := decide (addr % 8 = 0) && decide (len % 8 = 0)

/-- A transaction to memory (R399 to R401): in a partition that does not exist every address is unmapped. -/
def State.txMemory (s : State) (x : HostTx) (isWrite : Bool) (len : Nat) (data : List Byte) : State :=
  if !s.bring.published then s.refuseTx x isWrite hsNotReady
  else if 20 ≤ x.part.toNat ∨ !(s.part x.part.toNat).valid then s.refuseTx x isWrite hsUnmapped
  else
    let d := (s.part x.part.toNat).edge x.addr
    s.sendTx x isWrite d.1 [s.hostPacket x (if isWrite then 0 else 1) d.1 d.2 len data]

/-- A transaction to a tile window (R343, R344, R400, R401). -/
def State.txTile (s : State) (x : HostTx) (isWrite : Bool) (site len : Nat) (data : List Byte) : State :=
  let off := windowOff site x.addr
  if !s.bring.published then s.refuseTx x isWrite hsNotReady
  else if decide (0x7F00000 ≤ off) && decide (off < 0x7F09000) && !wholeRegs x.addr len then
    s.refuseTx x isWrite hsUnmapped
  else s.sendTx x isWrite site [s.hostPacket x (if isWrite then 0 else 1) site 4 len data]

/-- A transaction to the registers of a bypassed router, which no packet can enter (R182): served at the attachment, so
that BYPASSED of NET_ROUTER_STATUS can be read (R212). DEDUCED (log 5). -/
def State.txBypassed (s : State) (x : HostTx) (isWrite : Bool) (site off len : Nat) (data : List Byte) : State :=
  if isWrite then
    ((List.range (len / 8)).zip (piecesOf 8 (len / 8) data)).foldl
      (fun s p => s.netWrite site (off + 8 * p.1) (leNat p.2)) s
  else s.emit (.readAnswer x.module x.tag hsOk
    ((List.range (len / 8)).flatMap (fun i => leBytes (s.netRead site (off + 8 * i)) 8)))

/-- A transaction to a router's registers (R344, R345, R401): one MGMT packet for each. -/
def State.txRouter (s : State) (x : HostTx) (isWrite : Bool) (site off len : Nat) (data : List Byte) : State :=
  if !wholeRegs x.addr len then s.refuseTx x isWrite hsUnmapped
  else if !s.bring.published then s.refuseTx x isWrite hsNotReady
  else if s.bypassed site then s.txBypassed x isWrite site off len data
  else s.sendTx x isWrite site ((List.range (len / 8)).map (fun i =>
    s.mgmtPacket x site (off + 8 * i) isWrite (if isWrite then (data.drop (8 * i)).take 8 else [])))

/-- Registers written in ascending order (R344). -/
def State.writeRegs (s : State) (o : Nat) : List (List Byte) → State
  | [] => s
  | b :: bs => (s.devWrite o (leNat b)).writeRegs (o + 8) bs

/-- What reading registers in ascending order gives (R344). -/
def State.readRegs (s : State) (o : Nat) : Nat → State × List Byte
  | 0 => (s, [])
  | n + 1 =>
    let r := s.devRead o
    let rest := r.1.readRegs (o + 8) n
    (rest.1, leBytes r.2 8 ++ rest.2)

/-- A write transaction (R400). -/
def State.txWrite (s : State) (x : HostTx) (data : List Byte) : State :=
  match hostArea x.addr with
  | .memory => s.txMemory x true data.length data
  | .tile n => s.txTile x true n data.length data
  | .router n off => s.txRouter x true n off data.length data
  | .device o =>
    if wholeRegs x.addr data.length then s.writeRegs o (piecesOf 8 (data.length / 8) data) else s.refuseTx x true hsUnmapped
  | .window => if s.windowCarries x.module x.sideband data.length then s.windowWrite x.module data else s
  | .unmapped => s.refuseTx x true hsUnmapped

/-- HOST_WRITE (R400). -/
def execHostWrite (x : HostTx) (data : List Byte) (s : State) : Host.Outcome State Fault Refusal :=
  if 4 ≤ x.module then .fault .noSuchUnit else .next (if s.carries x data.length then s.txWrite x data else s)

/-- A read transaction (R400). The command window is write only. -/
def State.txRead (s : State) (x : HostTx) (len : Nat) : State :=
  match hostArea x.addr with
  | .memory => s.txMemory x false len []
  | .tile n => s.txTile x false n len []
  | .router n off => s.txRouter x false n off len []
  | .device o =>
    if wholeRegs x.addr len then
      let r := s.readRegs o (len / 8)
      r.1.emit (.readAnswer x.module x.tag hsOk r.2)
    else s.refuseTx x false hsUnmapped
  | .window => s.refuseTx x false hsUnmapped
  | .unmapped => s.refuseTx x false hsUnmapped

/-- HOST_READ (R400). -/
def execHostRead (x : HostTx) (len : Nat) (s : State) : Host.Outcome State Fault Refusal :=
  if 4 ≤ x.module then .fault .noSuchUnit else .next (if s.carries x len then s.txRead x len else s)

/-- A transaction has waited 2^ACK_TIMEOUT cycles, counted in tide counts (R196, R400). -/
def State.txExpired (s : State) (x : HostPend) : Bool := decide (2 ^ x.timeout / 16 ≤ (s.clk.tide - x.since).toNat)

/-- HOST_TRANSACTION_TIMEOUT (R400). -/
def execHostTransactionTimeout (tag : Nat) (s : State) : Host.Outcome State Fault Refusal :=
  .next (match s.uci.pend.find? (fun x => decide (x.tag.toNat = tag) && s.txExpired x) with
    | none => s
    | some x => s.endPend x hsTimeout)

/-! ### Device reads (R399, R441, R451, R464, R478) -/

/-- LENGTH of an image (R452). -/
def imageLength (bs : List Byte) : Nat := fieldBytes bs 12 4

/-- Whether an image's LENGTH is valid (R452). -/
def imageLengthOk (n : Nat) : Bool := decide (0 < n) && decide (n % 4096 = 0) && decide (n ≤ 8388608)

/-- Whether the fetch has ended: a read failed, LENGTH is invalid, or all bytes are here (R451, R453). -/
def ImageFetch.isOver (f : ImageFetch) : Bool :=
  f.failed || (decide (f.bytes ≠ []) && (!imageLengthOk (imageLength f.bytes) || decide (imageLength f.bytes ≤ f.bytes.length)))

/-- 4,096 bytes of the image arrive (R451). -/
def State.feedImage (s : State) (f : ImageFetch) (ok : Bool) (data : List Byte) : State :=
  let good := ok && decide (data.length = 4096)
  let g : ImageFetch := ⟨if good then f.bytes ++ data else f.bytes, f.wanted + 4096, !good⟩
  let s := { s with bring := { s.bring with fetch := some g } }
  if g.isOver then s else s.emit (.hostFetch g.wanted 4096)

/-- The host address that a job reads next; none where it reads nothing. -/
def Job.reads (j : Job) : Option (Nat × Nat) := match j.work with
  | .copyIn c done _ => some (copyNext c done)
  | .licence addr len got => some (addr + got.length, len - got.length)
  | .envelope _ addr len got => some (addr + got.length, len - got.length)
  | _ => none

/-- Bytes of a licence or an envelope arrive: more are asked for, or it is applied. -/
def State.feedBytes (s : State) (j : Job) (len : Nat) (got data : List Byte) : State :=
  let all := got ++ data
  if all.length < len then
    match j.work with
    | .licence a n _ => (s.setWork j (.licence a n all)).askHost (a + all.length) (n - all.length)
    | .envelope k a n _ => (s.setWork j (.envelope k a n all)).askHost (a + all.length) (n - all.length)
    | _ => s
  else
    match j.work with
    | .licence _ n _ => s.applyLicence j (all.take n)
    | .envelope k _ n _ => s.applyEnvelope j k (all.take n)
    | _ => s

/-- A device read ends for a job. -/
def State.feedJob (s : State) (j : Job) (want : Nat) (ok : Bool) (data : List Byte) : State :=
  match j.work with
  | .copyIn c done got => s.feedCopy j c done got ok data
  | .licence _ len got => if ok && decide (data.length = want) then s.feedBytes j len got data else s.complete j stFaulted []
  | .envelope _ _ len got => if ok && decide (data.length = want) then s.feedBytes j len got data else s.complete j stFaulted []
  | _ => s

/-- A device read that a job waits for completes. -/
def State.readEnds (s : State) (addr want : Nat) (ok : Bool) (data : List Byte) : State :=
  let s := { s with hm := { s.hm with reading := dropFirst (fun r => decide (r = (addr, want))) s.hm.reading } }
  match s.hm.jobs.find? (fun j => decide (j.reads.map (fun r => r.1) = some addr)) with
  | none => s
  | some j => (s.feedJob j want ok data).pumpJobs

/-- DEVICE_READ_COMPLETION (R399): for the image, or for the first command that waits for the address. -/
def State.deviceRead (s : State) (addr : Nat) (ok : Bool) (data : List Byte) : State :=
  match s.bring.fetch with
  | some f => if f.wanted = addr ∧ !f.isOver then s.feedImage f ok data else s
  | none => match s.hm.reading.find? (fun r => decide (r.1 = addr)) with
    | none => s
    | some r => s.readEnds r.1 r.2 ok data

/-- DEVICE_READ_COMPLETION (R399). -/
def execDeviceReadCompletion (addr : Nat) (ok : Bool) (data : List Byte) (s : State) : Host.Outcome State Fault Refusal :=
  .next (if s.regsServed then s.deviceRead addr ok data else s)

/-! ### UCIe modules (R397, R398, R459) -/

/-- A module leaves service: its transactions are lost, and the loss of the last one is device-fatal (R398). -/
def State.loseModule (s : State) (m : Nat) : State :=
  let s := s.modUciModule m (fun x => { x with state := .outOfService, lost := true })
  let s := { s with uci := { s.uci with pend := s.uci.pend.filter (fun x => decide (x.module ≠ m)) } }
  let s := s.logFault (unitNote 1 0x0901 4 m)
  if s.modulesUp = [] then s.logFault (plainNote 4 0x0902) else s

/-- UCIE_MODULE_LOST (R398). -/
def execUcieModuleLost (m : Nat) (s : State) : Host.Outcome State Fault Refusal :=
  if 4 ≤ m then .fault .noSuchUnit
  else .next (if (s.uciModule m).state.inService then s.loseModule m else s)

/-- A module retrains (R397, R398): back in service at the speed it found, or lost. -/
def State.retrainModule (s : State) (m : Nat) (ok : Bool) (speed : Nat) : State :=
  let s := s.modUciModule m (fun x => { x with retries := satAdd x.retries 1 0xFFFF, state := .retraining })
  if ok then s.modUciModule m (fun x => { x with state := .up, speed := speed % 4 }) else s.loseModule m

/-- UCIE_RETRAINING (R398). -/
def execUcieRetraining (m : Nat) (ok : Bool) (speed : Nat) (s : State) : Host.Outcome State Fault Refusal :=
  if 4 ≤ m then .fault .noSuchUnit
  else .next (if (s.uciModule m).state.inService then s.retrainModule m ok speed else s)

/-- A module's mainband training ends (R397, R398). -/
def State.trainModule (s : State) (m : Nat) (t : ModuleTrain) : State :=
  s.modUciModule m (fun x =>
    if t.ok then { x with state := .up, speed := t.speed.toNat, repaired := t.repaired.toNat }
    else { x with state := .outOfService })

/-- MAINBAND_TRAINING_COMPLETE (R398): the image fetch follows, or the device halts. -/
def execMainbandTrainingComplete (modules : List ModuleTrain) (s : State) : Host.Outcome State Fault Refusal :=
  if s.bring.phase = .loading ∧ !s.bring.mainband then
    let s := s.each (fun s m => s.trainModule m (modules.getD m ⟨false, 0, 0⟩)) (List.range 4)
    .next ({ s with bring := { s.bring with mainband := true } }.startFetch)
  else .next s

/-! ### The watchdog (R506) -/

/-- HARBOUR_MASTER_WATCHDOG (R506): PHASE becomes HALTED and the ring falls silent; ALARMED stays (R487). -/
def execHarbourMasterWatchdog (s : State) : Host.Outcome State Fault Refusal :=
  if s.regsServed then
    let ph := if s.bring.phase = .alarmed then Phase.alarmed else .halted
    .next { s with bring := { s.bring with phase := ph, fetch := none }, hm := { s.hm with silent := true } }
  else .next s

end Sys2Proof.Machine
end

