-- ==== Sys2Proof/Machine/Security.lean ====
section
/-! DEFINITION. Meanings of the alarm rows: the triggers of R485 with the details of R490. The device watches
nothing while VLNK is off (R491). -/

namespace Sys2Proof.Machine

/-- Whether the Isaid block watches (R485, R491). -/
def State.watches (s : State) : Bool := s.pins.vlnk && s.pins.resetN

/-- Whether a lid-mesh segment is outside its window (R485). -/
def meshOut (percent : Nat) : Bool := decide (percent < 80) || decide (120 < percent)

/-- A lid-mesh segment leaves its window. -/
def State.lidAlarm (s : State) (segment percent : Nat) : State := s.alarm 0 (leBytes segment 1 ++ leBytes percent 2) none

/-- LID_MESH (R485). -/
def execLidMesh (segment percent : Nat) (s : State) : Host.Outcome State Fault Refusal :=
  if 8 ≤ segment then .fault .noSuchUnit
  else .next (if s.watches && meshOut percent then s.lidAlarm segment percent else s)

/-- Whether a rail's voltage is a glitch (R485). -/
def railGlitch (rail mV : Nat) : Bool :=
  if rail = 44 then decide (mV < 600) || decide (900 < mV) else decide (rail < 40) && decide (1000 < mV)

/-- VOLTAGE_GLITCH (R485). -/
def execVoltageGlitch (rail mV : Nat) (s : State) : Host.Outcome State Fault Refusal :=
  if 45 ≤ rail then .fault .noSuchUnit
  else .next (if s.watches && railGlitch rail mV then s.alarm 1 (leBytes rail 1 ++ leBytes mV 2) none else s)

/-- Whether a clock's period is a glitch (R485): 0 REFCLK, 1 the Isaid clock. -/
def periodGlitch (which ps : Nat) : Bool :=
  if which = 0 then decide (ps < 8000) || decide (12000 < ps) else decide (ps < 1600)

/-- CLOCK_GLITCH (R485). -/
def execClockGlitch (which ps : Nat) (s : State) : Host.Outcome State Fault Refusal :=
  if 2 ≤ which then .fault .noSuchUnit
  else .next (if s.watches && periodGlitch which ps then s.alarm 2 (leBytes which 1 ++ leBytes ps 4) none else s)

/-- Whether an Isaid sensor is out of range (R485). -/
def sensorOut (celsius : Int) : Bool := decide (celsius < -20) || decide (130 < celsius)

/-- TEMPERATURE (R485). -/
def execTemperature (sensor : Nat) (celsius : Int) (s : State) : Host.Outcome State Fault Refusal :=
  if 2 ≤ sensor then .fault .noSuchUnit
  else .next (if s.watches && sensorOut celsius then s.alarm 3 (leBytes sensor 1 ++ leBytes (twosOf celsius 16) 2) none else s)

/-- DEBUG_PORT (R485): with SECURE_DEBUG fused. -/
def execDebugPort (s : State) : Host.Outcome State Fault Refusal :=
  .next (if s.watches && s.facts.fuses.secureDebug then s.alarm 4 [] none else s)

end Sys2Proof.Machine
end

