-- ==== Sys2Proof/Machine/BringUp.lean ====
section
/-! DEFINITION. Meanings of the bring-up rows: DARK to READY (R327, R336, R349 to R351, R387, R398, R449 to R460,
R470 to R474, R491, R533). -/

namespace Sys2Proof.Machine

/-- Sites that become failed for a REASON, where they were good (R455, R458). -/
def State.failSites (s : State) (reason : Nat) (ns : List Nat) : State :=
  s.each (fun s n => s.modSite n (fun x => if x.status = 0 then { x with status := 2, reason := reason } else x)) ns

/-! ### DARK (R449, R455, R470, R491) -/

/-- Sites disabled at manufacture (R457, R458). -/
def State.markDisabled (s : State) : State :=
  s.each (fun s n => s.modSite n (fun x => { x with status := 1, reason := 1 })) s.facts.disabled

/-- Link dies and modules as the sideband first shows them (R290, R398). -/
def State.showParts (s : State) : State :=
  let s := s.each (fun s l => s.setLink l (Link.fresh .down)) ((List.range 8).filter (linkFitted s.facts))
  s.each (fun s m => s.modUciModule m (fun x => { x with state := .sidebandOnly })) (List.range 4)

/-- Whether the fault log holds an entry of a code. -/
def FaultLog.has (l : FaultLog) (code : Nat) : Bool := l.log.any (fun x => match x.2 with
  | some e => decide (e.note.code = code)
  | none => false)

/-- The sideband comes up and IDENT begins; a root lost in DARK halts the device now (R351, R370, R449, R468, R491). -/
def State.toIdent (s : State) (d : DarkResult) : State :=
  let s := s.markDisabled.showParts
  let s := { s with
    bring := { s.bring with phase := .ident, waitFrom := some s.clk.tide }, clk := { s.clk with refOk := s.pins.refclk } }
  let s := (d.mesh.filter (fun x => decide (x.1 < 8) && meshOut x.2)).foldl (fun s x => s.lidAlarm x.1 x.2) s
  if s.faults.has 0x0703 then s.halt causeRefclk else s

/-- DARK ends (R387, R389, R449): temperatures are read, and where they do not trip the supply IDENT begins. -/
def State.endDark (s : State) (d : DarkResult) : State :=
  let s := s.readSensors d.temps
  if s.pins.vlnk then s.toIdent d else s

/-- DARK_COMPLETE (R449): where the key hashes differ or the harbour master's memory fails, the device never
leaves DARK. -/
def execDarkComplete (d : DarkResult) (s : State) : Host.Outcome State Fault Refusal :=
  if d.temps.any (fun t => decide (496 ≤ t.1)) then .fault .noSuchUnit
  else if s.bring.phase ≠ .dark ∨ !s.pins.vlnk ∨ !s.pins.resetN ∨ s.hm.silent then .next s
  else if d.keysMatch && d.memoryOk then .next (s.endDark d)
  else .next { s with hm := { s.hm with silent := true } }

/-! ### LOADING (R451 to R454, R471 to R474) -/

/-- Whether an image's layout is valid (R452, R453 order 2). -/
def imageLayoutOk (bs : List Byte) : Bool :=
  let f (o n : Nat) : Nat := fieldBytes bs o n
  let len := imageLength bs
  let inside (o n : Nat) : Bool := decide (f o 4 + f n 4 ≤ len)
  decide (f 0 4 = 0x4D485453) && decide (f 4 2 = 1) && decide (f 6 2 ≤ 63) && imageLengthOk len
    && inside 16 20 && inside 24 28 && inside 32 36 && decide (f 40 4 < f 20 4) && allZero bs 44 212

/-- The message of an image (R471): its header and its body. -/
def imageMessage (bs : List Byte) : List Byte :=
  bs.take 256 ++ (bs.drop (fieldBytes bs 16 4)).take (fieldBytes bs 20 4)

/-- Whether both signatures of an image verify (R453 order 3, R471). -/
def imageSigned (bs : List Byte) : Bool :=
  let part (o n : Nat) : List Byte := (bs.drop (fieldBytes bs o 4)).take (fieldBytes bs n 4)
  decide (fieldBytes bs 28 4 = 384) && decide (fieldBytes bs 36 4 = 16224)
    && Config.signaturesOk (imageMessage bs) (part 24 28) (part 32 36)

/-- The cause with which LOADING halts, none where the image passes (R453). -/
def State.imageCause (s : State) (f : ImageFetch) : Option Nat :=
  let bs := f.bytes
  let fuses := s.facts.fuses
  if f.failed then some causeFetch
  else if !imageLayoutOk bs || !imageSigned bs then some causeVerify
  else if fieldBytes bs 6 2 < fuses.secver then some causeRollback
  else if fuses.identityEnd || !Config.pufOk fuses.seed then some causeIdentity
  else none

/-- LOADING halts (R453, R454): a failed image verification is counted, and the third raises the alarm. -/
def State.loadingFails (s : State) (cause : Nat) : State :=
  let counted := decide (cause = causeVerify) || decide (cause = causeRollback)
  let n := if counted then min (s.bring.verifyFails + 1) 3 else s.bring.verifyFails
  let s := { s with bring := { s.bring with verifyFails := n } }.halt cause
  if counted && decide (n = 3) then s.alarm 5 (leBytes n 1) none else s

/-- LOADING ends well (R473, R474, R533): identity and session exist, and the tile clocks run at bin 32. -/
def State.imageRuns (s : State) (bs : List Byte) : State :=
  { s with
    bring := { s.bring with
      phase := .clocksNet, fetch := none, secver := fieldBytes bs 6 2, fwver := fieldBytes bs 8 4,
      imageHash := fitBytes 48 (Config.sha384 (imageMessage bs)) },
    sec := { s.sec with identityOk := true, session := some s.sec.nextSession, nextSession := s.sec.nextSession + 1 },
    clk := { s.clk with bin := 32 } }

/-- IMAGE_FETCH_COMPLETE (R453). -/
def execImageFetchComplete (s : State) : Host.Outcome State Fault Refusal :=
  match s.bring.fetch with
  | some f =>
    if s.bring.phase = .loading ∧ f.isOver then
      match s.imageCause f with
      | some c => .next (s.loadingFails c)
      | none => .next (s.imageRuns f.bytes)
    else .next s
  | none => .next s

/-! ### CLOCKS_NET (R182, R183, R349, R350, R455) -/

/-- A router that fails its test is bypassed (R20, R182, R183). -/
def State.bypass (s : State) (n : Nat) : State := (s.modRouter n (fun r => { r with bypassed := true })).failSites 2 [n]

/-- UCIe modules on bypassed routers leave service (R183, R398). -/
def State.cutModules (s : State) : State :=
  s.each (fun s m => if s.bypassed (ucieRouter m) then s.modUciModule m (fun x => { x with state := .outOfService }) else s)
    (List.range 4)

/-- CLOCKS_NET ends (R455): the mesh is locked, failed oscillators have left it, and bypasses are set. -/
def State.endClocksNet (s : State) (d : ClocksNetResult) : State :=
  let s := { s with clk := { s.clk with meshLocked := true, refOk := true } }
  let s := s.each State.oscFails (d.oscFailed.filter (fun r => decide (r < 20)))
  let s := (s.each State.bypass (d.deadRouters.filter (fun n => decide (n < 480)))).cutModules
  if s.modulesUp = [] then s.halt causeNoUcie else { s with bring := { s.bring with phase := .memories } }

/-- CLOCKS_NET_COMPLETE (R455). -/
def execClocksNetComplete (d : ClocksNetResult) (s : State) : Host.Outcome State Fault Refusal :=
  if s.bring.phase ≠ .clocksNet then .next s
  else if !d.refOk ∨ !s.pins.refclk then .next ({ s with clk := { s.clk with refOk := false } }.halt causeRefclk)
  else if !d.meshOk then .next (s.halt causeMeshLock)
  else .next (s.endClocksNet d)

/-! ### MEMORIES (R327, R336, R338, R455) -/

/-- A stack's training ends (R183, R336, R346). -/
def State.stackTrained (s : State) (d : MemoriesResult) (k : Nat) : State :=
  let r := stackRouters k
  let bad := d.stacksFailed.contains k || s.bypassed r.1 || s.bypassed r.2
  let lanes := ((d.repaired.find? (fun x => decide (x.1 = k))).map (fun x => x.2)).getD 0
  s.modStack k (fun x => { x with state := if bad then .outOfService else .inService, repaired := min lanes 0xFF })

/-- MEMORIES ends (R455): failed tiles and stacks are recorded, every band is zero, and links begin to train. -/
def State.endMemories (s : State) (d : MemoriesResult) : State :=
  let s := s.failSites 3 (d.sramFailed.filter (fun n => decide (n < 480)))
  let s := s.failSites 6 ((d.regionsDown.filter (fun r => decide (r < 20))).flatMap regionSites)
  let s := s.each (fun s k => s.stackTrained d k) ((List.range 24).filter (stackFitted s.facts))
  let s := { s with hbm := { s.hbm with mem := [], keyed := [], errs := [], shelf := [] } }
  if s.stacksInService = [] then s.halt causeNoHbm
  else
    let up (l : Nat) : Bool := linkFitted s.facts l && !s.bypassed (linkRouters l).1 && !s.bypassed (linkRouters l).2
    let s := s.each (fun s l => s.modLink l (fun x => { x with state := .training })) ((List.range 8).filter up)
    { s with bring := { s.bring with phase := .links } }

/-- MEMORIES_COMPLETE (R455). -/
def execMemoriesComplete (d : MemoriesResult) (s : State) : Host.Outcome State Fault Refusal :=
  if s.bring.phase ≠ .memories then .next s
  else if !d.vlnkOk then .next (s.supplyFails 44)
  else .next (s.endMemories d)

/-! ### LINKS and COMPUTE (R254, R374, R455 to R457, R472, R533) -/

/-- LINKS_COMPLETE (R254, R455): every fitted link has trained or failed. -/
def execLinksComplete (s : State) : Host.Outcome State Fault Refusal :=
  if s.bring.phase = .links ∧ (List.range 8).all (fun l => decide ((s.link l).state ≠ .training)) then
    .next { s with bring := { s.bring with phase := .compute } }
  else .next s

/-- The least number of good tiles of a grade (R2). -/
def gradeMinimum (f : ModuleFacts) : Nat := if f.grade = 0 then 448 else 416

/-- READY_MS (R449, R467). -/
def State.readyMillis (s : State) : Nat := min ((s.clk.tide.toNat - s.bring.waited) / 100000) 0xFFFF

/-- READY is reached (R456, R457, R467, R472): the floor plan is published, the fused SECVER is raised, and a
shortfall is logged. -/
def State.becomeReady (s : State) : State :=
  let fuses := { s.facts.fuses with secver := max s.facts.fuses.secver s.bring.secver }
  let s := { s with
    facts := { s.facts with fuses := fuses },
    bring := { s.bring with phase := .ready, published := true, readyMs := s.readyMillis } }
  if s.goodTiles < gradeMinimum s.facts then s.logFault { plainNote 1 0x0106 with d0 := s.goodTiles } else s

/-- COMPUTE ends (R374, R455). -/
def State.endCompute (s : State) (d : ComputeResult) : State :=
  let s := s.failSites 4 (d.columnsFailed.filter (fun n => decide (n < 480)))
  let s := s.failSites 5 (d.testFailed.filter (fun n => decide (n < 480)))
  let s := (d.ageing.filter (fun x => decide (x.1 < 20))).foldl
    (fun s x => s.modPregion x.1 (fun r => { r with ageing := min x.2 0xFF })) s
  if s.goodTiles = 0 then s.halt causeNoTile else s.setVlogs.becomeReady

/-- COMPUTE_COMPLETE (R457): the self-test has run at bin 64 (R533). -/
def execComputeComplete (d : ComputeResult) (s : State) : Host.Outcome State Fault Refusal :=
  .next (if s.bring.phase = .compute ∧ s.clk.bin = 64 ∧ !s.clk.quiescent then s.endCompute d else s)

end Sys2Proof.Machine
end

