-- ==== Sys2Proof/Machine/Channel.lean ====
section
/-! DEFINITION. The channel engine (chapter 07). -/

namespace Sys2Proof.Machine

/-- SEND (R161, R223). -/
def execSend (t : Nat) (f : SendFields) (s : State) : Host.Outcome State Fault Refusal :=
  s.tileStep t (fun env tl => tileIssue env (.send f) tl)

/-- SEND_OUTCOME (R162): the outcome of a SEND reaches gd. -/
def execSendOutcome (t : Nat) (s : State) : Host.Outcome State Fault Refusal :=
  s.tileStep t (fun _ tl => tileSendOutcome tl)

/-- PARKED_SEND_ACCEPT (R229): the parked SEND is accepted once its stream holds the credits. -/
def execParkedSendAccept (t : Nat) (s : State) : Host.Outcome State Fault Refusal :=
  s.tileStep t (tileParkedAccept)

/-- FULL_TIMEOUT (R227): a SEND whose timer has run out ends. -/
def execFullTimeout (t : Nat) (s : State) : Host.Outcome State Fault Refusal :=
  s.tileStep t (fun _ tl => tileFullTimeout tl)

/-- RECV (R161, R163). -/
def execRecv (t : Nat) (f : RecvFields) (s : State) : Host.Outcome State Fault Refusal :=
  s.tileStep t (fun env tl => tileIssue env (.recv f) tl)

/-- RECV_WAIT_END (R163): a waiting RECV takes the message that has arrived. -/
def execRecvWaitEnd (t : Nat) (s : State) : Host.Outcome State Fault Refusal :=
  s.tileStep t (tileRecvWaitEnd)

/-- GAP_SKIPPED (R232): the reorder window gives a gap up. -/
def execGapSkipped (t : Nat) (chan : Nat) (sender : Nat) (s : State) : Host.Outcome State Fault Refusal :=
  s.tileStep t (fun env tl => tileGapSkipped env tl (BitVec.ofNat 16 chan) (BitVec.ofNat 9 sender))

/-- LOST (R237): the oldest outstanding message of a stream is given up. -/
def execLost (t : Nat) (chan : Nat) (s : State) : Host.Outcome State Fault Refusal :=
  s.tileStep t (fun env tl => tileLost env tl (BitVec.ofNat 16 chan))

end Sys2Proof.Machine
end

