-- ==== Sys2Proof/Machine/Faults.lean ====
section
/-! DEFINITION. Fault handling and the failure of a router in service (R494, R495, R500, R504). -/

namespace Sys2Proof.Machine

/-! ### The actions of R494 -/

/-- How a context ends for a severity 2 entry (R424, R494): the cause of TS_EXC and the site of an exception. -/
def endingOf (f : FaultNote) : Ending :=
  if f.code = 0x0101 then ⟨stFaulted, bitsOf f.d0 32 8, siteOr f.site, true⟩ else ⟨stFaulted, 0, 0xFFFF, true⟩

/-- A context ends for a fault (R173, R494): a launch that still loads releases what it wrote. -/
def State.faultCtx (s : State) (n : Nat) (e : Ending) : State :=
  if (s.ctx n).state = .loading then s.stopLoading n stFaulted else s.markEnding n e 0 0

/-- Whether a job ends with its context and not with its partition. -/
def Work.ofCtx : Work → Bool
  | .launch => true
  | .pause => true
  | .resume => true
  | .abort => true
  | .switchTo => true
  | _ => false

/-- The partition-fatal action (R494): every launched context ends, every ACCEPTED command completes FAULTED, and entries
against those contexts are DONE with them (R512). -/
def State.faultPart (s : State) (p : Nat) : State :=
  let s := s.each (fun s n => if (s.ctx n).launched then s.faultCtx n ⟨stFaulted, 0, 0xFFFF, true⟩ else s) (ctxsOf p)
  let s := s.completeAll (s.hm.jobs.filter (fun j => decide (j.hdr.part.toNat = p) && !Work.ofCtx j.work)) stFaulted
  let mine (h : HeldCmd) : Bool := h.accepted && decide (h.hdr.part.toNat = p)
  let late := s.hm.held.filter mine
  let s := { s with hm := { s.hm with held := s.hm.held.filter (fun h => !mine h) } }
  let s := late.foldl (fun s h => s.cmdRecord 3 h.hdr h.op stFaulted []) s
  { s with faults := s.faults.ended p none }

/-- The action of an entry (R494, R495): notices and corrected faults ask for none, and a device-fatal one has
been acted on when it was logged. -/
def State.actOn (s : State) (f : FaultNote) : State :=
  match f.sev, f.part, f.ctx with
  | 2, some p, some c => s.faultCtx (ctxNo p c) (endingOf f)
  | 3, some p, _ => s.faultPart p
  | _, _, _ => s

/-! ### The order of handling (R500) -/

/-- Whether entry `a` is taken before entry `b`: the higher severity, SUSPENDED before UNHANDLED, the older. -/
def LogEntry.before (a b : LogEntry) : Bool :=
  decide (b.note.sev < a.note.sev)
    || (decide (b.note.sev = a.note.sev)
        && ((decide (a.st = .suspended) && decide (b.st ≠ .suspended))
            || (decide (a.st = b.st) && decide (a.serial < b.serial))))

/-- The indexes of the entries in a state. -/
def FaultLog.inState (l : FaultLog) (q : LogSt → Bool) : List Nat :=
  (List.range 256).filter (fun i => match l.at i with
    | some e => q e.st
    | none => false)

/-- The entry that is taken next (R500). -/
def FaultLog.first (l : FaultLog) : Option Nat :=
  (l.inState (fun st => decide (st = .unhandled) || decide (st = .suspended))).foldl (fun best i =>
    match best, l.at i with
    | none, _ => some i
    | some j, some e => (match l.at j with
        | some f => if e.before f then some i else some j
        | none => some i)
    | some j, none => some j) none

/-- An entry's STATE changes. -/
def State.setEntry (s : State) (i : Nat) (st : LogSt) : State :=
  match s.faults.at i with
  | some e => { s with faults := s.faults.put i { e with st := st } }
  | none => s

/-- An entry is handled to its end (R500). -/
def State.handle (s : State) (i : Nat) : State :=
  match s.faults.at i with
  | some e => ((s.setEntry i .handling).actOn e.note).setEntry i .done
  | none => s

/-- Whether the entry next in turn pre-empts the one being handled (R500). -/
def FaultLog.preempts (l : FaultLog) (i h : Nat) : Bool :=
  match l.at i, l.at h with
  | some e, some f => decide (f.note.sev < e.note.sev)
  | _, _ => false

/-- A device-fatal entry of HALTED is handled (R494, R512): its action was taken when it was logged, and the other
entries stay as they stand. -/
def State.handleFatal (s : State) : State :=
  match s.faults.first with
  | some i => (match s.faults.at i with
      | some e => if e.note.sev = 4 then s.handle i else s
      | none => s)
  | none => s

/-- The firmware handles one entry (R500): the one in hand, or one that pre-empts it, or the next. -/
def State.handleNext (s : State) : State :=
  match (s.faults.inState (fun st => decide (st = .handling))).head?, s.faults.first with
  | some h, some i => if s.faults.preempts i h then (s.setEntry h .suspended).handle i else s.handle h
  | some h, none => s.handle h
  | none, some i => s.handle i
  | none, none => s

/-- FAULT_HANDLING (R500). -/
def execFaultHandling (s : State) : Host.Outcome State Fault Refusal :=
  .next (if s.pins.vlnk && s.pins.resetN && !s.hm.silent && !s.sec.erasing then
      (if s.bring.phase = .halted then s.handleFatal else s.handleNext) else s)

/-! ### A router fails in service (R338, R381, R504) -/

/-- The partitions that a failed router concerns: the one that holds its site and those owning a circuit entry
there. -/
def State.routerParts (s : State) (site : Nat) : List Nat :=
  allParts.filter (fun p => decide (s.partOfSite site = some p)
    || (s.router site).circuits.any (fun x => circuitOf p none x.2))

/-- ROUTER_FAILED notes (R495, R499). -/
def State.routerNotes (s : State) (site : Nat) : List FaultNote :=
  match s.routerParts site with
  | [] => [{ plainNote 3 0x0206 with site := some site }]
  | ps => ps.map (fun p => { plainNote 3 0x0206 with site := some site, part := some p })

/-- A router fails (R504): its tile is retired, the partitions fault, and stacks behind it leave service. -/
def State.routerFails (s : State) (site : Nat) : State :=
  let s := s.modRouter site (fun r => { r with failed := true })
  let s := if s.siteGood site then s.retire site 7 else s
  let s := s.logAll (s.routerNotes site)
  s.each State.failStack ((List.range 24).filter (fun k =>
    decide ((stackRouters k).1 = site) || decide ((stackRouters k).2 = site)))

/-- ROUTER_FAILED (R504). -/
def execRouterFailed (site : Nat) (s : State) : Host.Outcome State Fault Refusal :=
  if 480 ≤ site then .fault .noSuchUnit
  else .next (if s.bring.phase = .ready ∧ !s.bypassed site ∧ !(s.router site).failed then s.routerFails site else s)

end Sys2Proof.Machine
end

