-- ==== Sys2Proof/Machine/Memory.lean ====
section
/-! DEFINITION. Meanings of the memory rows without a packet: patrol scrub and the failure of a stack
(R337, R338). -/

namespace Sys2Proof.Machine

/-- Transfers of a stack's data space (R325, R330). -/
def transfersPerStack : Nat := bandCount * bandSize / 32

/-- The runs of transfers of a stack that lie in granted bands: first one, and the one after the last. -/
def State.grantedRuns (s : State) (k : Nat) : List (Nat × Nat) :=
  (s.partsOn k).map (fun p =>
    let g := (s.part p).held.on k
    (g.1 * (bandSize / 32), (g.1 + g.2) * (bandSize / 32)))

/-- The least of some numbers. -/
def leastOf : List Nat → Option Nat
  | [] => none
  | a :: r => some (r.foldl min a)

/-- The first granted transfer of a stack at or after a place. -/
def State.grantedFrom (s : State) (k at' : Nat) : Option Nat :=
  leastOf (((s.grantedRuns k).filter (fun r => decide (at' < r.2))).map (fun r => max at' r.1))

/-- The transfer that patrol scrub reads next on a stack (R337): the granted ones in ascending order, pass after pass. -/
def State.patrolNext (s : State) (k : Nat) : Option Nat :=
  (s.grantedFrom k (SMap.get 0 s.hbm.patrolAt k)).or (s.grantedFrom k 0)

/-- Patrol scrub reads a transfer (R334, R337): one error is corrected and written back, two are counted and
logged. The pass counts with its last transfer, and the next one begins. -/
def State.scrub (s : State) (k t : Nat) : State :=
  let o := t * 32
  let last := (s.grantedFrom k (t + 1)).isNone
  let s := if s.hbm.err k o = some .double then s.meetBad k o else s.correct k [o]
  let s := { s with hbm := { s.hbm with patrolAt := SMap.set 0 s.hbm.patrolAt k (if last then 0 else t + 1) } }
  if last then s.modStack k (fun x => { x with patrolPasses := (x.patrolPasses + 1) % 65536 }) else s

/-- PATROL_SCRUB (R337): taken for the transfer whose turn it is. -/
def execPatrolScrub (stack transfer : Nat) (s : State) : Host.Outcome State Fault Refusal :=
  if 24 ≤ stack ∨ transfersPerStack ≤ transfer then .fault .noSuchUnit
  else if s.hbm.patrolEn && decide ((s.stack stack).state = .inService) && decide (s.patrolNext stack = some transfer) then
    .next (s.scrub stack transfer)
  else .next s

/-- HBM_PHY_FAILURE (R338). -/
def execHbmPhyFailure (stack : Nat) (s : State) : Host.Outcome State Fault Refusal :=
  if 24 ≤ stack then .fault .noSuchUnit else .next (s.failStack stack)

end Sys2Proof.Machine
end

