-- ==== Sys2Proof/Machine/Move.lean ====
section
/-! DEFINITION. The move engine (R157 to R160, R195). -/

namespace Sys2Proof.Machine

/-- MOVE_PUSH (R157 to R160). -/
def execMovePush (t : Nat) (f : MoveFields) (s : State) : Host.Outcome State Fault Refusal :=
  s.tileStep t (fun env tl => tileIssue env (.move false f) tl)

/-- MOVE_FETCH (R157 to R160). -/
def execMoveFetch (t : Nat) (f : MoveFields) (s : State) : Host.Outcome State Fault Refusal :=
  s.tileStep t (fun env tl => tileIssue env (.move true f) tl)

/-- MOVEC (R157, R206). -/
def execMovec (t : Nat) (f : MovecFields) (s : State) : Host.Outcome State Fault Refusal :=
  s.tileStep t (fun env tl => tileIssue env (.movec f) tl)

/-- ACK_TIMEOUT (R195, R196): an outstanding packet unanswered for its timeout fails. -/
def execAckTimeout (t : Nat) (s : State) : Host.Outcome State Fault Refusal :=
  s.tileStep t (tileAckTimeout)

end Sys2Proof.Machine
end

