-- ==== Sys2Proof/Machine/Scalar.lean ====
section
/-! DEFINITION. The scalar instructions of a tile program (R143 to R147, R172). -/

namespace Sys2Proof.Machine

/-! ### Register operations -/

/-- ADD (R143): gd becomes ga + gb. -/
def execAdd (t : Nat) (gd ga gb : BitVec 5) (s : State) : Host.Outcome State Fault Refusal :=
  s.tileStep t (fun env tl => tileIssue env (.alu .add gd ga gb) tl)

/-- SUB (R143): gd becomes ga − gb. -/
def execSub (t : Nat) (gd ga gb : BitVec 5) (s : State) : Host.Outcome State Fault Refusal :=
  s.tileStep t (fun env tl => tileIssue env (.alu .sub gd ga gb) tl)

/-- AND (R143). -/
def execAndR (t : Nat) (gd ga gb : BitVec 5) (s : State) : Host.Outcome State Fault Refusal :=
  s.tileStep t (fun env tl => tileIssue env (.alu .and_ gd ga gb) tl)

/-- OR (R143). -/
def execOrR (t : Nat) (gd ga gb : BitVec 5) (s : State) : Host.Outcome State Fault Refusal :=
  s.tileStep t (fun env tl => tileIssue env (.alu .or_ gd ga gb) tl)

/-- XOR (R143). -/
def execXorR (t : Nat) (gd ga gb : BitVec 5) (s : State) : Host.Outcome State Fault Refusal :=
  s.tileStep t (fun env tl => tileIssue env (.alu .xor_ gd ga gb) tl)

/-- SLL (R143): shift by gb[5:0]. -/
def execSll (t : Nat) (gd ga gb : BitVec 5) (s : State) : Host.Outcome State Fault Refusal :=
  s.tileStep t (fun env tl => tileIssue env (.alu .sll gd ga gb) tl)

/-- SRL (R143): shift by gb[5:0]. -/
def execSrl (t : Nat) (gd ga gb : BitVec 5) (s : State) : Host.Outcome State Fault Refusal :=
  s.tileStep t (fun env tl => tileIssue env (.alu .srl gd ga gb) tl)

/-- SRA (R143): shift by gb[5:0]. -/
def execSra (t : Nat) (gd ga gb : BitVec 5) (s : State) : Host.Outcome State Fault Refusal :=
  s.tileStep t (fun env tl => tileIssue env (.alu .sra gd ga gb) tl)

/-- SLT (R143): signed compare. -/
def execSlt (t : Nat) (gd ga gb : BitVec 5) (s : State) : Host.Outcome State Fault Refusal :=
  s.tileStep t (fun env tl => tileIssue env (.alu .slt gd ga gb) tl)

/-- SLTU (R143): unsigned compare. -/
def execSltu (t : Nat) (gd ga gb : BitVec 5) (s : State) : Host.Outcome State Fault Refusal :=
  s.tileStep t (fun env tl => tileIssue env (.alu .sltu gd ga gb) tl)

/-- MUL (R143): the low 64 bits of the product. -/
def execMul (t : Nat) (gd ga gb : BitVec 5) (s : State) : Host.Outcome State Fault Refusal :=
  s.tileStep t (fun env tl => tileIssue env (.alu .mul gd ga gb) tl)

/-- MULHU (R143): the high 64 bits of the unsigned product. -/
def execMulhu (t : Nat) (gd ga gb : BitVec 5) (s : State) : Host.Outcome State Fault Refusal :=
  s.tileStep t (fun env tl => tileIssue env (.alu .mulhu gd ga gb) tl)

/-- DIVU (R143): all ones when gb is zero. -/
def execDivu (t : Nat) (gd ga gb : BitVec 5) (s : State) : Host.Outcome State Fault Refusal :=
  s.tileStep t (fun env tl => tileIssue env (.alu .divu gd ga gb) tl)

/-- REMU (R143): ga when gb is zero. -/
def execRemu (t : Nat) (gd ga gb : BitVec 5) (s : State) : Host.Outcome State Fault Refusal :=
  s.tileStep t (fun env tl => tileIssue env (.alu .remu gd ga gb) tl)

/-- MIN (R143): signed. -/
def execMinS (t : Nat) (gd ga gb : BitVec 5) (s : State) : Host.Outcome State Fault Refusal :=
  s.tileStep t (fun env tl => tileIssue env (.alu .min_ gd ga gb) tl)

/-- MAX (R143): signed. -/
def execMaxS (t : Nat) (gd ga gb : BitVec 5) (s : State) : Host.Outcome State Fault Refusal :=
  s.tileStep t (fun env tl => tileIssue env (.alu .max_ gd ga gb) tl)

/-! ### Immediates -/

/-- ADDI (R144). -/
def execAddi (t : Nat) (gd ga : BitVec 5) (imm : BitVec 14) (s : State) : Host.Outcome State Fault Refusal :=
  s.tileStep t (fun env tl => tileIssue env (.imm .addi gd ga imm) tl)

/-- ANDI (R144). -/
def execAndi (t : Nat) (gd ga : BitVec 5) (imm : BitVec 14) (s : State) : Host.Outcome State Fault Refusal :=
  s.tileStep t (fun env tl => tileIssue env (.imm .andi gd ga imm) tl)

/-- ORI (R144). -/
def execOri (t : Nat) (gd ga : BitVec 5) (imm : BitVec 14) (s : State) : Host.Outcome State Fault Refusal :=
  s.tileStep t (fun env tl => tileIssue env (.imm .ori gd ga imm) tl)

/-- XORI (R144). -/
def execXori (t : Nat) (gd ga : BitVec 5) (imm : BitVec 14) (s : State) : Host.Outcome State Fault Refusal :=
  s.tileStep t (fun env tl => tileIssue env (.imm .xori gd ga imm) tl)

/-- SLTI (R144). -/
def execSlti (t : Nat) (gd ga : BitVec 5) (imm : BitVec 14) (s : State) : Host.Outcome State Fault Refusal :=
  s.tileStep t (fun env tl => tileIssue env (.imm .slti gd ga imm) tl)

/-- SLTIU (R144). -/
def execSltiu (t : Nat) (gd ga : BitVec 5) (imm : BitVec 14) (s : State) : Host.Outcome State Fault Refusal :=
  s.tileStep t (fun env tl => tileIssue env (.imm .sltiu gd ga imm) tl)

/-- SLLI (R144). -/
def execSlli (t : Nat) (gd ga : BitVec 5) (imm : BitVec 14) (s : State) : Host.Outcome State Fault Refusal :=
  s.tileStep t (fun env tl => tileIssue env (.imm .slli gd ga imm) tl)

/-- SRLI (R144). -/
def execSrli (t : Nat) (gd ga : BitVec 5) (imm : BitVec 14) (s : State) : Host.Outcome State Fault Refusal :=
  s.tileStep t (fun env tl => tileIssue env (.imm .srli gd ga imm) tl)

/-- SRAI (R144). -/
def execSrai (t : Nat) (gd ga : BitVec 5) (imm : BitVec 14) (s : State) : Host.Outcome State Fault Refusal :=
  s.tileStep t (fun env tl => tileIssue env (.imm .srai gd ga imm) tl)

/-- LI (R144): IMM32, sign-extended. -/
def execLi (t : Nat) (gd : BitVec 5) (imm : BitVec 32) (s : State) : Host.Outcome State Fault Refusal :=
  s.tileStep t (fun env tl => tileIssue env (.li gd imm) tl)

/-- LIH (R144): IMM32 into gd[63:32]. -/
def execLih (t : Nat) (gd : BitVec 5) (imm : BitVec 32) (s : State) : Host.Outcome State Fault Refusal :=
  s.tileStep t (fun env tl => tileIssue env (.lih gd imm) tl)

/-! ### Loads and stores -/

/-- LB (R145): load from the scratchpad. -/
def execLb (t : Nat) (gd ga : BitVec 5) (imm : BitVec 14) (s : State) : Host.Outcome State Fault Refusal :=
  s.tileStep t (fun env tl => tileIssue env (.load .lb gd ga imm) tl)

/-- LBU (R145): load from the scratchpad. -/
def execLbu (t : Nat) (gd ga : BitVec 5) (imm : BitVec 14) (s : State) : Host.Outcome State Fault Refusal :=
  s.tileStep t (fun env tl => tileIssue env (.load .lbu gd ga imm) tl)

/-- LH (R145): load from the scratchpad. -/
def execLh (t : Nat) (gd ga : BitVec 5) (imm : BitVec 14) (s : State) : Host.Outcome State Fault Refusal :=
  s.tileStep t (fun env tl => tileIssue env (.load .lh gd ga imm) tl)

/-- LHU (R145): load from the scratchpad. -/
def execLhu (t : Nat) (gd ga : BitVec 5) (imm : BitVec 14) (s : State) : Host.Outcome State Fault Refusal :=
  s.tileStep t (fun env tl => tileIssue env (.load .lhu gd ga imm) tl)

/-- LW (R145): load from the scratchpad. -/
def execLw (t : Nat) (gd ga : BitVec 5) (imm : BitVec 14) (s : State) : Host.Outcome State Fault Refusal :=
  s.tileStep t (fun env tl => tileIssue env (.load .lw gd ga imm) tl)

/-- LWU (R145): load from the scratchpad. -/
def execLwu (t : Nat) (gd ga : BitVec 5) (imm : BitVec 14) (s : State) : Host.Outcome State Fault Refusal :=
  s.tileStep t (fun env tl => tileIssue env (.load .lwu gd ga imm) tl)

/-- LD (R145): load from the scratchpad or the tile registers. -/
def execLd (t : Nat) (gd ga : BitVec 5) (imm : BitVec 14) (s : State) : Host.Outcome State Fault Refusal :=
  s.tileStep t (fun env tl => tileIssue env (.load .ld gd ga imm) tl)

/-- SB (R145, R116): store to the scratchpad. -/
def execSb (t : Nat) (ga gb : BitVec 5) (imm : BitVec 14) (s : State) : Host.Outcome State Fault Refusal :=
  s.tileStep t (fun env tl => tileIssue env (.store .sb ga gb imm) tl)

/-- SH (R145, R116): store to the scratchpad. -/
def execSh (t : Nat) (ga gb : BitVec 5) (imm : BitVec 14) (s : State) : Host.Outcome State Fault Refusal :=
  s.tileStep t (fun env tl => tileIssue env (.store .sh ga gb imm) tl)

/-- SW (R145, R116): store to the scratchpad. -/
def execSw (t : Nat) (ga gb : BitVec 5) (imm : BitVec 14) (s : State) : Host.Outcome State Fault Refusal :=
  s.tileStep t (fun env tl => tileIssue env (.store .sw ga gb imm) tl)

/-- SD (R145, R116): store to the scratchpad or the tile registers. -/
def execSd (t : Nat) (ga gb : BitVec 5) (imm : BitVec 14) (s : State) : Host.Outcome State Fault Refusal :=
  s.tileStep t (fun env tl => tileIssue env (.store .sd ga gb imm) tl)

/-- PENDING_STORE_WRITE (R116): the oldest pending store is written. -/
def execPendingStoreWrite (t : Nat) (s : State) : Host.Outcome State Fault Refusal :=
  s.tileStep t (tilePendingStore)

/-! ### Control flow -/

/-- BEQ (R146). -/
def execBeq (t : Nat) (ga gb : BitVec 5) (off : BitVec 14) (s : State) : Host.Outcome State Fault Refusal :=
  s.tileStep t (fun env tl => tileIssue env (.branch .beq ga gb off) tl)

/-- BNE (R146). -/
def execBne (t : Nat) (ga gb : BitVec 5) (off : BitVec 14) (s : State) : Host.Outcome State Fault Refusal :=
  s.tileStep t (fun env tl => tileIssue env (.branch .bne ga gb off) tl)

/-- BLT (R146). -/
def execBlt (t : Nat) (ga gb : BitVec 5) (off : BitVec 14) (s : State) : Host.Outcome State Fault Refusal :=
  s.tileStep t (fun env tl => tileIssue env (.branch .blt ga gb off) tl)

/-- BGE (R146). -/
def execBge (t : Nat) (ga gb : BitVec 5) (off : BitVec 14) (s : State) : Host.Outcome State Fault Refusal :=
  s.tileStep t (fun env tl => tileIssue env (.branch .bge ga gb off) tl)

/-- BLTU (R146). -/
def execBltu (t : Nat) (ga gb : BitVec 5) (off : BitVec 14) (s : State) : Host.Outcome State Fault Refusal :=
  s.tileStep t (fun env tl => tileIssue env (.branch .bltu ga gb off) tl)

/-- BGEU (R146). -/
def execBgeu (t : Nat) (ga gb : BitVec 5) (off : BitVec 14) (s : State) : Host.Outcome State Fault Refusal :=
  s.tileStep t (fun env tl => tileIssue env (.branch .bgeu ga gb off) tl)

/-- JAL (R146): gd takes pc + 4. -/
def execJal (t : Nat) (gd : BitVec 5) (off : BitVec 19) (s : State) : Host.Outcome State Fault Refusal :=
  s.tileStep t (fun env tl => tileIssue env (.jal gd off) tl)

/-- JALR (R146): gd takes pc + 4. -/
def execJalr (t : Nat) (gd ga : BitVec 5) (imm : BitVec 14) (s : State) : Host.Outcome State Fault Refusal :=
  s.tileStep t (fun env tl => tileIssue env (.jalr gd ga imm) tl)

/-- HRET (R172): the handler ends. -/
def execHret (t : Nat) (s : State) : Host.Outcome State Fault Refusal :=
  s.tileStep t (fun env tl => tileIssue env (.hret) tl)

end Sys2Proof.Machine
end

