-- ==== Sys2Proof/Machine/Vector.lean ====
section
/-! DEFINITION. The vector engine (R149 to R156). -/

namespace Sys2Proof.Machine

/-- VEC_MOVB (R149 to R156). -/
def execVecMovb (t : Nat) (f : VecFields) (s : State) : Host.Outcome State Fault Refusal :=
  s.tileStep t (fun env tl => tileIssue env (.vec .movb f) tl)

/-- VEC_CVT (R149 to R156). -/
def execVecCvt (t : Nat) (f : VecFields) (s : State) : Host.Outcome State Fault Refusal :=
  s.tileStep t (fun env tl => tileIssue env (.vec .cvt f) tl)

/-- VEC_ADD (R149 to R156). -/
def execVecAdd (t : Nat) (f : VecFields) (s : State) : Host.Outcome State Fault Refusal :=
  s.tileStep t (fun env tl => tileIssue env (.vec .add f) tl)

/-- VEC_SUB (R149 to R156). -/
def execVecSub (t : Nat) (f : VecFields) (s : State) : Host.Outcome State Fault Refusal :=
  s.tileStep t (fun env tl => tileIssue env (.vec .sub f) tl)

/-- VEC_MUL (R149 to R156). -/
def execVecMul (t : Nat) (f : VecFields) (s : State) : Host.Outcome State Fault Refusal :=
  s.tileStep t (fun env tl => tileIssue env (.vec .mul f) tl)

/-- VEC_FMA (R149 to R156). -/
def execVecFma (t : Nat) (f : VecFields) (s : State) : Host.Outcome State Fault Refusal :=
  s.tileStep t (fun env tl => tileIssue env (.vec .fma f) tl)

/-- VEC_MAX (R149 to R156). -/
def execVecMax (t : Nat) (f : VecFields) (s : State) : Host.Outcome State Fault Refusal :=
  s.tileStep t (fun env tl => tileIssue env (.vec .max_ f) tl)

/-- VEC_MIN (R149 to R156). -/
def execVecMin (t : Nat) (f : VecFields) (s : State) : Host.Outcome State Fault Refusal :=
  s.tileStep t (fun env tl => tileIssue env (.vec .min_ f) tl)

/-- VEC_ABS (R149 to R156). -/
def execVecAbs (t : Nat) (f : VecFields) (s : State) : Host.Outcome State Fault Refusal :=
  s.tileStep t (fun env tl => tileIssue env (.vec .abs f) tl)

/-- VEC_NEG (R149 to R156). -/
def execVecNeg (t : Nat) (f : VecFields) (s : State) : Host.Outcome State Fault Refusal :=
  s.tileStep t (fun env tl => tileIssue env (.vec .neg f) tl)

/-- VEC_EXP2 (R149 to R156). -/
def execVecExp2 (t : Nat) (f : VecFields) (s : State) : Host.Outcome State Fault Refusal :=
  s.tileStep t (fun env tl => tileIssue env (.vec .exp2 f) tl)

/-- VEC_LOG2 (R149 to R156). -/
def execVecLog2 (t : Nat) (f : VecFields) (s : State) : Host.Outcome State Fault Refusal :=
  s.tileStep t (fun env tl => tileIssue env (.vec .log2 f) tl)

/-- VEC_RSQRT (R149 to R156). -/
def execVecRsqrt (t : Nat) (f : VecFields) (s : State) : Host.Outcome State Fault Refusal :=
  s.tileStep t (fun env tl => tileIssue env (.vec .rsqrt f) tl)

/-- VEC_RECIP (R149 to R156). -/
def execVecRecip (t : Nat) (f : VecFields) (s : State) : Host.Outcome State Fault Refusal :=
  s.tileStep t (fun env tl => tileIssue env (.vec .recip f) tl)

/-- VEC_EXP (R149 to R156). -/
def execVecExp (t : Nat) (f : VecFields) (s : State) : Host.Outcome State Fault Refusal :=
  s.tileStep t (fun env tl => tileIssue env (.vec .exp f) tl)

/-- VEC_RSUM (R149 to R156). -/
def execVecRsum (t : Nat) (f : VecFields) (s : State) : Host.Outcome State Fault Refusal :=
  s.tileStep t (fun env tl => tileIssue env (.vec .rsum f) tl)

/-- VEC_RMAX (R149 to R156). -/
def execVecRmax (t : Nat) (f : VecFields) (s : State) : Host.Outcome State Fault Refusal :=
  s.tileStep t (fun env tl => tileIssue env (.vec .rmax f) tl)

/-- VEC_RMIN (R149 to R156). -/
def execVecRmin (t : Nat) (f : VecFields) (s : State) : Host.Outcome State Fault Refusal :=
  s.tileStep t (fun env tl => tileIssue env (.vec .rmin f) tl)

/-- VEC_RSUMSQ (R149 to R156). -/
def execVecRsumsq (t : Nat) (f : VecFields) (s : State) : Host.Outcome State Fault Refusal :=
  s.tileStep t (fun env tl => tileIssue env (.vec .rsumsq f) tl)

end Sys2Proof.Machine
end

