-- ==== Sys2Proof/Machine/Wait.lean ====
section
/-! DEFINITION. Waits, steps, halting, handlers and replay (chapters 05 and 09). -/

namespace Sys2Proof.Machine

/-- WAITC (R164). -/
def execWaitc (t : Nat) (gd ga : BitVec 5) (cnt : BitVec 12) (consume : Bool) (s : State) : Host.Outcome State Fault Refusal :=
  s.tileStep t (fun env tl => tileIssue env (.waitc gd ga cnt consume) tl)

/-- WAITC_COMPLETE (R164). -/
def execWaitcComplete (t : Nat) (s : State) : Host.Outcome State Fault Refusal :=
  s.tileStep t (tileWaitcComplete)

/-- TIDEWAIT (R165). -/
def execTidewait (t : Nat) (ga : BitVec 5) (mark : Bool) (s : State) : Host.Outcome State Fault Refusal :=
  s.tileStep t (fun env tl => tileIssue env (.tidewait ga mark) tl)

/-- TIDEWAIT_COMPLETE (R165). -/
def execTidewaitComplete (t : Nat) (s : State) : Host.Outcome State Fault Refusal :=
  s.tileStep t (tileTidewaitComplete)

/-- FENCE (R166). -/
def execFence (t : Nat) (s : State) : Host.Outcome State Fault Refusal :=
  s.tileStep t (fun env tl => tileIssue env (.fence) tl)

/-- FENCE_COMPLETE (R166). -/
def execFenceComplete (t : Nat) (s : State) : Host.Outcome State Fault Refusal :=
  s.tileStep t (tileFenceComplete)

/-- PILOT (R167, R381). -/
def execPilot (t : Nat) (lead : BitVec 8) (cls : BitVec 3) (dur : BitVec 12) (s : State) : Host.Outcome State Fault Refusal :=
  s.tileStep t (fun env tl => tileIssue env (.pilot lead cls dur) tl)

/-- STEP (R168). -/
def execStep (t : Nat) (tag : BitVec 16) (s : State) : Host.Outcome State Fault Refusal :=
  s.tileStep t (fun env tl => tileIssue env (.step tag) tl)

/-- STEP_COMMIT (R168): the step commits. -/
def execStepCommit (t : Nat) (s : State) : Host.Outcome State Fault Refusal :=
  s.tileStep t (tileStepCommit)

/-- HALT (R169). -/
def execHalt (t : Nat) (code : BitVec 16) (s : State) : Host.Outcome State Fault Refusal :=
  s.tileStep t (fun env tl => tileIssue env (.halt code) tl)

/-- HALT_STOP (R169): the sequencer stops and reports CODE. -/
def execHaltStop (t : Nat) (s : State) : Host.Outcome State Fault Refusal :=
  s.tileStep t (tileHaltStop)

/-- ISSUE_AFTER_HOLD (R131): the instruction at pc is tried again. -/
def execIssueAfterHold (t : Nat) (s : State) : Host.Outcome State Fault Refusal :=
  s.tileStep t (tileIssueAfterHold)

/-- HANDLER_DISPATCH (R170, R171): a dispatch request is accepted. -/
def execHandlerDispatch (t : Nat) (s : State) : Host.Outcome State Fault Refusal :=
  s.tileStep t (tileDispatch)

/-- REPLAY (R315): the open step runs again from its replay point. -/
def execReplay (t : Nat) (s : State) : Host.Outcome State Fault Refusal :=
  s.tileStep t (tileReplay)

end Sys2Proof.Machine
end

