-- ==== Sys2Proof/Machine/Dispatch.lean ====
section
/-! DEFINITION. The meaning of a command: one arm for each constructor of Instr. -/

namespace Sys2Proof.Machine

/-- The effect of a command on everything but the queue. -/
def exec (i : Instr) (s : State) : Host.Outcome State Fault Refusal :=
  match i with
  | .add t gd ga gb => Sys2Proof.Machine.execAdd t gd ga gb s
  | .sub t gd ga gb => Sys2Proof.Machine.execSub t gd ga gb s
  | .andR t gd ga gb => Sys2Proof.Machine.execAndR t gd ga gb s
  | .orR t gd ga gb => Sys2Proof.Machine.execOrR t gd ga gb s
  | .xorR t gd ga gb => Sys2Proof.Machine.execXorR t gd ga gb s
  | .sll t gd ga gb => Sys2Proof.Machine.execSll t gd ga gb s
  | .srl t gd ga gb => Sys2Proof.Machine.execSrl t gd ga gb s
  | .sra t gd ga gb => Sys2Proof.Machine.execSra t gd ga gb s
  | .slt t gd ga gb => Sys2Proof.Machine.execSlt t gd ga gb s
  | .sltu t gd ga gb => Sys2Proof.Machine.execSltu t gd ga gb s
  | .mul t gd ga gb => Sys2Proof.Machine.execMul t gd ga gb s
  | .mulhu t gd ga gb => Sys2Proof.Machine.execMulhu t gd ga gb s
  | .divu t gd ga gb => Sys2Proof.Machine.execDivu t gd ga gb s
  | .remu t gd ga gb => Sys2Proof.Machine.execRemu t gd ga gb s
  | .minS t gd ga gb => Sys2Proof.Machine.execMinS t gd ga gb s
  | .maxS t gd ga gb => Sys2Proof.Machine.execMaxS t gd ga gb s
  | .addi t gd ga imm => Sys2Proof.Machine.execAddi t gd ga imm s
  | .andi t gd ga imm => Sys2Proof.Machine.execAndi t gd ga imm s
  | .ori t gd ga imm => Sys2Proof.Machine.execOri t gd ga imm s
  | .xori t gd ga imm => Sys2Proof.Machine.execXori t gd ga imm s
  | .slti t gd ga imm => Sys2Proof.Machine.execSlti t gd ga imm s
  | .sltiu t gd ga imm => Sys2Proof.Machine.execSltiu t gd ga imm s
  | .slli t gd ga imm => Sys2Proof.Machine.execSlli t gd ga imm s
  | .srli t gd ga imm => Sys2Proof.Machine.execSrli t gd ga imm s
  | .srai t gd ga imm => Sys2Proof.Machine.execSrai t gd ga imm s
  | .li t gd imm => Sys2Proof.Machine.execLi t gd imm s
  | .lih t gd imm => Sys2Proof.Machine.execLih t gd imm s
  | .lb t gd ga imm => Sys2Proof.Machine.execLb t gd ga imm s
  | .lbu t gd ga imm => Sys2Proof.Machine.execLbu t gd ga imm s
  | .lh t gd ga imm => Sys2Proof.Machine.execLh t gd ga imm s
  | .lhu t gd ga imm => Sys2Proof.Machine.execLhu t gd ga imm s
  | .lw t gd ga imm => Sys2Proof.Machine.execLw t gd ga imm s
  | .lwu t gd ga imm => Sys2Proof.Machine.execLwu t gd ga imm s
  | .ld t gd ga imm => Sys2Proof.Machine.execLd t gd ga imm s
  | .sb t ga gb imm => Sys2Proof.Machine.execSb t ga gb imm s
  | .sh t ga gb imm => Sys2Proof.Machine.execSh t ga gb imm s
  | .sw t ga gb imm => Sys2Proof.Machine.execSw t ga gb imm s
  | .sd t ga gb imm => Sys2Proof.Machine.execSd t ga gb imm s
  | .pendingStoreWrite t => Sys2Proof.Machine.execPendingStoreWrite t s
  | .beq t ga gb off => Sys2Proof.Machine.execBeq t ga gb off s
  | .bne t ga gb off => Sys2Proof.Machine.execBne t ga gb off s
  | .blt t ga gb off => Sys2Proof.Machine.execBlt t ga gb off s
  | .bge t ga gb off => Sys2Proof.Machine.execBge t ga gb off s
  | .bltu t ga gb off => Sys2Proof.Machine.execBltu t ga gb off s
  | .bgeu t ga gb off => Sys2Proof.Machine.execBgeu t ga gb off s
  | .jal t gd off => Sys2Proof.Machine.execJal t gd off s
  | .jalr t gd ga imm => Sys2Proof.Machine.execJalr t gd ga imm s
  | .hret t => Sys2Proof.Machine.execHret t s
  | .wload t f => Sys2Proof.Machine.execWload t f s
  | .stream t f => Sys2Proof.Machine.execStream t f s
  | .streamRowWrite t => Sys2Proof.Machine.execStreamRowWrite t s
  | .drain t f => Sys2Proof.Machine.execDrain t f s
  | .drainRowOutput t => Sys2Proof.Machine.execDrainRowOutput t s
  | .vecMovb t f => Sys2Proof.Machine.execVecMovb t f s
  | .vecCvt t f => Sys2Proof.Machine.execVecCvt t f s
  | .vecAdd t f => Sys2Proof.Machine.execVecAdd t f s
  | .vecSub t f => Sys2Proof.Machine.execVecSub t f s
  | .vecMul t f => Sys2Proof.Machine.execVecMul t f s
  | .vecFma t f => Sys2Proof.Machine.execVecFma t f s
  | .vecMax t f => Sys2Proof.Machine.execVecMax t f s
  | .vecMin t f => Sys2Proof.Machine.execVecMin t f s
  | .vecAbs t f => Sys2Proof.Machine.execVecAbs t f s
  | .vecNeg t f => Sys2Proof.Machine.execVecNeg t f s
  | .vecExp2 t f => Sys2Proof.Machine.execVecExp2 t f s
  | .vecLog2 t f => Sys2Proof.Machine.execVecLog2 t f s
  | .vecRsqrt t f => Sys2Proof.Machine.execVecRsqrt t f s
  | .vecRecip t f => Sys2Proof.Machine.execVecRecip t f s
  | .vecExp t f => Sys2Proof.Machine.execVecExp t f s
  | .vecRsum t f => Sys2Proof.Machine.execVecRsum t f s
  | .vecRmax t f => Sys2Proof.Machine.execVecRmax t f s
  | .vecRmin t f => Sys2Proof.Machine.execVecRmin t f s
  | .vecRsumsq t f => Sys2Proof.Machine.execVecRsumsq t f s
  | .movePush t f => Sys2Proof.Machine.execMovePush t f s
  | .moveFetch t f => Sys2Proof.Machine.execMoveFetch t f s
  | .movec t f => Sys2Proof.Machine.execMovec t f s
  | .send t f => Sys2Proof.Machine.execSend t f s
  | .sendOutcome t => Sys2Proof.Machine.execSendOutcome t s
  | .parkedSendAccept t => Sys2Proof.Machine.execParkedSendAccept t s
  | .fullTimeout t => Sys2Proof.Machine.execFullTimeout t s
  | .recv t f => Sys2Proof.Machine.execRecv t f s
  | .recvWaitEnd t => Sys2Proof.Machine.execRecvWaitEnd t s
  | .waitc t gd ga cnt consume => Sys2Proof.Machine.execWaitc t gd ga cnt consume s
  | .waitcComplete t => Sys2Proof.Machine.execWaitcComplete t s
  | .tidewait t ga mark => Sys2Proof.Machine.execTidewait t ga mark s
  | .tidewaitComplete t => Sys2Proof.Machine.execTidewaitComplete t s
  | .fence t => Sys2Proof.Machine.execFence t s
  | .fenceComplete t => Sys2Proof.Machine.execFenceComplete t s
  | .pilot t lead cls dur => Sys2Proof.Machine.execPilot t lead cls dur s
  | .step t tag => Sys2Proof.Machine.execStep t tag s
  | .stepCommit t => Sys2Proof.Machine.execStepCommit t s
  | .halt t code => Sys2Proof.Machine.execHalt t code s
  | .haltStop t => Sys2Proof.Machine.execHaltStop t s
  | .issueAfterHold t => Sys2Proof.Machine.execIssueAfterHold t s
  | .handlerDispatch t => Sys2Proof.Machine.execHandlerDispatch t s
  | .replay t => Sys2Proof.Machine.execReplay t s
  | .checkCopy t => Sys2Proof.Machine.execCheckCopy t s
  | .checkPass t => Sys2Proof.Machine.execCheckPass t s
  | .routerPacketArrival site inPort p => Sys2Proof.Machine.execRouterPacketArrival site inPort p s
  | .circuitFlit site n => Sys2Proof.Machine.execCircuitFlit site n s
  | .write site p => Sys2Proof.Machine.execWrite site p s
  | .writeAdd32 site p => Sys2Proof.Machine.execWriteAdd32 site p s
  | .writeAdd16 site p => Sys2Proof.Machine.execWriteAdd16 site p s
  | .read site p => Sys2Proof.Machine.execRead site p s
  | .readData site p => Sys2Proof.Machine.execReadData site p s
  | .ack site p => Sys2Proof.Machine.execAck site p s
  | .ackTimeout t => Sys2Proof.Machine.execAckTimeout t s
  | .message site p => Sys2Proof.Machine.execMessage site p s
  | .gapSkipped t chan sender => Sys2Proof.Machine.execGapSkipped t chan sender s
  | .credit site p => Sys2Proof.Machine.execCredit site p s
  | .lost t chan => Sys2Proof.Machine.execLost t chan s
  | .channelEntryRead t chan => Sys2Proof.Machine.execChannelEntryRead t chan s
  | .host site p => Sys2Proof.Machine.execHost site p s
  | .mgmt site p => Sys2Proof.Machine.execMgmt site p s
  | .stop t => Sys2Proof.Machine.execStop t s
  | .resumePacket t => Sys2Proof.Machine.execResumePacket t s
  | .pilotPacket p => Sys2Proof.Machine.execPilotPacket p s
  | .beacon link b => Sys2Proof.Machine.execBeacon link b s
  | .linkFlit link f => Sys2Proof.Machine.execLinkFlit link f s
  | .linkControlFlit link c => Sys2Proof.Machine.execLinkControlFlit link c s
  | .linkTraining link r => Sys2Proof.Machine.execLinkTraining link r s
  | .linkRetrain link r => Sys2Proof.Machine.execLinkRetrain link r s
  | .peerAddressExchange link peer => Sys2Proof.Machine.execPeerAddressExchange link peer s
  | .tideLost => Sys2Proof.Machine.execTideLost s
  | .stepCollectorRecord stepSeq => Sys2Proof.Machine.execStepCollectorRecord stepSeq s
  | .stepCollectorTimeout stepSeq => Sys2Proof.Machine.execStepCollectorTimeout stepSeq s
  | .recordExportTimeout port => Sys2Proof.Machine.execRecordExportTimeout port s
  | .hbmWrite site p => Sys2Proof.Machine.execHbmWrite site p s
  | .hbmRead site p => Sys2Proof.Machine.execHbmRead site p s
  | .patrolScrub stack transfer => Sys2Proof.Machine.execPatrolScrub stack transfer s
  | .tideMark m => Sys2Proof.Machine.execTideMark m s
  | .riseCancelled late => Sys2Proof.Machine.execRiseCancelled late s
  | .quiescentStart => Sys2Proof.Machine.execQuiescentStart s
  | .refclkLost => Sys2Proof.Machine.execRefclkLost s
  | .oscFailed region => Sys2Proof.Machine.execOscFailed region s
  | .droopDetectorTrip region level => Sys2Proof.Machine.execDroopDetectorTrip region level s
  | .sensorReading temps => Sys2Proof.Machine.execSensorReading temps s
  | .vlogSwitchOff region => Sys2Proof.Machine.execVlogSwitchOff region s
  | .railShort rail => Sys2Proof.Machine.execRailShort rail s
  | .phaseFailed rail phase => Sys2Proof.Machine.execPhaseFailed rail phase s
  | .vhioFault edge => Sys2Proof.Machine.execVhioFault edge s
  | .supplyFatal unit => Sys2Proof.Machine.execSupplyFatal unit s
  | .inputDip mV ns => Sys2Proof.Machine.execInputDip mV ns s
  | .telemetryWindow w => Sys2Proof.Machine.execTelemetryWindow w s
  | .modelDrift measured => Sys2Proof.Machine.execModelDrift measured s
  | .quantumExpiry p => Sys2Proof.Machine.execQuantumExpiry p s
  | .contextSwitch p => Sys2Proof.Machine.execContextSwitch p s
  | .contextSwitched p => Sys2Proof.Machine.execContextSwitched p s
  | .harbourMasterWatchdog => Sys2Proof.Machine.execHarbourMasterWatchdog s
  | .commandWrite module sideband bytes => Sys2Proof.Machine.execCommandWrite module sideband bytes s
  | .intakeTake => Sys2Proof.Machine.execIntakeTake s
  | .recordWrite => Sys2Proof.Machine.execRecordWrite s
  | .messageInterrupt => Sys2Proof.Machine.execMessageInterrupt s
  | .hostWrite x data => Sys2Proof.Machine.execHostWrite x data s
  | .hostRead x len => Sys2Proof.Machine.execHostRead x len s
  | .hostTransactionTimeout tag => Sys2Proof.Machine.execHostTransactionTimeout tag s
  | .deviceReadCompletion addr ok data => Sys2Proof.Machine.execDeviceReadCompletion addr ok data s
  | .ucieModuleLost m => Sys2Proof.Machine.execUcieModuleLost m s
  | .uciBootPtrWrite v => Sys2Proof.Machine.execUciBootPtrWrite v s
  | .uciRingBaseWrite v => Sys2Proof.Machine.execUciRingBaseWrite v s
  | .uciRingPtrWrite v => Sys2Proof.Machine.execUciRingPtrWrite v s
  | .pwrTelemPtrWrite v => Sys2Proof.Machine.execPwrTelemPtrWrite v s
  | .pwrVminRead n => Sys2Proof.Machine.execPwrVminRead n s
  | .tsCompletionWrite t n v => Sys2Proof.Machine.execTsCompletionWrite t n v s
  | .registerWrite addr v => Sys2Proof.Machine.execRegisterWrite addr v s
  | .identify h => Sys2Proof.Machine.execIdentify h s
  | .status h => Sys2Proof.Machine.execStatus h s
  | .readFloorplan h buf len => Sys2Proof.Machine.execReadFloorplan h buf len s
  | .readFaultlog h buf len first count => Sys2Proof.Machine.execReadFaultlog h buf len first count s
  | .echo h bytes => Sys2Proof.Machine.execEcho h bytes s
  | .setConfig h items => Sys2Proof.Machine.execSetConfig h items s
  | .getConfig h codes => Sys2Proof.Machine.execGetConfig h codes s
  | .installLicence h addr len d => Sys2Proof.Machine.execInstallLicence h addr len d s
  | .listLicences h => Sys2Proof.Machine.execListLicences h s
  | .createPartition h g => Sys2Proof.Machine.execCreatePartition h g s
  | .destroyPartition h => Sys2Proof.Machine.execDestroyPartition h s
  | .resetPartition h => Sys2Proof.Machine.execResetPartition h s
  | .createContext h tenant => Sys2Proof.Machine.execCreateContext h tenant s
  | .destroyContext h => Sys2Proof.Machine.execDestroyContext h s
  | .switchContext h => Sys2Proof.Machine.execSwitchContext h s
  | .setQuantum h ms => Sys2Proof.Machine.execSetQuantum h ms s
  | .copyIn h c => Sys2Proof.Machine.execCopyIn h c s
  | .copyOut h c => Sys2Proof.Machine.execCopyOut h c s
  | .fill h dev len pattern => Sys2Proof.Machine.execFill h dev len pattern s
  | .setInterleave h g => Sys2Proof.Machine.execSetInterleave h g s
  | .salvage h region dev => Sys2Proof.Machine.execSalvage h region dev s
  | .zeroingComplete p => Sys2Proof.Machine.execZeroingComplete p s
  | .launch h plan arg start => Sys2Proof.Machine.execLaunch h plan arg start s
  | .launchStart p c => Sys2Proof.Machine.execLaunchStart p c s
  | .launchCompletion p c => Sys2Proof.Machine.execLaunchCompletion p c s
  | .pause h => Sys2Proof.Machine.execPause h s
  | .resume h => Sys2Proof.Machine.execResume h s
  | .abort h => Sys2Proof.Machine.execAbort h s
  | .setChannelTable h base count => Sys2Proof.Machine.execSetChannelTable h base count s
  | .invalidateChannels h first count => Sys2Proof.Machine.execInvalidateChannels h first count s
  | .drainCommand h scope ms => Sys2Proof.Machine.execDrainCommand h scope ms s
  | .slackWater k => Sys2Proof.Machine.execSlackWater k s
  | .drainTimeout k => Sys2Proof.Machine.execDrainTimeout k s
  | .release h scope => Sys2Proof.Machine.execRelease h scope s
  | .writeRoutes h r => Sys2Proof.Machine.execWriteRoutes h r s
  | .writeCircuits h recs => Sys2Proof.Machine.execWriteCircuits h recs s
  | .fabricStatus h => Sys2Proof.Machine.execFabricStatus h s
  | .setPair h flags baseA baseB => Sys2Proof.Machine.execSetPair h flags baseA baseB s
  | .setCap h watts => Sys2Proof.Machine.execSetCap h watts s
  | .setOppoint h bin hinted => Sys2Proof.Machine.execSetOppoint h bin hinted s
  | .pilotCommand h lead cls dur => Sys2Proof.Machine.execPilotCommand h lead cls dur s
  | .setTelemetry h mode ring records interval => Sys2Proof.Machine.execSetTelemetry h mode ring records interval s
  | .readEnergy h mask => Sys2Proof.Machine.execReadEnergy h mask s
  | .setCheckLevel h level => Sys2Proof.Machine.execSetCheckLevel h level s
  | .runStressTest h mask target r => Sys2Proof.Machine.execRunStressTest h mask target r s
  | .readTallyLog h site => Sys2Proof.Machine.execReadTallyLog h site s
  | .attest h nonce buf len => Sys2Proof.Machine.execAttest h nonce buf len s
  | .loadKey h kind addr len d => Sys2Proof.Machine.execLoadKey h kind addr len d s
  | .eraseKeys h => Sys2Proof.Machine.execEraseKeys h s
  | .setAlarmPolicy h source response => Sys2Proof.Machine.execSetAlarmPolicy h source response s
  | .readAlarms h => Sys2Proof.Machine.execReadAlarms h s
  | .setDebugMode h mode => Sys2Proof.Machine.execSetDebugMode h mode s
  | .peekQueue h site queue buf => Sys2Proof.Machine.execPeekQueue h site queue buf s
  | .readAccumulator h site first count buf len => Sys2Proof.Machine.execReadAccumulator h site first count buf len s
  | .trace h mode kinds buf len => Sys2Proof.Machine.execTrace h mode kinds buf len s
  | .retireTile h site => Sys2Proof.Machine.execRetireTile h site s
  | .setServiceFmax h site bin => Sys2Proof.Machine.execSetServiceFmax h site bin s
  | .routerFailed site => Sys2Proof.Machine.execRouterFailed site s
  | .faultHandling => Sys2Proof.Machine.execFaultHandling s
  | .lidMesh segment percent => Sys2Proof.Machine.execLidMesh segment percent s
  | .voltageGlitch rail mV => Sys2Proof.Machine.execVoltageGlitch rail mV s
  | .clockGlitch which ps => Sys2Proof.Machine.execClockGlitch which ps s
  | .temperature sensor celsius => Sys2Proof.Machine.execTemperature sensor celsius s
  | .debugPort => Sys2Proof.Machine.execDebugPort s
  | .inputApplied => Sys2Proof.Machine.execInputApplied s
  | .inputRemoved => Sys2Proof.Machine.execInputRemoved s
  | .resetNAssert ns => Sys2Proof.Machine.execResetNAssert ns s
  | .resetNRelease => Sys2Proof.Machine.execResetNRelease s
  | .darkComplete d => Sys2Proof.Machine.execDarkComplete d s
  | .imageFetchComplete => Sys2Proof.Machine.execImageFetchComplete s
  | .clocksNetComplete d => Sys2Proof.Machine.execClocksNetComplete d s
  | .memoriesComplete d => Sys2Proof.Machine.execMemoriesComplete d s
  | .linksComplete => Sys2Proof.Machine.execLinksComplete s
  | .computeComplete d => Sys2Proof.Machine.execComputeComplete d s
  | .i3cPrivateRead offset len => Sys2Proof.Machine.execI3cPrivateRead offset len s
  | .i3cCommonCommand c => Sys2Proof.Machine.execI3cCommonCommand c s
  | .managementRecordRefresh m => Sys2Proof.Machine.execManagementRecordRefresh m s
  | .cableInsertion link => Sys2Proof.Machine.execCableInsertion link s
  | .mainbandTrainingComplete modules => Sys2Proof.Machine.execMainbandTrainingComplete modules s
  | .ucieRetraining m ok speed => Sys2Proof.Machine.execUcieRetraining m ok speed s
  | .hbmPhyFailure stack => Sys2Proof.Machine.execHbmPhyFailure stack s
  | .reservoirRecharged region banks => Sys2Proof.Machine.execReservoirRecharged region banks s
  | .scratchpadZeroingComplete t => Sys2Proof.Machine.execScratchpadZeroingComplete t s

end Sys2Proof.Machine
end

