-- ==== Sys2Proof/Machine/Stress.lean ====
section
/-! DEFINITION. How a stress test goes on (R317 to R319, R361, R445). -/

namespace Sys2Proof.Machine

/-- The regions that a test runs in. -/
def Stress.regions (x : Stress) : List Nat := allRegions.filter (fun r => x.tested.any (fun n => decide (regionOf n = r)))

/-- The tested regions that are not at the target (R318 step 1). -/
def State.stressCold (s : State) (x : Stress) : List Nat :=
  x.regions.filter (fun r => decide ((s.pregion r).temp < Int.ofNat x.target))

/-- A test goes to a stage: VLOG of its regions follows, and STRESS says whether it sets the frequency (R318, R369). -/
def State.stressTo (s : State) (j : Job) (x : Stress) (st : StressSt) : State :=
  let s := s.setWork j (.stress { x with stage := st, since := s.clk.tide })
  { s with clk := { s.clk with stress := true } }.setVlogs

/-- The next round (R318 step 2): that of the highest service maximum among the tiles still to be tested; with none left the
operating point is restored. -/
def State.stressNext (s : State) (j : Job) (x : Stress) : State :=
  let x := { x with left := x.left.filter s.siteGood }
  match x.left.map s.serviceBin with
  | [] => s.stressTo j x .restoring
  | b :: bs => s.stressTo j x (.tuning (bs.foldl max b))

/-- How often a tested tile is to fail (R318). -/
def Stress.failsOf (x : Stress) (n : Nat) : Nat :=
  ((x.fails.find? (fun y => decide (y.1 = n))).map (fun y => y.2)).getD 0

/-- A test and the state that a tile's round leaves. -/
structure StressRun where
  st : State
  test : Stress

/-- A tile's round (R318 steps 4 and 5, R319): one that passes is done, and no longer SUSPECT where it has passed every round;
one that fails is lowered one bin and tested again, or retired where it fails for the second time or would fall below bin 64.
The blocks that the test wrote hold no check value (R299). -/
def stressTile (r : StressRun) (n : Nat) : StressRun :=
  let x := r.test
  let before := x.failed.contains n
  let done := { x with left := x.left.filter (fun m => decide (m ≠ n)) }
  let s := r.st.modTile n (fun t => { t with spad := { t.spad with side := [] } })
  if x.failsOf n ≤ flagNat before then
    ⟨if before then s else s.modTile n (fun t => { t with integ := { t.integ with suspect := false } }), done⟩
  else if before ∨ s.serviceBin n ≤ 64 then ⟨s.retire n 8, { done with failed := n :: x.failed }⟩
  else ⟨s.modSite n (fun y => { y with serviceBin := some (s.serviceBin n - 1) }), { x with failed := n :: x.failed }⟩

/-- The round of a bin ends. -/
def State.endRound (s : State) (x : Stress) (b : Nat) : StressRun :=
  (x.left.filter (fun n => s.siteGood n && decide (s.serviceBin n = b))).foldl stressTile ⟨s, x⟩

/-- The result code of a site (R445). DESIGN CHOICE (log 126): a tile that a test has lowered and not tested again by its
early end reads as not tested. -/
def State.stressCode (s : State) (x : Stress) (n : Nat) : Nat :=
  if !x.tested.contains n || x.left.contains n then 0
  else if (s.siteRec n).status = 3 then 3
  else if x.failed.contains n then 2
  else if x.cool.contains (regionOf n) then 4
  else 1

/-- The results of a test (R445): for every site its code and its service maximum. -/
def State.stressResults (s : State) (x : Stress) : List Byte :=
  allSites.flatMap (fun n => leBytes (s.stressCode x n) 1 ++ leBytes (s.serviceBin n) 1)

/-- Tide counts since the present stage began. -/
def State.stressFor (s : State) (x : Stress) : Nat := (s.clk.tide - x.since).toNat

/-- Whether the die runs at a bin, with no change pending. -/
def State.runsAt (s : State) (b : Nat) : Bool := decide (s.clk.bin = b) && s.clk.change.isNone && !s.clk.quiescent

/-- A stress test goes on: heating for at most 120 s, rounds of 200 ms at their frequencies, and the operating point restored
at the end (R318, R361). -/
def State.pumpStress (s : State) : State := match s.stressTest with
  | none => s
  | some (j, x) => match x.stage with
    | .heating =>
      if s.stressCold x = [] ∨ 12000000000 ≤ s.stressFor x then s.stressNext j { x with cool := s.stressCold x } else s
    | .tuning b => if s.runsAt (stressBin b) then s.stressTo j x (.round b) else s
    | .round b =>
      if 20000000 ≤ s.stressFor x then
        let r := s.endRound x b
        r.st.stressNext j r.test
      else s
    | .restoring =>
      if s.runsAt x.back then { s with clk := { s.clk with stress := false } }.complete j stOk (s.stressResults x) else s

end Sys2Proof.Machine
end

