-- ==== Sys2Proof/Machine/Tick.lean ====
section
/-! DEFINITION. What happens with no command waiting: the tide count advances by one (R354), active cycles are
counted (R134), the tide count is steered (R281), and the harbour master goes on with the work it holds (log
entry 3). -/

namespace Sys2Proof.Machine

/-- Tile cycles that a region has begun by `d` counts after a tide mark at a bin (R357: 1,024 × bin in 4,096 counts), having
lost `slip` half cycles since (R367, R368). -/
def regionCycles (bin d slip : Nat) : Nat := (bin * d / 2 - slip) / 2

/-- Of the first `i` tile cycles after a tide mark, those that a region at SKIP k skips (R364): k in every group
of 64, cycle i of a group where floor((i + 1) × k / 64) exceeds floor(i × k / 64). -/
def skippedAt (k i : Nat) : Nat := i * k / 64

/-- Active cycles among those from cycle `a` to cycle `b` of an interval at SKIP k (R364, R365). -/
def ranAt (k a b : Nat) : Nat := (b - a) - (skippedAt k b - skippedAt k a)

/-- A region goes on at one SKIP value to cycle `b` of the interval: its active cycles are counted, and a stretched period is
one cycle (R134, R366). -/
def ClkRegion.go (x : ClkRegion) (k b : Nat) : ClkRegion :=
  let n := b - x.cycles
  let a := ranAt k x.cycles b
  { x with
    cycles := max x.cycles b, ran := x.ran + a, skipNow := k, skipSeen := x.skipSeen || decide (a < n),
    owed := x.owed - n, gap := min (x.gap + (n - x.owed)) 56 }

/-- A region goes on to cycle `b` of the interval, a new SKIP value from the next group boundary (R364). -/
def ClkRegion.runTo (x : ClkRegion) (k b : Nat) : ClkRegion :=
  let edge := ceilDiv x.cycles 64 * 64
  if b ≤ edge then x.go x.skipNow b else (x.go x.skipNow edge).go k b

/-- Every region goes on over one tide count; none in the quiescent window (R363). -/
def State.runRegions (s : State) : State :=
  if s.clk.quiescent ∨ s.clk.bin = 0 then s
  else
    let d := s.clk.tide.toNat % 4096 + 1
    s.each (fun s r => s.modCregion r (fun x => x.runTo (s.pregion r).skip (regionCycles s.clk.bin d x.nowSlip))) allRegions

/-- Whether a tile's active cycles are counted (R134): a context runs on it, launched at START and not paused. DESIGN CHOICE
(log 121): they go on on a tile that has halted or taken an exception, until its context ends. -/
def State.counts (s : State) (n : Nat) (t : Tile) : Bool :=
  t.ctx.isSome && decide (t.seq.mode ≠ .idle) && !t.seq.paused && !t.inReset && decide (t.seq.startAt ≤ s.clk.tide)
    && s.vlogOn (regionOf n) && !s.clk.quiescent

/-- The cycles of every region and the active cycles of every tile over one tide count (R134). -/
def State.countActive (s : State) : State :=
  let u := s.runRegions
  let f (n : Nat) (t : Tile) : Tile :=
    if s.counts n t then
      let a := (u.cregion (regionOf n)).ran - (s.cregion (regionOf n)).ran
      { t with seq := { t.seq with activeCycles := t.seq.activeCycles + BitVec.ofNat 64 a } }
    else t
  { u with tiles := SMap.mapAll Tile.clear f u.tiles }

/-- STEPS saturates as a 32-bit two's complement number (R369). -/
def satSteps (x : Int) : Int := max (-2147483648) (min x 2147483647)

/-- Whether the tide count may be moved by a position now: steered by beacons, and 64 counts since the last move
(R281, R355). -/
def State.mayStep (s : State) : Bool :=
  !s.fab.isRoot && s.fab.parent.isSome && s.fab.beaconed && !s.fab.tideLost
    && (match s.clk.stepAt with | none => true | some t => decide (64 ≤ (s.clk.tide - t).toNat))

/-- The interpolator moves one position: up, which lengthens a count by 1/64, where the tide count is ahead of the
root's, and down where it is behind (R281, R355). -/
def State.steer (s : State) : State :=
  let move (up : Int) : State :=
    { s with
      fab := { s.fab with offset := s.fab.offset - 1024 * up },
      clk := { s.clk with position := ((Int.ofNat s.clk.position + up) % 64).toNat,
                          steps := satSteps (s.clk.steps + up), stepAt := some s.clk.tide } }
  if s.mayStep then
    if 1024 ≤ s.fab.offset then move 1 else if s.fab.offset ≤ -1024 then move (-1) else s
  else s

/-- Whether an event is due at the present count that its own row brings: a tide mark, or the start of a
quiescent window. The count stands until it has come (log entry 3). -/
def State.eventDue (s : State) : Bool :=
  s.markDue || (s.clk.change.isSome && decide (s.clk.tide = s.clk.target) && !s.clk.quiescent)

/-- One tide count (R354). -/
def State.advance (s : State) : State :=
  if s.eventDue then s
  else
    let s := s.countActive.steer
    { s with clk := { s.clk with tide := s.clk.tide + 1 } }

/-- Records that wait for the backlog move up (R503). -/
def State.refillBacklog (s : State) : State :=
  let room := 256 - s.uci.backlog.length
  { s with uci := { s.uci with backlog := s.uci.backlog ++ s.uci.waiting.take room, waiting := s.uci.waiting.drop room } }

/-- What the tiles do of themselves (log entry 109): each one whose clocks run, in site order. -/
def State.tileWork (s : State) : State :=
  (s.tiles.filter (fun x => clockDue x.2)).foldl (fun s x => if s.tileOn x.1 then s.runTile x.1 tileClock else s) s

/-- What waits at the link dies goes on as far as it may (R201, R204, R270, R363). -/
def State.linkWork (s : State) : State := s.each State.forwardAll (List.range 8)

/-- The work that the harbour master holds goes on (R209, R318, R403, R425, R442, R503). -/
def State.harbourWork (s : State) : State :=
  if s.hm.silent then s else s.settlePauses.pumpHeld.pumpJobs.pumpResets.pumpStress.refillBacklog

/-- One step with no command waiting: nothing while the tide clock does not run. -/
def State.tick (s : State) : State := if s.tideRuns then s.tileWork.linkWork.harbourWork.advance else s

end Sys2Proof.Machine
end

