-- ==== Sys2Proof/Safety.lean ====
section
/-! DEFINITION. What a safe run is, and the situations of a tile that statements are about. -/

namespace Sys2Proof

/-- A run of `k` steps that neither faults nor is refused. -/
def safeRun (k : Nat) (s : Machine.State) : Bool :=
  match Host.Core.run core k s with
  | .next _ => true
  | _ => false

/-- The header names partition `p` and context `c`, both in range (R430). -/
def CmdHdr.names (h : CmdHdr) (p c : Nat) : Prop := h.part.toNat = p ∧ h.ctx.toNat = c ∧ p < 20 ∧ c < 8

/-- The header names partition `p` and no context (R430). -/
def CmdHdr.namesPart (h : CmdHdr) (p : Nat) : Prop := h.part.toNat = p ∧ h.ctx = 0xFF ∧ p < 20

/-- The header names nothing (R430). -/
def CmdHdr.bare (h : CmdHdr) : Prop := h.part = 0xFF ∧ h.ctx = 0xFF

namespace Machine

/-- The tile at site `t` may fetch an instruction of `len` bytes now (R131, R134, R139): the site exists, its logic
runs, its sequencer may issue, it holds no earlier instruction, and every word of the instruction lies in a
moored code area of its context. -/
def State.fetches (s : State) (t len : Nat) : Prop :=
  t < 480 ∧ s.tileOn t = true ∧ mayIssue (s.envOf t) (s.tile t) = true ∧ (s.tile t).seq.cur = none
    ∧ fetchOk (s.tile t) (s.tile t).seq.pc.toNat = true
    ∧ (len = 8 → fetchOk (s.tile t) ((s.tile t).seq.pc.toNat + 4) = true)

/-- The tile at site `t` issues an instruction of `len` bytes now: it may fetch it, and the instruction cache holds its words
(R138). -/
def State.issues (s : State) (t len : Nat) : Prop :=
  s.fetches t len ∧ lineHit (s.tile t) (s.tile t).seq.pc.toNat = true
    ∧ (len = 8 → lineHit (s.tile t) ((s.tile t).seq.pc.toNat + 4) = true)

/-- The tile at site `t` waits at an instruction, and its sequencer may go on (R131). -/
def State.waitsAt (s : State) (t : Nat) (h : Held) : Prop :=
  t < 480 ∧ s.tileOn t = true ∧ mayIssue (s.envOf t) (s.tile t) = true ∧ (s.tile t).seq.cur = some h

/-- The state after an instruction of `len` bytes at tile `t` wrote `v` to register `gd` and nothing else: the
tile's pc is past the instruction, and a PAUSE that is due has taken effect (R136, R139, R178). -/
def State.wrote (s : State) (t : Nat) (gd : BitVec 5) (v : Word) (len : Nat) : State :=
  s.setTile t (settlePause (((s.tile t).setGreg gd v).advance len))

/-- The state after the tile at `t` went on at address `pc` with its other state as it was (R146). -/
def State.wentTo (s : State) (t : Nat) (tl : Tile) (pc : Word) : State :=
  s.setTile t (settlePause { tl with seq := { tl.seq with pc := pc, cur := none } })

/-- Nothing that the tile stores is in error: no byte has bad parity, and every valid check value agrees with
its block (R126, R128). -/
def Tile.sound (t : Tile) : Prop :=
  t.spad.parityBad = [] ∧ ∀ b, (t.spad.sideOf b).st = .valid →
    (t.spad.sideOf b).crc = BitVec.ofNat 32 (crc32c (blockBytes t.spad b))

/-- The tile at site `t` exists and its logic runs (R134, R388). -/
def State.live (s : State) (t : Nat) : Prop := t < 480 ∧ s.tileOn t = true

/-- The command with opcode `op` and header `h` passes what comes before its own checks (R403, R430, R434, R436): the
harbour master takes commands, bits 7 to 2 of FLAGS are zero and FENCE is clear, and the phase accepts the opcode. -/
def State.served (s : State) (op : Nat) (h : CmdHdr) : Prop :=
  s.canTake = true ∧ h.flags.toNat < 2 ∧ s.phaseStatus op = stOk

/-- The command as the harbour master serves it now: not yet answered, and next in the order of arrival (R403). -/
def State.call (s : State) (op : Nat) (h : CmdHdr) : Call := ⟨h, op, false, s.hm.nextSerial⟩

/-- The state once a command has taken its place in that order. -/
def State.begun (s : State) : State := { s with hm := { s.hm with nextSerial := s.hm.nextSerial + 1 } }

/-- What a control packet of the harbour master for a tile adds to what is in flight (R26, R209). -/
def State.ordered (s : State) (ty : BitVec 8) (i : Nat) : Flight :=
  ⟨s.stamp (controlPacket s ty i), .router s.harbourRouter 5, s.turnVc s.harbourRouter i, 5⟩

/-- Flights join what is in flight. -/
def State.addFlights (s : State) (fs : List Flight) : State :=
  { s with net := { s.net with inFlight := s.net.inFlight ++ fs } }

end Machine

end Sys2Proof
end

