-- ==== Sys2Proof/WellFormed.lean ====
section
/-! DEFINITION. Well-formed commands and well-formed instructions of a tile program: every number stays
below the bound that the specification gives it. -/

namespace Sys2Proof

/-- The numbers of a scope with their bounds (R208, R409, R412). -/
def Scope.units : Scope → List (Nat × Nat)
  | .device => []
  | .part p => [(p, 20)]
  | .ctx p c => [(p, 20), (c, 8)]

/-- The fields of a grant block (R440). -/
def GrantBlock.units (g : GrantBlock) : List (Nat × Nat) :=
  [(g.c0, 2 ^ 8), (g.c1, 2 ^ 8), (g.r0, 2 ^ 8), (g.r1, 2 ^ 8), (g.flags, 2 ^ 8), (g.level, 2 ^ 8), (g.firstBand, 2 ^ 16),
    (g.bandCount, 2 ^ 16)] ++ g.runs.flatMap (fun r => [(r.1, 2 ^ 12), (r.2, 2 ^ 12)])

/-- The numbers of a command that name a unit or fill a field of a packet, with the bounds of R16, R17, R21,
R179, R203, R214, R219, R323, R372, R397, R409, R412 and of R438 to R447. -/
def Instr.units (i : Instr) : List (Nat × Nat) :=
  match i with
  | .add t _ _ _ => [(t, 480)]
  | .sub t _ _ _ => [(t, 480)]
  | .andR t _ _ _ => [(t, 480)]
  | .orR t _ _ _ => [(t, 480)]
  | .xorR t _ _ _ => [(t, 480)]
  | .sll t _ _ _ => [(t, 480)]
  | .srl t _ _ _ => [(t, 480)]
  | .sra t _ _ _ => [(t, 480)]
  | .slt t _ _ _ => [(t, 480)]
  | .sltu t _ _ _ => [(t, 480)]
  | .mul t _ _ _ => [(t, 480)]
  | .mulhu t _ _ _ => [(t, 480)]
  | .divu t _ _ _ => [(t, 480)]
  | .remu t _ _ _ => [(t, 480)]
  | .minS t _ _ _ => [(t, 480)]
  | .maxS t _ _ _ => [(t, 480)]
  | .addi t _ _ _ => [(t, 480)]
  | .andi t _ _ _ => [(t, 480)]
  | .ori t _ _ _ => [(t, 480)]
  | .xori t _ _ _ => [(t, 480)]
  | .slti t _ _ _ => [(t, 480)]
  | .sltiu t _ _ _ => [(t, 480)]
  | .slli t _ _ _ => [(t, 480)]
  | .srli t _ _ _ => [(t, 480)]
  | .srai t _ _ _ => [(t, 480)]
  | .li t _ _ => [(t, 480)]
  | .lih t _ _ => [(t, 480)]
  | .lb t _ _ _ => [(t, 480)]
  | .lbu t _ _ _ => [(t, 480)]
  | .lh t _ _ _ => [(t, 480)]
  | .lhu t _ _ _ => [(t, 480)]
  | .lw t _ _ _ => [(t, 480)]
  | .lwu t _ _ _ => [(t, 480)]
  | .ld t _ _ _ => [(t, 480)]
  | .sb t _ _ _ => [(t, 480)]
  | .sh t _ _ _ => [(t, 480)]
  | .sw t _ _ _ => [(t, 480)]
  | .sd t _ _ _ => [(t, 480)]
  | .pendingStoreWrite t => [(t, 480)]
  | .beq t _ _ _ => [(t, 480)]
  | .bne t _ _ _ => [(t, 480)]
  | .blt t _ _ _ => [(t, 480)]
  | .bge t _ _ _ => [(t, 480)]
  | .bltu t _ _ _ => [(t, 480)]
  | .bgeu t _ _ _ => [(t, 480)]
  | .jal t _ _ => [(t, 480)]
  | .jalr t _ _ _ => [(t, 480)]
  | .hret t => [(t, 480)]
  | .wload t _ => [(t, 480)]
  | .stream t _ => [(t, 480)]
  | .streamRowWrite t => [(t, 480)]
  | .drain t _ => [(t, 480)]
  | .drainRowOutput t => [(t, 480)]
  | .vecMovb t _ => [(t, 480)]
  | .vecCvt t _ => [(t, 480)]
  | .vecAdd t _ => [(t, 480)]
  | .vecSub t _ => [(t, 480)]
  | .vecMul t _ => [(t, 480)]
  | .vecFma t _ => [(t, 480)]
  | .vecMax t _ => [(t, 480)]
  | .vecMin t _ => [(t, 480)]
  | .vecAbs t _ => [(t, 480)]
  | .vecNeg t _ => [(t, 480)]
  | .vecExp2 t _ => [(t, 480)]
  | .vecLog2 t _ => [(t, 480)]
  | .vecRsqrt t _ => [(t, 480)]
  | .vecRecip t _ => [(t, 480)]
  | .vecExp t _ => [(t, 480)]
  | .vecRsum t _ => [(t, 480)]
  | .vecRmax t _ => [(t, 480)]
  | .vecRmin t _ => [(t, 480)]
  | .vecRsumsq t _ => [(t, 480)]
  | .movePush t _ => [(t, 480)]
  | .moveFetch t _ => [(t, 480)]
  | .movec t _ => [(t, 480)]
  | .send t _ => [(t, 480)]
  | .sendOutcome t => [(t, 480)]
  | .parkedSendAccept t => [(t, 480)]
  | .fullTimeout t => [(t, 480)]
  | .recv t _ => [(t, 480)]
  | .recvWaitEnd t => [(t, 480)]
  | .waitc t _ _ _ _ => [(t, 480)]
  | .waitcComplete t => [(t, 480)]
  | .tidewait t _ _ => [(t, 480)]
  | .tidewaitComplete t => [(t, 480)]
  | .fence t => [(t, 480)]
  | .fenceComplete t => [(t, 480)]
  | .pilot t _ _ _ => [(t, 480)]
  | .step t _ => [(t, 480)]
  | .stepCommit t => [(t, 480)]
  | .halt t _ => [(t, 480)]
  | .haltStop t => [(t, 480)]
  | .issueAfterHold t => [(t, 480)]
  | .handlerDispatch t => [(t, 480)]
  | .replay t => [(t, 480)]
  | .checkCopy t => [(t, 480)]
  | .checkPass t => [(t, 480)]
  | .routerPacketArrival site inPort _ => [(site, 480), (inPort, 7)]
  | .circuitFlit site n => [(site, 480), (n, 256)]
  | .write site _ => [(site, 480)]
  | .writeAdd32 site _ => [(site, 480)]
  | .writeAdd16 site _ => [(site, 480)]
  | .read site _ => [(site, 480)]
  | .readData site _ => [(site, 480)]
  | .ack site _ => [(site, 480)]
  | .ackTimeout t => [(t, 480)]
  | .message site _ => [(site, 480)]
  | .gapSkipped t chan sender => [(t, 480), (chan, 65536), (sender, 480)]
  | .credit site _ => [(site, 480)]
  | .lost t chan => [(t, 480), (chan, 65536)]
  | .channelEntryRead t chan => [(t, 480), (chan, 65536)]
  | .host site _ => [(site, 480)]
  | .mgmt site _ => [(site, 480)]
  | .stop t => [(t, 480)]
  | .resumePacket t => [(t, 480)]
  | .pilotPacket _ => []
  | .beacon link _ => [(link, 8)]
  | .linkFlit link _ => [(link, 8)]
  | .linkControlFlit link _ => [(link, 8)]
  | .linkTraining link _ => [(link, 8)]
  | .linkRetrain link _ => [(link, 8)]
  | .peerAddressExchange link _ => [(link, 8)]
  | .tideLost => []
  | .stepCollectorRecord _ => []
  | .stepCollectorTimeout _ => []
  | .recordExportTimeout port => [(port, 2)]
  | .hbmWrite site _ => [(site, 480)]
  | .hbmRead site _ => [(site, 480)]
  | .patrolScrub stack transfer => [(stack, 24), (transfer, 4294967296)]
  | .tideMark m =>
    m.regions.map (fun x => (x.region, 20)) ++ m.drops.map (fun x => (x.1, 45)) ++ m.currents.map (fun x => (x.1, 45))
      ++ m.stackTemps.map (fun x => (x.1, 24))
  | .riseCancelled late => late.map (fun x => (x, 20))
  | .quiescentStart => []
  | .refclkLost => []
  | .oscFailed region => [(region, 20)]
  | .droopDetectorTrip region _ => [(region, 20)]
  | .sensorReading temps => temps.map (fun x => (x.1, 496))
  | .vlogSwitchOff region => [(region, 20)]
  | .railShort rail => [(rail, 45)]
  | .phaseFailed rail phase => [(rail, 45), (phase, 16)]
  | .vhioFault edge => [(edge, 4)]
  | .supplyFatal unit => [(unit, 256)]
  | .inputDip _ _ => []
  | .telemetryWindow _ => []
  | .modelDrift _ => []
  | .quantumExpiry p => [(p, 20)]
  | .contextSwitch p => [(p, 20)]
  | .contextSwitched p => [(p, 20)]
  | .harbourMasterWatchdog => []
  | .commandWrite module _ _ => [(module, 4)]
  | .intakeTake => []
  | .recordWrite => []
  | .messageInterrupt => []
  | .hostWrite x _ => [(x.module, 4)]
  | .hostRead x _ => [(x.module, 4)]
  | .hostTransactionTimeout tag => [(tag, 65536)]
  | .deviceReadCompletion _ _ _ => []
  | .ucieModuleLost m => [(m, 4)]
  | .uciBootPtrWrite _ => []
  | .uciRingBaseWrite _ => []
  | .uciRingPtrWrite _ => []
  | .pwrTelemPtrWrite _ => []
  | .pwrVminRead i => [(i, 45)]
  | .tsCompletionWrite t n _ => [(t, 480), (n, 4096)]
  | .registerWrite _ _ => []
  | .identify _ => []
  | .status _ => []
  | .readFloorplan _ buf len => [(buf, 2 ^ 64), (len, 2 ^ 32)]
  | .readFaultlog _ buf len first count => [(buf, 2 ^ 64), (len, 2 ^ 32), (first, 2 ^ 8), (count, 2 ^ 16)]
  | .echo _ _ => []
  | .setConfig _ items => items.flatMap (fun x => [(x.1, 2 ^ 16), (x.2, 2 ^ 64)])
  | .getConfig _ codes => codes.map (fun x => (x, 2 ^ 16))
  | .installLicence _ addr len _ => [(addr, 2 ^ 64), (len, 2 ^ 32)]
  | .listLicences _ => []
  | .createPartition _ g => g.units
  | .destroyPartition _ => []
  | .resetPartition _ => []
  | .createContext _ _ => []
  | .destroyContext _ => []
  | .switchContext _ => []
  | .setQuantum _ ms => [(ms, 2 ^ 16)]
  | .copyIn _ c => [(c.host, 2 ^ 64), (c.dev, 2 ^ 64), (c.len, 2 ^ 64)]
  | .copyOut _ c => [(c.host, 2 ^ 64), (c.dev, 2 ^ 64), (c.len, 2 ^ 64)]
  | .fill _ dev len _ => [(dev, 2 ^ 64), (len, 2 ^ 64)]
  | .setInterleave _ g => g.units
  | .salvage _ region dev => [(region, 2 ^ 8), (dev, 2 ^ 64)]
  | .zeroingComplete p => [(p, 20)]
  | .launch _ plan _ _ => [(plan, 2 ^ 64)]
  | .launchStart p c => [(p, 20), (c, 8)]
  | .launchCompletion p c => [(p, 20), (c, 8)]
  | .pause _ => []
  | .resume _ => []
  | .abort _ => []
  | .setChannelTable _ base count => [(base, 2 ^ 64), (count, 2 ^ 32)]
  | .invalidateChannels _ first count => [(first, 2 ^ 32), (count, 2 ^ 32)]
  | .drainCommand _ scope ms => [(scope, 2 ^ 8), (ms, 2 ^ 32)]
  | .slackWater k => k.units
  | .drainTimeout k => k.units
  | .release _ scope => [(scope, 2 ^ 8)]
  | .writeRoutes _ r => [(r.sxM1, 2 ^ 8), (r.syM1, 2 ^ 8), (r.szM1, 2 ^ 8), (r.flags, 2 ^ 8)]
  | .writeCircuits _ rs => rs.flatMap (fun r => [(r.site, 2 ^ 16), (r.entry, 2 ^ 8)])
  | .fabricStatus _ => []
  | .setPair _ flags baseA baseB => [(flags, 2 ^ 8), (baseA, 2 ^ 64), (baseB, 2 ^ 64)]
  | .setCap _ watts => [(watts, 2 ^ 16)]
  | .setOppoint _ bin hinted => [(bin, 2 ^ 8), (hinted, 2 ^ 8)]
  | .pilotCommand _ lead cls dur => [(lead, 2 ^ 8), (cls, 2 ^ 8), (dur, 2 ^ 16)]
  | .setTelemetry _ mode ring records interval => [(mode, 2 ^ 8), (ring, 2 ^ 64), (records, 2 ^ 32), (interval, 2 ^ 16)]
  | .readEnergy _ _ => []
  | .setCheckLevel _ level => [(level, 2 ^ 8)]
  | .runStressTest _ mask target r =>
    [(mask, 2 ^ 32), (target, 2 ^ 8)] ++ r.fails.map (fun x => (x.1, 480))
  | .readTallyLog _ site => [(site, 2 ^ 16)]
  | .attest _ _ buf len => [(buf, 2 ^ 64), (len, 2 ^ 32)]
  | .loadKey _ kind addr len _ => [(kind, 2 ^ 8), (addr, 2 ^ 64), (len, 2 ^ 32)]
  | .eraseKeys _ => []
  | .setAlarmPolicy _ source response => [(source, 2 ^ 8), (response, 2 ^ 8)]
  | .readAlarms _ => []
  | .setDebugMode _ mode => [(mode, 2 ^ 8)]
  | .peekQueue _ site queue buf => [(site, 2 ^ 16), (queue, 2 ^ 8), (buf, 2 ^ 64)]
  | .readAccumulator _ site first count buf len => [(site, 2 ^ 16), (first, 2 ^ 8), (count, 2 ^ 8), (buf, 2 ^ 64), (len, 2 ^ 32)]
  | .trace _ mode kinds buf len => [(mode, 2 ^ 8), (kinds, 2 ^ 8), (buf, 2 ^ 64), (len, 2 ^ 32)]
  | .retireTile _ site => [(site, 2 ^ 16)]
  | .setServiceFmax _ site bin => [(site, 2 ^ 16), (bin, 2 ^ 8)]
  | .routerFailed site => [(site, 480)]
  | .faultHandling => []
  | .lidMesh segment _ => [(segment, 8)]
  | .voltageGlitch rail _ => [(rail, 45)]
  | .clockGlitch which _ => [(which, 2)]
  | .temperature sensor _ => [(sensor, 2)]
  | .debugPort => []
  | .inputApplied => []
  | .inputRemoved => []
  | .resetNAssert _ => []
  | .resetNRelease => []
  | .darkComplete d => d.mesh.map (fun x => (x.1, 8)) ++ d.temps.map (fun x => (x.1, 496))
  | .imageFetchComplete => []
  | .clocksNetComplete d => d.oscFailed.map (fun x => (x, 20)) ++ d.deadRouters.map (fun x => (x, 480))
  | .memoriesComplete d =>
    d.sramFailed.map (fun x => (x, 480)) ++ d.regionsDown.map (fun x => (x, 20)) ++ d.stacksFailed.map (fun x => (x, 24))
      ++ d.repaired.map (fun x => (x.1, 24))
  | .linksComplete => []
  | .computeComplete d =>
    d.columnsFailed.map (fun x => (x, 480)) ++ d.testFailed.map (fun x => (x, 480)) ++ d.ageing.map (fun x => (x.1, 20))
  | .i3cPrivateRead _ _ => []
  | .i3cCommonCommand _ => []
  | .managementRecordRefresh _ => []
  | .cableInsertion link => [(link, 8)]
  | .mainbandTrainingComplete modules => [(modules.length, 5)]
  | .ucieRetraining m _ speed => [(m, 4), (speed, 3)]
  | .hbmPhyFailure stack => [(stack, 24)]
  | .reservoirRecharged region banks => [(region, 20), (banks, 17)]
  | .scratchpadZeroingComplete t => [(t, 480)]

/-- A well-formed command: every unit it names exists, and every field holds its value. -/
def Instr.wf (i : Instr) : Bool := i.units.all (fun u => decide (u.1 < u.2))

/-- A well-formed instruction of a tile program: a shift amount is below 64 (R144), and RED is not the code
that R157 reserves. -/
def TInstr.wf (i : TInstr) : Bool :=
  match i with
  | .imm op _ _ v => !immIsShift op || decide (v.toNat < 64)
  | .move _ f => decide (f.red ≠ 3)
  | .movec f => decide (f.red ≠ 3)
  | _ => true

end Sys2Proof
end

