-- ==== Sys2Proof/Certificates/Slice0/Obligations.lean ====
section
/-! DEFINITION. The statements for the provers: what each command does, by the numbered rules of the spec, and what
every step keeps. -/

open Sys2Proof Sys2Proof.Machine

/-- The queue gives its commands in order: a step takes the front one and runs it on the state with the queue's rest;
on an empty queue the device's own clock goes on (the model's choice, log entry 3). Readings and choices of the model
that it rests on: log entry 3. -/
def Obligations.StepTakesTheFrontCommand : Prop :=
  (∀ (s : State) (c : Instr) (rest : List Instr),
      step { s with pending := c :: rest } = exec c { s with pending := rest })
    ∧ (∀ s : State, s.pending = [] → step s = .next s.tick)

/-- From R136: g0 reads as zero and writes to it are discarded, another register reads what was written last; in
handler mode g24 to g31 are a second bank, and g1 to g23 are shared with the main program. -/
def Obligations.GeneralRegisters : Prop :=
  ∀ (q : Seq) (r : BitVec 5) (v : Word),
    q.greg 0 = 0 ∧ q.setGreg 0 v = q
    ∧ (r ≠ 0 → (q.setGreg r v).greg r = v)
    ∧ (∀ r', r' ≠ r → (q.setGreg r v).greg r' = q.greg r')
    ∧ (24 ≤ r.toNat → ({ q with handler := true }.setGreg r v).gregs = q.gregs
        ∧ ({ q with handler := false }.setGreg r v).hbank = q.hbank)
    ∧ (r.toNat < 24 → { q with handler := true }.greg r = { q with handler := false }.greg r)

/-- R143: the sixteen register operations. Each writes its value to gd and changes nothing else; the function codes
past them are reserved and decode to none. -/
def Obligations.RegisterOperations : Prop :=
  ∀ (s : State) (t : Nat) (gd ga gb : BitVec 5), s.issues t 4 →
    let a := (s.tile t).greg ga
    let b := (s.tile t).greg gb
    let out (v : Word) : Host.Outcome State Fault Refusal := .next (s.wrote t gd v 4)
    exec (.add t gd ga gb) s = out (a + b)
    ∧ exec (.sub t gd ga gb) s = out (a - b)
    ∧ exec (.andR t gd ga gb) s = out (a &&& b)
    ∧ exec (.orR t gd ga gb) s = out (a ||| b)
    ∧ exec (.xorR t gd ga gb) s = out (a ^^^ b)
    ∧ exec (.sll t gd ga gb) s = out (a <<< (b.toNat % 64))
    ∧ exec (.srl t gd ga gb) s = out (a >>> (b.toNat % 64))
    ∧ exec (.sra t gd ga gb) s = out (BitVec.ofInt 64 (a.toInt >>> (b.toNat % 64)))
    ∧ exec (.slt t gd ga gb) s = out (if a.toInt < b.toInt then 1 else 0)
    ∧ exec (.sltu t gd ga gb) s = out (if a.toNat < b.toNat then 1 else 0)
    ∧ exec (.mul t gd ga gb) s = out (BitVec.ofNat 64 (a.toNat * b.toNat))
    ∧ exec (.mulhu t gd ga gb) s = out (BitVec.ofNat 64 (a.toNat * b.toNat / 2 ^ 64))
    ∧ exec (.divu t gd ga gb) s = out (if b = 0 then BitVec.allOnes 64 else BitVec.ofNat 64 (a.toNat / b.toNat))
    ∧ exec (.remu t gd ga gb) s = out (if b = 0 then a else BitVec.ofNat 64 (a.toNat % b.toNat))
    ∧ exec (.minS t gd ga gb) s = out (if b.toInt < a.toInt then b else a)
    ∧ exec (.maxS t gd ga gb) s = out (if a.toInt < b.toInt then b else a)
    ∧ (∀ fn, 16 ≤ fn → aluOfFn fn = none)

/-- R144: the immediate operations, LI and LIH. A shift is by IMM14[5:0]; a word of a shift whose IMM14[13:6] is not
zero decodes to no instruction. -/
def Obligations.ImmediateOperations : Prop :=
  ∀ (s : State) (t : Nat) (gd ga : BitVec 5) (v : BitVec 14) (w : BitVec 32),
    let a := (s.tile t).greg ga
    let b : Word := v.signExtend 64
    let out (x : Word) : Host.Outcome State Fault Refusal := .next (s.wrote t gd x 4)
    (s.issues t 4 →
      exec (.addi t gd ga v) s = out (a + b)
      ∧ exec (.andi t gd ga v) s = out (a &&& b)
      ∧ exec (.ori t gd ga v) s = out (a ||| b)
      ∧ exec (.xori t gd ga v) s = out (a ^^^ b)
      ∧ exec (.slti t gd ga v) s = out (if a.toInt < v.toInt then 1 else 0)
      ∧ exec (.sltiu t gd ga v) s = out (if a.toNat < b.toNat then 1 else 0)
      ∧ (v.toNat < 64 →
          exec (.slli t gd ga v) s = out (a <<< v.toNat)
          ∧ exec (.srli t gd ga v) s = out (a >>> v.toNat)
          ∧ exec (.srai t gd ga v) s = out (BitVec.ofInt 64 (a.toInt >>> v.toNat))))
    ∧ (s.issues t 8 →
      exec (.li t gd w) s = .next (s.wrote t gd (w.signExtend 64) 8)
      ∧ exec (.lih t gd w) s = .next (s.wrote t gd (w ++ ((s.tile t).greg gd).setWidth 32) 8))
    ∧ (∀ op, immIsShift op = true → 64 ≤ v.toNat → decodeT (encodeT (.imm op gd ga v)) = none)

/-- From R116, R119, R145: loads and stores. A load from the scratchpad reads its bytes, a pending store's value in
place of the old one, zero-extends or sign-extends them into gd, and joins the step read set; LD reads a tile register
whole. A store to the scratchpad joins the pending stores, at most four of them, and writes nothing yet; SD writes a
tile register at once. PENDING_STORE_WRITE writes the oldest pending store's bytes, and every other byte of the
scratchpad reads as before. Readings and choices of the model that it rests on: log entry 40. -/
def Obligations.LoadsAndStores : Prop :=
  (∀ (s : State) (t : Nat) (gd ga : BitVec 5) (v : BitVec 14), s.issues t 4 →
    let tl := s.tile t
    let a := (tl.greg ga + v.signExtend 64).toNat
    let free := otherCtxRow tl (a / 256) = false ∧ a < 0x7000000
      ∧ (∀ r ∈ registered tl, r.write = true → ¬(r.first ≤ a / 256 ∧ a / 256 ≤ r.last)) ∧ tl.spad.parityBad = []
    let u (x : Word) : Tile := (addRead (tl.setGreg gd x) (a / 256) (a / 256)).advance 4
    let out (x : Word) : Host.Outcome State Fault Refusal := .next (s.setTile t (settlePause (u x)))
    let mem (n : Nat) : Nat := leNat ((List.range n).map (fun i => pendingRead tl.spad.stores tl.spad.mem (a + i)))
    (free → exec (.lb t gd ga v) s = out ((BitVec.ofNat 8 (mem 1)).signExtend 64)
      ∧ exec (.lbu t gd ga v) s = out (BitVec.ofNat 64 (mem 1)))
    ∧ (free → a % 2 = 0 → exec (.lh t gd ga v) s = out ((BitVec.ofNat 16 (mem 2)).signExtend 64)
      ∧ exec (.lhu t gd ga v) s = out (BitVec.ofNat 64 (mem 2)))
    ∧ (free → a % 4 = 0 → exec (.lw t gd ga v) s = out ((BitVec.ofNat 32 (mem 4)).signExtend 64)
      ∧ exec (.lwu t gd ga v) s = out (BitVec.ofNat 64 (mem 4)))
    ∧ (free → a % 8 = 0 → exec (.ld t gd ga v) s = out (BitVec.ofNat 64 (mem 8)))
    ∧ (∀ off, a = 0x7F00000 + off → off % 8 = 0 → off < 0x9000 → ¬(0x100 ≤ off ∧ off < 0x200) →
        exec (.ld t gd ga v) s = .next (s.wrote t gd (BitVec.ofNat 64 (tsRead (s.envOf t) tl off)) 4)))
  ∧ (∀ (s : State) (t : Nat) (ga gb : BitVec 5) (v : BitVec 14),
    let tl := s.tile t
    let a := (tl.greg ga + v.signExtend 64).toNat
    let free := a < 0x7000000 ∧ rangeFault tl ⟨a / 256, a / 256, true⟩ = none ∧ tl.spad.stores.length < 4
      ∧ (∀ r ∈ registered tl, ¬(r.first ≤ a / 256 ∧ a / 256 ≤ r.last))
    let out (n : Nat) : Host.Outcome State Fault Refusal := .next (s.setTile t (settlePause
      ({ tl with spad := { tl.spad with stores := tl.spad.stores ++ [PendingStore.mk a (leBytes (tl.greg gb).toNat n)] } }.advance 4)))
    (s.issues t 4 →
      (free → exec (.sb t ga gb v) s = out 1)
      ∧ (free → a % 2 = 0 → exec (.sh t ga gb v) s = out 2)
      ∧ (free → a % 4 = 0 → exec (.sw t ga gb v) s = out 4)
      ∧ (free → a % 8 = 0 → exec (.sd t ga gb v) s = out 8)
      ∧ (∀ off, a = 0x7F00000 + off → off % 8 = 0 → off < 0x9000 → ¬(0x100 ≤ off ∧ off < 0x200) →
          exec (.sd t ga gb v) s = .next (s.setTile t (settlePause
            ((tsWrite tl off (tl.greg gb).toNat).outside.advance 4)))))
    ∧ (∀ p rest, s.live t → tl.spad.stores = p :: rest →
        ∃ u, exec (.pendingStoreWrite t) s = .next (s.setTile t u)
          ∧ u.spad.stores = rest ∧ u.spad.mem = Memory.writeBytes tl.spad.mem p.addr p.bytes
          ∧ (∀ b, b < p.addr ∨ p.addr + p.bytes.length ≤ b → Memory.read u.spad.mem b = Memory.read tl.spad.mem b)
          ∧ u.seq = tl.seq ∧ u.arr = tl.arr ∧ u.chan = tl.chan ∧ u.integ = tl.integ ∧ u.moveQ = tl.moveQ))

/-- R146, R147, R172: a branch goes to pc + 4 × OFF14 when its condition holds and past itself when it does not; JAL
and JALR write pc + 4 to gd and go to their target; HRET leaves handler mode and goes on at TS_HANDLER_PC, where the
main program's hold or wait is entered afresh, and releases the head message unless it was taken. -/
def Obligations.ControlFlow : Prop :=
  ∀ (s : State) (t : Nat) (gd ga gb : BitVec 5) (v : BitVec 14) (w : BitVec 19), s.issues t 4 →
    let tl := s.tile t
    let a := tl.greg ga
    let b := tl.greg gb
    let pc := tl.seq.pc
    let br (c : Prop) [Decidable c] : Host.Outcome State Fault Refusal :=
      .next (s.wentTo t tl (if c then pc + 4 * v.signExtend 64 else pc + 4))
    exec (.beq t ga gb v) s = br (a = b)
    ∧ exec (.bne t ga gb v) s = br (a ≠ b)
    ∧ exec (.blt t ga gb v) s = br (a.toInt < b.toInt)
    ∧ exec (.bge t ga gb v) s = br (b.toInt ≤ a.toInt)
    ∧ exec (.bltu t ga gb v) s = br (a.toNat < b.toNat)
    ∧ exec (.bgeu t ga gb v) s = br (b.toNat ≤ a.toNat)
    ∧ exec (.jal t gd w) s = .next (s.wentTo t (tl.setGreg gd (pc + 4)) (pc + 4 * w.signExtend 64))
    ∧ exec (.jalr t gd ga v) s = .next (s.wentTo t (tl.setGreg gd (pc + 4)) (a + v.signExtend 64))
    ∧ (tl.seq.handler = true →
        let back (x : Tile) : Tile := settlePause { x with seq := { x.seq with
          handler := false, handlerTaken := false, pc := x.seq.handlerPc, cur := x.seq.mainCur, mainCur := none } }
        (tl.seq.handlerTaken = true → exec (.hret t) s = .next (s.setTile t (back tl)))
        ∧ (∀ m ms, tl.seq.handlerTaken = false → (tl.chan.queue tl.seq.handlerQ).msgs = m :: ms →
            ∃ u, exec (.hret t) s = .next ((s.setTile t (back u)).inject t 4
                (creditPacket (s.envOf t) tl m.sender m.seq m.chan m.slots false))
              ∧ u.chan.queue tl.seq.handlerQ = ⟨((tl.chan.queue tl.seq.handlerQ).head + m.slots) % 32, ms⟩
              ∧ u.seq = tl.seq ∧ u.spad = tl.spad ∧ u.arr = tl.arr ∧ u.moveQ = tl.moveQ))

/-- From R164 to R166: WAITC completes when COUNT + FAILED is at least v, writes FAILED to gd and with CONSUME takes v
away; TIDEWAIT completes at its tide count or, with MARK, at the first tide mark after issue; FENCE completes when
everything earlier is complete. Until then the instruction waits at pc, and the same test ends the wait. Readings and
choices of the model that it rests on: log entries 37, 109. -/
def Obligations.Waits : Prop :=
  ∀ (s : State) (t : Nat) (gd ga : BitVec 5) (cnt : BitVec 12) (consume mark : Bool) (h : Held),
    let tl := s.tile t
    let past := s.wentTo t tl (tl.seq.pc + 4)
    let hold (i : TInstr) (k : WaitKind) (m : Word) : State :=
      s.setTile t (settlePause { tl with seq := { tl.seq with cur := some ⟨i, k, m⟩ } })
    let c := tl.comp cnt.toNat
    let v := (tl.greg ga).toNat % 2 ^ 32
    let u := tl.setGreg gd (c.failed.setWidth 64)
    let taken := if consume then
        (u.setComp cnt.toNat ⟨0, BitVec.ofNat 32 (c.count.toNat + c.failed.toNat - v)⟩).outside else u
    let tide (m : Word) : Prop := if mark then m.toNat ≤ s.clk.tide.toNat else (tl.greg ga).toNat ≤ s.clk.tide.toNat
    (s.issues t 4 →
      (v ≤ c.count.toNat + c.failed.toNat →
        exec (.waitc t gd ga cnt consume) s = .next (s.wentTo t taken (tl.seq.pc + 4)))
      ∧ (c.count.toNat + c.failed.toNat < v →
        exec (.waitc t gd ga cnt consume) s = .next (hold (.waitc gd ga cnt consume) .waitc 0))
      ∧ (tide (markAfter (s.envOf t)) → exec (.tidewait t ga mark) s = .next past)
      ∧ (¬tide (markAfter (s.envOf t)) →
        exec (.tidewait t ga mark) s = .next (hold (.tidewait ga mark) .tidewait (markAfter (s.envOf t))))
      ∧ (fenceMet tl = true → exec (.fence t) s = .next past)
      ∧ (fenceMet tl = false → exec (.fence t) s = .next (hold .fence .fence 0)))
    ∧ (s.waitsAt t h →
      (h.ins = .waitc gd ga cnt consume → v ≤ c.count.toNat + c.failed.toNat →
        exec (.waitcComplete t) s = .next (s.wentTo t taken (tl.seq.pc + 4)))
      ∧ (h.ins = .tidewait ga mark → tide h.mark → exec (.tidewaitComplete t) s = .next past)
      ∧ (h.ins = .fence → fenceMet tl = true → exec (.fenceComplete t) s = .next past))

/-- From R167, R381: PILOT with LEAD and DUR not zero does not wait and sends one PILOT packet to the pilot router:
the start mark counted from the first mark after issue, the duration, the class and the tile's partition. Readings and
choices of the model that it rests on: log entry 36. -/
def Obligations.PilotInstruction : Prop :=
  ∀ (s : State) (t : Nat) (lead : BitVec 8) (cls : BitVec 3) (dur : BitVec 12), s.issues t 4 → lead ≠ 0 → dur ≠ 0 →
    ∃ p : Packet, exec (.pilot t lead cls dur) s = .next ((s.wentTo t (s.tile t) ((s.tile t).seq.pc + 4)).inject t 4 p)
      ∧ p.typ = 0x22 ∧ p.dport = 5 ∧ p.dsite = BitVec.ofNat 9 s.pilotRouter ∧ p.ssite = BitVec.ofNat 9 t
      ∧ p.payload = leBytes ((markAfter (s.envOf t)).toNat / 4096 + lead.toNat) 8 ++ leBytes dur.toNat 2
          ++ leBytes cls.toNat 1 ++ leBytes (s.envOf t).part.toNat 1 ++ [0, 0, 0, 0]

/-- From R168, R169: STEP and HALT wait; once everything earlier is complete and every check decided, STEP_COMMIT
empties the read set, writes TAG and records the replay point, and HALT_STOP stops the sequencer with CODE. Readings
and choices of the model that it rests on: log entries 36, 37. -/
def Obligations.StepsAndHalts : Prop :=
  ∀ (s : State) (t : Nat) (tag code : BitVec 16) (h : Held),
    let tl := s.tile t
    let hold (i : TInstr) : State := s.setTile t (settlePause { tl with seq := { tl.seq with cur := some ⟨i, .fence, 0⟩ } })
    (s.issues t 4 → exec (.step t tag) s = .next (hold (.step tag)) ∧ exec (.halt t code) s = .next (hold (.halt code)))
    ∧ (s.waitsAt t h → stepMet tl = true → h.ins = .step tag →
        ((s.envOf t).pairMode = true → s.routable t (s.envOf t).collectorSite = true) →
        ∃ s', exec (.stepCommit t) s = .next s' ∧
        let u := s'.tile t
        u.seq.stepTag = tag ∧ u.seq.pc = tl.seq.pc + 4 ∧ u.seq.mode = tl.seq.mode ∧ u.seq.gregs = tl.seq.gregs
        ∧ u.spad.readSet = [] ∧ u.spad.mem = tl.spad.mem ∧ u.arr.acc = tl.arr.acc
        ∧ u.integ.replayPoint = some (ReplayPoint.mk tl.seq.gregs tl.seq.hbank (tl.seq.pc + 4)
            tl.seq.srCount tl.seq.handlerMask tl.integ.passes tl.seq.handler)
        ∧ s'.hbm = s.hbm ∧ s'.faults = s.faults ∧ (∀ n, n ≠ t → s'.tile n = s.tile n))
    ∧ (s.waitsAt t h → stepMet tl = true → h.ins = .halt code → ∃ s', exec (.haltStop t) s = .next s' ∧
        let u := s'.tile t
        u.seq.mode = .halted ∧ u.seq.haltCode = code ∧ u.seq.pc = tl.seq.pc + 4 ∧ u.seq.gregs = tl.seq.gregs
        ∧ u.spad = tl.spad ∧ u.arr = tl.arr ∧ u.chan = tl.chan
        ∧ s'.hbm = s.hbm ∧ s'.faults = s.faults ∧ (∀ n, n ≠ t → s'.tile n = s.tile n))

/-- From R131, R138: ISSUE_AFTER_HOLD tries a held instruction again, the engines having gone on meanwhile; with none
held it issues the instruction that the cache holds at pc exactly as that instruction's own row does. A miss first
fills the line of the word at pc with its 64 bytes of the scratchpad, and the row goes on from there. Readings and
choices of the model that it rests on: log entries 36, 37. -/
def Obligations.IssueAfterHold : Prop :=
  (∀ (s : State) (t : Nat) (i : TInstr), s.issues t (lengthT i) → (fetchAt (s.tile t)).2 = some i →
      exec (.issueAfterHold t) s = .next (s.runTile t (tileIssue · i ·)))
    ∧ (∀ (s : State) (t : Nat) (h : Held), s.waitsAt t h → h.kind ≠ .send →
      exec (.issueAfterHold t) s = .next (s.runTile t (fun env tl =>
        (settleTried env (enginesRun tl) h.ins (tryInstr env (enginesRun tl) h.ins h.mark)).map settlePause)))
    ∧ (∀ (s : State) (t : Nat) (gd ga gb : BitVec 5), s.issues t 4 → (fetchAt (s.tile t)).2 = some (.alu .add gd ga gb) →
      exec (.issueAfterHold t) s = exec (.add t gd ga gb) s)
    ∧ (∀ (s : State) (t : Nat), s.fetches t 4 →
      let tl := s.tile t
      let base := tl.seq.pc.toNat / 64 * 64
      let line : ILine := ⟨true, base, Memory.readBytes tl.spad.mem base 64⟩
      let u := { tl with seq := { tl.seq with
        icache := SMap.set ILine.none tl.seq.icache (tl.seq.pc.toNat / 64 % 128) line } }
      lineHit tl tl.seq.pc.toNat = false → tl.spad.parityHit base 64 = false →
      lineHit u tl.seq.pc.toNat = true
        ∧ exec (.issueAfterHold t) s = .next (s.runTile t (fun env _ => tileIssueAfterHold env u)))

/-- From R170, R171, R315: at a dispatch point the request of the lowest queue is accepted: the pc goes to
TS_HANDLER_PC, the handler bank's g24 to g28 describe the message, g29 to g31 keep their values, and the handler
begins. REPLAY, once issued work is complete, restores the replay point and counts the replay. Readings and choices of
the model that it rests on: log entries 105, 111. -/
def Obligations.DispatchAndReplay : Prop :=
  (∀ (s : State) (t q : Nat) (m : QMsg) (ms : List QMsg) (e : ChEntry),
    let tl := s.tile t
    s.live t → mayIssue (s.envOf t) tl = true → atDispatchPoint tl = true → q < 16 →
    bitOf tl.seq.handlerMask.toNat q = true → (tl.chan.queue q).msgs = m :: ms →
    (∀ r, r < q → bitOf tl.seq.handlerMask.toNat r = true → (tl.chan.queue r).msgs = []) →
    tl.chan.entry m.chan = some e →
    ∃ s', exec (.handlerDispatch t) s = .next s' ∧
      let u := s'.tile t
      u.seq.handler = true ∧ u.seq.handlerPc = tl.seq.pc ∧ u.seq.handlerQ = q ∧ u.seq.pc = e.handler.setWidth 64
      ∧ u.seq.mainCur = tl.seq.cur ∧ u.seq.cur = none
      ∧ u.seq.greg 24 = BitVec.ofNat 64 q ∧ u.seq.greg 25 = m.chan.setWidth 64 ∧ u.seq.greg 26 = BitVec.ofNat 64 m.len
      ∧ u.seq.greg 27 = BitVec.ofNat 64 (0x6FF0000 + q * 0x1000 + (tl.chan.queue q).head * 128 % 4096)
      ∧ u.seq.greg 28 = m.sender.setWidth 64
      ∧ (∀ r : BitVec 5, 28 < r.toNat → u.seq.greg r = SMap.get 0 tl.seq.hbank r.toNat)
      ∧ u.seq.gregs = tl.seq.gregs ∧ u.spad = tl.spad ∧ u.chan = tl.chan ∧ u.arr = tl.arr ∧ s'.hbm = s.hbm)
  ∧ (∀ (s : State) (t : Nat) (ck : BitVec 8) (rp : ReplayPoint),
    let tl := s.tile t
    s.live t → s.faults.unhandled < 64 → tl.integ.replayPending = some ck → tl.integ.replayPoint = some rp →
    tl.arr.queue = [] → tl.moveQ = [] → tl.spad.stores = [] →
    ∃ s', exec (.replay t) s = .next s' ∧
      let u := s'.tile t
      u.seq.gregs = rp.gregs ∧ u.seq.hbank = rp.hbank ∧ u.seq.pc = rp.pc ∧ u.seq.srCount = rp.srCount
      ∧ u.seq.handlerMask = rp.mask ∧ u.seq.handler = rp.handler ∧ u.integ.passes = rp.passes
      ∧ u.integ.replaying = true ∧ u.integ.replayPending = none ∧ u.integ.replayPoint = some rp
      ∧ u.integ.replays = (if tl.integ.replays = 0xFFFF then tl.integ.replays else tl.integ.replays + 1)
      ∧ u.spad = tl.spad ∧ u.arr.acc = tl.arr.acc ∧ u.chan.queues = tl.chan.queues)

/-- From R139, R140, R144, R145, R147, R167, R173, R174: where an instruction raises an exception it does not issue
and every register, counter and byte of the tile stays as it was. With nothing issued left, MODE becomes exception,
TS_EXC records the cause and its detail, and TS_EXC_PC the pc; else the exception waits for what is issued, and
nothing further is. Readings and choices of the model that it rests on: log entries 39, 94, 107. -/
def Obligations.TileExceptions : Prop :=
  ∀ (s : State) (t : Nat) (gd ga gb : BitVec 5) (v : BitVec 14), s.faults.unhandled < 64 →
    let tl := s.tile t
    let a := (tl.greg ga + v.signExtend 64).toNat
    let same (u : Tile) : Prop := u.seq.pc = tl.seq.pc ∧ u.seq.gregs = tl.seq.gregs ∧ u.seq.comps = tl.seq.comps
      ∧ u.spad = tl.spad ∧ u.arr = tl.arr ∧ u.chan = tl.chan ∧ u.moveQ = tl.moveQ ∧ u.vecQ = tl.vecQ
    let raised (c : Instr) (cause detail : Nat) : Prop :=
      (workDone tl = true → ∃ s', exec c s = .next s' ∧
        let u := s'.tile t
        u.seq.mode = .exception ∧ u.seq.excCause = BitVec.ofNat 8 cause ∧ u.seq.excDetail = BitVec.ofNat 32 detail
        ∧ u.seq.excPc = tl.seq.pc ∧ u.seq.cur = none ∧ same u ∧ s'.hbm = s.hbm)
      ∧ (workDone tl = false → ∃ s', exec c s = .next s' ∧
        let u := s'.tile t
        u.seq.mode = .running ∧ u.seq.excDue = some ⟨cause, detail, tl.seq.pc, true⟩ ∧ mayIssue (s'.envOf t) u = false
        ∧ same u ∧ s'.hbm = s.hbm ∧ s'.faults = s.faults)
    (s.issues t 4 →
      (a % 2 ≠ 0 → raised (.lh t gd ga v) 4 a ∧ raised (.lhu t gd ga v) 4 a ∧ raised (.sh t ga gb v) 4 a)
      ∧ (a % 4 ≠ 0 → raised (.lw t gd ga v) 4 a ∧ raised (.lwu t gd ga v) 4 a ∧ raised (.sw t ga gb v) 4 a)
      ∧ (a % 8 ≠ 0 → raised (.ld t gd ga v) 4 a ∧ raised (.sd t ga gb v) 4 a)
      ∧ (0x7000000 ≤ a → raised (.lb t gd ga v) 5 a ∧ raised (.lbu t gd ga v) 5 a ∧ raised (.sb t ga gb v) 5 a)
      ∧ (64 ≤ v.toNat → raised (.slli t gd ga v) 1 (firstWord (.imm .slli gd ga v))
          ∧ raised (.srli t gd ga v) 1 (firstWord (.imm .srli gd ga v))
          ∧ raised (.srai t gd ga v) 1 (firstWord (.imm .srai gd ga v)))
      ∧ (tl.seq.handler = false → raised (.hret t) 1 0x28)
      ∧ (∀ cls dur, raised (.pilot t 0 cls dur) 2 (3 * 2 ^ 24)))
    ∧ (s.live t → mayIssue (s.envOf t) tl = true → tl.seq.cur = none → fetchOk tl tl.seq.pc.toNat = false →
        raised (.add t gd ga gb) 3 tl.seq.pc.toNat ∧ raised (.issueAfterHold t) 3 tl.seq.pc.toNat)
    ∧ (∀ e, tl.seq.excDue = some e → workDone tl = true →
        let o := settleExc (s.envOf t) tl
        o.tile.seq.mode = .exception ∧ o.tile.seq.excCause = BitVec.ofNat 8 e.cause
        ∧ o.tile.seq.excDetail = BitVec.ofNat 32 e.detail ∧ o.tile.seq.excPc = e.pc ∧ o.tile.seq.excDue = none)

/-- From R73, R76, R79, R85, R95, R97, R148: WLOAD, STREAM and DRAIN whose fields, ranges and queue pass issue at once
and join the array engine's queue with their operands as they were read; nothing of the scratchpad, the accumulator,
the weight hold or the array cells changes before the engine comes to them. A WLOAD before which no STREAM stands then
loads the hold and the cells, and a STREAM takes the operand of the last WLOAD before it. Readings and choices of the
model that it rests on: log entries 38, 107, 109. -/
def Obligations.ArrayIssue : Prop :=
  ∀ (s : State) (t : Nat), s.issues t 8 → (s.tile t).sound → (s.tile t).arr.queue.length < 8 →
    let tl := s.tile t
    let kept (u : Tile) : Prop := u.seq.pc = tl.seq.pc + 8 ∧ u.seq.mode = tl.seq.mode ∧ u.seq.gregs = tl.seq.gregs
      ∧ u.seq.hbank = tl.seq.hbank ∧ u.seq.comps = tl.seq.comps ∧ u.spad.mem = tl.spad.mem ∧ u.arr.acc = tl.arr.acc
      ∧ u.chan = tl.chan ∧ u.moveQ = tl.moveQ ∧ u.outst = tl.outst ∧ u.vecQ = tl.vecQ
      ∧ u.arr.hold = tl.arr.hold ∧ u.arr.cells = tl.arr.cells
    (∀ f : WloadFields,
      let src := (tl.greg f.ga).toNat
      let sscale := (tl.greg f.gb).toNat
      let rs := wloadRanges f.fmt.toNat f.ncount.toNat src sscale
      arrayFmtOk f.fmt.toNat = true → 0 < f.kcount.toNat → f.kcount.toNat ≤ fmtK f.fmt.toNat →
      0 < f.ncount.toNat → f.ncount.toNat ≤ 128 → rangesFault tl rs = none → boardHolds tl rs = false →
      ∃ u w, exec (.wload t f) s = .next (s.setTile t u) ∧ kept u ∧ u.arr.queue = tl.arr.queue ++ [.wload ⟨w, rs⟩]
        ∧ u.arr.wloadIssued = true ∧ streamOperand u.arr = some w
        ∧ ((∀ o, ArrayOp.stream o ∉ tl.arr.queue) →
            (loadsDone u).arr.hold = some w ∧ (loadsDone u).arr.cells = some w)
        ∧ w.fmt = f.fmt.toNat ∧ w.kcount = f.kcount.toNat ∧ w.ncount = f.ncount.toNat
        ∧ w.cols = piecesOf (colWidth f.fmt.toNat) f.ncount.toNat
            (Memory.readBytes tl.spad.mem (src * 256) (f.ncount.toNat * colWidth f.fmt.toNat)))
    ∧ (∀ (f : StreamFields) (w : WHold),
      let src := (tl.greg f.ga).toNat
      let n := f.count.toNat
      let rs := streamRanges f.fmt.toNat (fmtK w.fmt) n src (tl.greg f.gb).toNat
      arrayFmtOk f.fmt.toNat = true → tl.arr.wloadIssued = true → streamOperand tl.arr = some w →
      arrayPairOk w.fmt f.fmt.toNat = true → 0 < n → n ≤ 4096 → f.slot.toNat + ceilDiv n 32 ≤ 128 →
      (f.half = true → fmtBytes f.fmt.toNat (fmtK w.fmt) ≤ 128) →
      (selectedPass tl.integ.level (tl.integ.passes + 1) = true → partnerReady (s.envOf t) tl = true) →
      rangesFault tl rs = none → boardHolds tl rs = false →
      ∃ u o, exec (.stream t f) s = .next (s.setTile t u) ∧ kept u
        ∧ u.arr.queue = tl.arr.queue ++ [.stream o] ∧ u.integ.passes = tl.integ.passes + 1
        ∧ o.fmt = f.fmt.toNat ∧ o.accMode = f.acc ∧ o.slot = f.slot.toNat ∧ o.count = n ∧ o.next = 0 ∧ o.half = f.half
        ∧ o.w = w ∧ o.rows = piecesOf 256 n (Memory.readBytes tl.spad.mem (src * 256) (n * 256)))
    ∧ (∀ f : DrainFields,
      let rows := f.rows.toNat
      let cols := f.cols.toNat
      let dst := (tl.greg f.ga).toNat
      let dscale := (tl.greg (blockReg f.ga 1)).toNat
      let sb := (tl.greg (blockReg f.ga 2)).toNat
      let raddr := (tl.greg (blockReg f.ga 3)).toNat
      let rs := (if f.sbon then rangeOf sb 4 false else [])
        ++ drainRanges f.ofmt.toNat rows cols f.red.toNat dst dscale raddr
      f.ga.toNat + 5 ≤ 32 → f.ofmt.toNat ≤ 0xC → 0 < rows → rows ≤ 4096 → f.slot.toNat + ceilDiv rows 32 ≤ 128 →
      0 < cols → cols ≤ 128 → f.act.toNat ≤ 4 → (f.red.toNat = 2 → 0 < f.k.toNat ∧ f.k.toNat ≤ 16) →
      (f.half = true → fmtBytes f.ofmt.toNat cols ≤ 128) → (f.round = true → f.ofmt.toNat < 0xA) →
      rangesFault tl rs = none → boardHolds tl rs = false →
      ∃ u o, exec (.drain t f) s = .next (s.setTile t u) ∧ kept u
        ∧ u.arr.queue = tl.arr.queue ++ [.drain o] ∧ u.integ.passes = tl.integ.passes
        ∧ o.slot = f.slot.toNat ∧ o.rows = rows ∧ o.cols = cols ∧ o.next = 0 ∧ o.ofmt = f.ofmt.toNat ∧ o.act = f.act.toNat
        ∧ o.red = f.red.toNat ∧ o.dst = dst ∧ o.dscale = dscale ∧ o.raddr = raddr
        ∧ u.seq.srCount = (if f.round then tl.seq.srCount + BitVec.ofNat 64 rows else tl.seq.srCount))

/-- R75, R76, R79, R83, R89: the WLOADs before the oldest STREAM done, STREAM_ROW_WRITE writes the next row's sums
into its slot row, replacing it with INIT and adding with ACC, and every other accumulator element stays;
DRAIN_ROW_OUTPUT writes the next drained row's bytes, and every byte outside its writes and the whole accumulator
stay. Readings and choices of the model that it rests on: log entry 38. -/
def Obligations.ArrayRows : Prop :=
  ∀ (s : State) (t : Nat), s.live t →
    let tl := s.tile t
    (∀ before o after, splitStream (loadsDone tl).arr.queue = some (before, o, after) →
      drainBlocks before (o.slot + o.next / 32) = false →
      let row := o.rows.getD o.next []
      let sc := o.scales.getD o.next []
      let sums := passSums o.w o.fmt o.half row sc
      let key := accKey (o.slot + o.next / 32) (o.next % 32) 0
      (o.w.checked = true → checksumFails o.w o.fmt o.half row sc sums ≠ some true) →
      ∃ u, exec (.streamRowWrite t) s = .next (s.setTile t u)
        ∧ (∀ n, n < o.w.ncount → SMap.get 0 u.arr.acc (key + n) = BitVec.ofNat 32
            (if o.accMode then add32 (SMap.get 0 tl.arr.acc (key + n)).toNat (sums.getD n 0) else sums.getD n 0))
        ∧ (∀ k, k < key ∨ key + o.w.ncount ≤ k → SMap.get 0 u.arr.acc k = SMap.get 0 tl.arr.acc k)
        ∧ u.arr.queue = before ++ (if o.next + 1 < o.count then [.stream { o with next := o.next + 1 }] else []) ++ after
        ∧ u.seq = tl.seq ∧ u.spad = tl.spad ∧ u.chan = tl.chan ∧ u.arr.hold = (loadsDone tl).arr.hold)
    ∧ (∀ before o after, splitDrain tl.arr.queue = some (before, o, after) →
      streamBlocks before (o.slot + o.next / 32) = false → tl.spad.parityBad = [] →
      ∃ u, exec (.drainRowOutput t) s = .next (s.setTile t u)
        ∧ u.spad.mem = (tl.spad.putAll (drainWrites tl o).1).mem
        ∧ (∀ b, (∀ w ∈ (drainWrites tl o).1, b < w.1 ∨ w.1 + w.2.length ≤ b) →
            Memory.read u.spad.mem b = Memory.read tl.spad.mem b)
        ∧ (∃ left, u.arr.queue = before ++ left ++ after ∧ (left = [] ↔ o.rows ≤ o.next + 1))
        ∧ u.arr.acc = tl.arr.acc ∧ u.seq = tl.seq ∧ u.chan = tl.chan ∧ u.arr.hold = tl.arr.hold)

/-- From R304 to R308, R315: a selected pass whose digests are formed is copied to the check partner in WRITE packets
of the free class; with the whole copy in its check area and no STREAM or DRAIN before its next WLOAD, the partner
recomputes the pass, frees the area and answers the last packet with its verdict; a verdict that agrees ends the
check, one that disagrees makes the origin's open step due for replay, and a copy refused on its way counts as
UNCHECKED. Readings and choices of the model that it rests on: log entries 14, 46, 110. -/
def Obligations.CheckPasses : Prop :=
  ∀ (s : State) (t : Nat), s.live t →
    let tl := s.tile t
    let env := s.envOf t
    (∀ c, tl.integ.checks.find? (fun c => !c.copied && decide (c.job.digests.length = c.job.rows.length)) = some c →
      env.partnerFree = true → tl.integ.copyOut = [] →
      let ps := copyPackets env tl { c.job with origin := t }
      let cs := tl.integ.checks.map (fun d => if d.passNo = c.passNo then { d with copied := true } else d)
      let u := { tl with integ := { tl.integ with checks := cs, copyOut := ps } }
      exec (.checkCopy t) s = .next (s.runTile t (fun env _ => pumpAll env u))
        ∧ (∀ p ∈ ps, p.typ = 0x01 ∧ p.dsite = tl.integ.partner ∧ p.dport = 4 ∧ p.circ = false ∧ isCopy p = true
          ∧ p.payload.length ≤ 8192))
    ∧ (∀ c p, tl.integ.checkIn = some c → c.last = some p → c.whole = true → checkMayRun tl.arr.queue = true →
      tl.spad.parityBad = [] → p.payload.length ≤ 8192 →
      let j := checkJobOf tl
      let agree := (List.range j.rows.length).map (fun i =>
        rowDigest (passSums j.w j.fmt j.half (j.rows.getD i []) (j.scales.getD i []))) = j.digests
      let freed := s.setTile t { tl with integ := { tl.integ with checkIn := none } }
      ∃ a : Packet, a.typ = 0x06 ∧ a.nack = false ∧ a.dsite = p.ssite ∧ a.seq = p.seq ∧ a.last = p.last
        ∧ (agree → exec (.checkPass t) s = .next (freed.inject t 4 a) ∧ bitOf a.aux.toNat 31 = false)
        ∧ (¬agree → bitOf a.aux.toNat 31 = true ∧ exec (.checkPass t) s = .next ((freed.inject t 4 a).logFault
            { tileNote env tl 0 0x0103 (some t) 0 0 with site := some p.ssite.toNat })))
    ∧ (∀ (p : Packet) before o after n, s.siteGood t = true → p.dport = 4 → p.circ = false → p.typ = 0x06 →
      s.partOfSite t = some p.part.toNat → s.onTiles p.part.toNat = some p.ctx.toNat → tl.ctx ≠ none →
      tl.outst = before ++ o :: after → (∀ x ∈ before, answers p x = false) → answers p o = true → o.use = .copy n →
      tl.moveQ = [] → tl.chan.misses = [] → tl.integ.checks.any (fun c => decide (c.passNo = n)) = true →
      s.faults.unhandled < 64 →
      let left := tl.integ.checks.filter (fun c => decide (c.passNo ≠ n))
      (p.nack = false → o.pkt.last = true → tl.integ.copyOut = [] → bitOf p.aux.toNat 31 = false →
        ∃ s', exec (.ack t p) s = .next s' ∧ (s'.tile t).integ.checks = left ∧ (s'.tile t).outst = before ++ after
          ∧ (s'.tile t).integ.replayPending = tl.integ.replayPending ∧ (s'.tile t).seq = tl.seq)
      ∧ (p.nack = false → o.pkt.last = true → tl.integ.copyOut = [] → bitOf p.aux.toNat 31 = true →
        tl.seq.mode = .running → tl.integ.replayPending = none → replayReason tl = 0 →
        ∃ s', exec (.ack t p) s = .next s' ∧ (s'.tile t).integ.checks = left ∧ (s'.tile t).outst = before ++ after
          ∧ (s'.tile t).integ.replayPending = some 2)
      ∧ (p.nack = true →
        ∃ s', exec (.ack t p) s = .next s' ∧ (s'.tile t).integ.checks = left ∧ (s'.tile t).outst = before ++ after
          ∧ (s'.tile t).integ.copyOut = [] ∧ (s'.tile t).integ.unchecked = bump8 tl.integ.unchecked))

/-- From R132, R149 to R156: a VEC of every operation, its fields, ranges and the scoreboard passing and fewer than
four VECs before it, joins the vector engine's queue, writes exactly its destination and scale rows and goes on; every
other byte of the scratchpad, the accumulator, the registers and the counters stay. Readings and choices of the model
that it rests on: log entries 11, 15, 16, 17, 48, 107, 109. -/
def Obligations.VectorInstructions : Prop :=
  ∀ (s : State) (t : Nat) (f : VecFields), s.issues t 8 → (s.tile t).sound → f.ga.toNat + 4 ≤ 32 →
    (s.tile t).vecQ.length < 4 →
    let tl := s.tile t
    let a := vecArgs tl f.ga
    let done (op : VecOp) (c : Instr) : Prop :=
      vecRefusal op f a = 0 → rangesFault tl (vecRanges op f a) = none → boardHolds tl (vecRanges op f a) = false →
      ∃ u, exec c s = .next (s.setTile t u)
        ∧ u.spad.mem = (tl.spad.putAll (vecWrites op tl f a)).mem
        ∧ (∀ b, (∀ w ∈ vecWrites op tl f a, b < w.1 ∨ w.1 + w.2.length ≤ b) →
            Memory.read u.spad.mem b = Memory.read tl.spad.mem b)
        ∧ u.seq.pc = tl.seq.pc + 8 ∧ u.seq.mode = tl.seq.mode ∧ u.seq.gregs = tl.seq.gregs ∧ u.seq.hbank = tl.seq.hbank
        ∧ u.seq.comps = tl.seq.comps ∧ u.arr = tl.arr ∧ u.chan = tl.chan ∧ u.moveQ = tl.moveQ
        ∧ u.vecQ = tl.vecQ ++ [vecRanges op f a]
    done .movb (.vecMovb t f) ∧ done .cvt (.vecCvt t f) ∧ done .add (.vecAdd t f) ∧ done .sub (.vecSub t f)
    ∧ done .mul (.vecMul t f) ∧ done .fma (.vecFma t f) ∧ done .max_ (.vecMax t f) ∧ done .min_ (.vecMin t f)
    ∧ done .abs (.vecAbs t f) ∧ done .neg (.vecNeg t f) ∧ done .exp2 (.vecExp2 t f) ∧ done .log2 (.vecLog2 t f)
    ∧ done .rsqrt (.vecRsqrt t f) ∧ done .recip (.vecRecip t f) ∧ done .exp (.vecExp t f) ∧ done .rsum (.vecRsum t f)
    ∧ done .rmax (.vecRmax t f) ∧ done .rmin (.vecRmin t f) ∧ done .rsumsq (.vecRsumsq t f)

/-- From R157 to R160, R185, R187, R192, R195: a MOVE on an idle move engine, to a routable destination, with room for
its packets and no other packet of the tile waiting, injects them all. A push sends the rows' bytes in order as row
packets; a fetch sends READs for all the rows and waits for them. Each packet is outstanding. While a STOP holds the
tile, the packets wait and none leaves. Readings and choices of the model that it rests on: log entries 42, 43, 110.
-/
def Obligations.Moves : Prop :=
  ∀ (s : State) (t : Nat) (f : MoveFields), s.issues t 8 → (s.tile t).sound →
    let tl := s.tile t
    let row := (tl.greg f.ga).toNat
    let rem := (tl.greg (blockReg f.ga 1)).toNat
    let rows := (tl.greg (blockReg f.ga 2)).toNat
    let fab := bitOf rem 63
    let d : MoveDest := ⟨fab, BitVec.ofNat 15 (bitsOf rem 48 15), remoteOf (rem % 2 ^ 48)⟩
    let hbm := decide (rem % 2 ^ 48 < 0x024000000000)
    let cuts := cutRows hbm (rows + 1) (rem % 2 ^ 48) rows
    let kept (u : Tile) : Prop := u.seq.pc = tl.seq.pc + 8 ∧ u.seq.mode = tl.seq.mode ∧ u.seq.gregs = tl.seq.gregs
      ∧ u.seq.comps = tl.seq.comps ∧ u.spad.mem = tl.spad.mem ∧ u.arr = tl.arr ∧ u.chan = tl.chan
      ∧ u.integ.outside = true
    tl.moveQ = [] → tl.integ.copyOut = [] → tl.chan.misses = [] → f.ga.toNat + 3 ≤ 32 → f.red ≠ 3 → 0 < rows →
    rows ≤ 65536 → d.remote ≠ .bad →
    (fab = false → bitsOf rem 48 15 = 0) → (f.cola = true → walkCrosses row f.word.toNat rows = false) →
    (tl.stopped = none → tl.outst.length + cuts.length ≤ 64 →
      (∀ n k, s.routable t ((if fab then s.exitSite t d.fdest k else none).getD ((destFields (s.envOf t) d n).1 % 512)) = true) →
      ((f.red ≠ 0 → hbm = false) →
        rangesFault tl (localRange f.cola row f.word.toNat rows false) = none →
        boardHolds tl (localRange f.cola row f.word.toNat rows false) = false →
        ∃ (u : Tile) (ps : List Packet), exec (.movePush t f) s = .next (ps.foldl (fun x p => x.inject t 4 p) (s.setTile t u)) ∧ kept u
          ∧ ps.length = cuts.length ∧ u.moveQ = [] ∧ u.outst.length = tl.outst.length + ps.length
          ∧ ps.flatMap (·.payload) = readSpans tl.spad ((List.range rows).flatMap (accessSpans f.cola row f.word.toNat))
          ∧ (∀ p ∈ ps, p.typ = typeOfRed f.red.toNat ∧ p.scc = f.lcc ∧ p.fab = fab ∧ p.fdest = d.fdest
              ∧ p.ssite = BitVec.ofNat 9 t ∧ p.part = (s.envOf t).part))
      ∧ (rangesFault tl (localRange f.cola row f.word.toNat rows true) = none →
        boardHolds tl (localRange f.cola row f.word.toNat rows true) = false →
        ∃ (u : Tile) (ps : List Packet) (m : MoveOp), exec (.moveFetch t f) s = .next (ps.foldl (fun x p => x.inject t 4 p) (s.setTile t u)) ∧ kept u
          ∧ ps.length = cuts.length ∧ u.moveQ = [m] ∧ m.rowsDue = rows ∧ m.waiting = [] ∧ m.fetch = true
          ∧ u.outst.length = tl.outst.length + ps.length
          ∧ (∀ p ∈ ps, p.typ = 0x04 ∧ p.payload = [] ∧ p.scc = f.lcc ∧ p.fab = fab ∧ p.fdest = d.fdest
              ∧ p.ssite = BitVec.ofNat 9 t ∧ p.part = (s.envOf t).part)))
    ∧ (∀ a, tl.stopped = some a → (f.red ≠ 0 → hbm = false) →
        rangesFault tl (localRange f.cola row f.word.toNat rows false) = none →
        boardHolds tl (localRange f.cola row f.word.toNat rows false) = false →
        ∃ u m, exec (.movePush t f) s = .next (s.setTile t u) ∧ kept u ∧ u.moveQ = [m] ∧ u.outst = tl.outst
          ∧ m.waiting.length = cuts.length)

/-- From R157, R206: a MOVEC through a circuit entry that the running context may enter at its tile sends its rows
into the circuit in order, adds them to COUNT of its counter at once, and has nothing outstanding. Readings and
choices of the model that it rests on: log entry 49. -/
def Obligations.CircuitMoves : Prop :=
  ∀ (s : State) (f : MovecFields) (t : Nat), s.issues t 8 → (s.tile t).sound →
    let tl := s.tile t
    let row := (tl.greg f.ga).toNat
    let rows := (tl.greg (blockReg f.ga 2)).toNat
    tl.moveQ = [] → tl.integ.copyOut = [] → tl.chan.misses = [] → tl.stopped = none → f.ga.toNat + 3 ≤ 32 → f.red ≠ 3 →
    0 < rows → rows ≤ 65536 →
    circuitUsable (s.envOf t) tl f.circ.toNat = true →
    (f.cola = true → walkCrosses row f.word.toNat rows = false) →
    rangesFault tl (localRange f.cola row f.word.toNat rows false) = none →
    boardHolds tl (localRange f.cola row f.word.toNat rows false) = false →
    ∃ (u : Tile) (ps : List Packet), exec (.movec t f) s = .next (ps.foldl (fun x p => x.enterCircuit t f.circ.toNat p) (s.setTile t u))
      ∧ ps.length = ceilDiv rows 32
      ∧ ps.flatMap (·.payload) = readSpans tl.spad ((List.range rows).flatMap (accessSpans f.cola row f.word.toNat))
      ∧ (∀ p ∈ ps, p.circ = true ∧ p.dcc = f.dcc ∧ p.dsite = 0x1FF)
      ∧ u.moveQ = [] ∧ u.outst = tl.outst ∧ u.spad.mem = tl.spad.mem ∧ u.seq.pc = tl.seq.pc + 8
      ∧ u.seq.gregs = tl.seq.gregs ∧ u.arr = tl.arr ∧ u.chan = tl.chan
      ∧ (u.comp f.lcc.toNat).count = (tl.comp f.lcc.toNat).count + BitVec.ofNat 32 rows
      ∧ (u.comp f.lcc.toNat).failed = (tl.comp f.lcc.toNat).failed
      ∧ (∀ n, n ≠ f.lcc.toNat → u.comp n = tl.comp n)

/-- From R195, R196, R232, R237, R246, R308: timeouts. The oldest outstanding packet whose timeout has run, in the
tile's active cycles, is finished: the rows of a move's packet join FAILED of its counter, which saturates at 0xFFFF;
the pass of a check copy's packet stays unchecked, and the rest of its copy is not sent; no byte or register changes.
LOST gives up the oldest outstanding message of a stream whose timeout has run: its slots come back and its failure is
counted at the counter that its entry named when it was accepted. GAP_SKIPPED moves the expected number on to the held
message, which enters its queue. Readings and choices of the model that it rests on: log entries 10, 47. -/
def Obligations.Timeouts : Prop :=
  (∀ (s : State) (t : Nat) (before after : List Outstanding) (o : Outstanding), s.live t →
    let tl := s.tile t
    tl.outst = before ++ o :: after → (∀ x ∈ before, (tl.seq.activeCycles - x.sentAt).toNat < 2 ^ x.timeout) →
    2 ^ o.timeout ≤ (tl.seq.activeCycles - o.sentAt).toNat → tl.moveQ = [] → tl.chan.misses = [] →
    (o.use = .move → tl.integ.copyOut = [] → ∃ u, exec (.ackTimeout t) s = .next (s.setTile t u) ∧ u.outst = before ++ after
      ∧ (u.comp o.pkt.scc.toNat).failed.toNat = min ((tl.comp o.pkt.scc.toNat).failed.toNat + o.rows) 0xFFFF
      ∧ (u.comp o.pkt.scc.toNat).count = (tl.comp o.pkt.scc.toNat).count
      ∧ (∀ n, n ≠ o.pkt.scc.toNat → u.comp n = tl.comp n)
      ∧ u.seq.gregs = tl.seq.gregs ∧ u.seq.pc = tl.seq.pc ∧ u.spad = tl.spad ∧ u.arr = tl.arr ∧ u.chan = tl.chan)
    ∧ (∀ n, o.use = .copy n → tl.integ.checks.any (fun c => decide (c.passNo = n)) = true →
      ∃ u, exec (.ackTimeout t) s = .next (s.setTile t u) ∧ u.outst = before ++ after
        ∧ u.integ.checks = tl.integ.checks.filter (fun c => decide (c.passNo ≠ n)) ∧ u.integ.copyOut = []
        ∧ u.integ.unchecked = bump8 tl.integ.unchecked ∧ u.seq = tl.seq ∧ u.spad = tl.spad ∧ u.arr = tl.arr ∧ u.chan = tl.chan))
  ∧ (∀ (s : State) (t : Nat) (chan : Nat), s.live t → chan < 65536 →
    let tl := s.tile t
    let c : BitVec 16 := BitVec.ofNat 16 chan
    (∀ m rest, tl.chan.cur = none → tl.chan.misses = [] → (tl.chan.stream chan).out = m :: rest →
      2 ^ m.timeout ≤ (tl.seq.activeCycles - m.sentAt).toNat →
      ∃ u, exec (.lost t chan) s = .next (s.setTile t u) ∧ (u.chan.stream chan).out = rest
        ∧ (u.chan.stream chan).next = (tl.chan.stream chan).next ∧ u.chan.lost = bump8 tl.chan.lost
        ∧ (∀ n, m.scc = some n → (u.comp n.toNat).failed.toNat = min ((tl.comp n.toNat).failed.toNat + 1) 0xFFFF)
        ∧ (m.scc = none → u.seq.comps = tl.seq.comps)
        ∧ u.seq.gregs = tl.seq.gregs ∧ u.spad = tl.spad ∧ u.chan.queues = tl.chan.queues)
    ∧ (∀ (e : ChEntry) (h : HeldMsg) (sender : Nat), tl.chan.entry c = some e → tl.chan.window = [h] →
      h.pkt.aux.setWidth 16 = c →
      h.pkt.ssite = BitVec.ofNat 9 sender → 2 ^ h.timeout ≤ (tl.seq.activeCycles - h.since).toNat →
      (tl.chan.queue e.rqueue.toNat).used + slotsOf h.pkt.payload.length ≤ 32 → s.faults.unhandled < 64 →
      ∃ s', exec (.gapSkipped t chan sender) s = .next s' ∧
        let u := s'.tile t
        u.chan.window = [] ∧ u.chan.gaps = bump8 tl.chan.gaps ∧ u.chan.received = tl.chan.received + 1
        ∧ (u.chan.queue e.rqueue.toNat).msgs = (tl.chan.queue e.rqueue.toNat).msgs
            ++ [QMsg.mk c h.pkt.ssite h.pkt.seq h.pkt.payload.length (slotsOf h.pkt.payload.length)]
        ∧ SMap.get 0 u.chan.expected (streamKey c h.pkt.ssite) = h.pkt.seq + 1))

/-- From R161, R162, R216, R223 to R229, R243: a SEND that passes every check and finds its credits is accepted: the
stream's next sequence number is used, its slots are outstanding, SENT grows, and one MESSAGE packet with the bytes
leaves, of the control class on a CTRL channel, into its circuit on a multicast one; the sequencer waits for the
outcome 0x00. Without the credits it waits with nothing sent, in the wait slot when it may yield; without its entry it
asks for it. PARKED_SEND_ACCEPT accepts a parked one in the same way; FULL_TIMEOUT ends one whose timer has run out
with 0x0E; SEND_OUTCOME writes the outcome to gd and moves pc past the SEND. Readings and choices of the model that it
rests on: log entries 42, 47, 110. -/
def Obligations.Sends : Prop :=
  ∀ (s : State) (t : Nat) (e : ChEntry), (s.tile t).sound →
    let tl := s.tile t
    let env := s.envOf t
    let admits (chan : BitVec 16) (len : Nat) : Prop := chan.toNat < env.chCount ∧ tl.chan.entry chan = some e
      ∧ e.part = env.part ∧ some e.ctx = tl.ctx ∧ isSender env.placement e t = true ∧ len ≤ e.maxlen.toNat ∧ e.state = 1
    let goes (c : Instr) (sc : SendCur) : Prop := ∃ (u : Tile) (p : Packet),
      exec c s = .next (if e.kind = 2 then (s.setTile t u).enterCircuit t e.circ.toNat p
        else (s.setTile t u).inject t 4 p)
      ∧ p.typ = 0x07 ∧ p.circ = decide (e.kind = 2) ∧ p.ctrl = (e.ctrl && decide (e.kind ≠ 2)) ∧ p.seq = (tl.chan.stream sc.chan.toNat).next ∧ p.aux = sc.chan.setWidth 32
      ∧ p.payload = Memory.readBytes tl.spad.mem (sc.row * 256) sc.len
      ∧ u.chan.stream sc.chan.toNat = ⟨(tl.chan.stream sc.chan.toNat).next + 1, (tl.chan.stream sc.chan.toNat).out
          ++ [OutMsg.mk (tl.chan.stream sc.chan.toNat).next (slotsOf sc.len) tl.seq.activeCycles env.ackTimeout []
            (if e.kind = 2 then e.fanout.toNat else 1) (if e.sccEn then some e.scc else none)]⟩
      ∧ u.chan.sent = tl.chan.sent + 1 ∧ u.chan.cur = some { sc with phase := .done 0 } ∧ u.chan.parked = none
      ∧ u.chan.queues = tl.chan.queues ∧ u.spad.mem = tl.spad.mem ∧ u.arr = tl.arr ∧ u.seq.gregs = tl.seq.gregs
      ∧ u.seq.pc = tl.seq.pc
    (∀ f : SendFields, s.issues t 8 →
      let chan : BitVec 16 := (tl.greg f.ga).setWidth 16
      let row := (tl.greg f.gb).toNat
      let sc : SendCur := ⟨f.gd, tl.seq.handler, chan, row, f.len.toNat, f.ny, .credits, tl.seq.activeCycles, 0, 0⟩
      0 < f.len.toNat → f.len.toNat ≤ 1024 → tl.chan.cur = none → tl.chan.parked = none →
      rangesFault tl (rangeOf row (ceilDiv f.len.toNat 256) false) = none →
      boardHolds tl (rangeOf row (ceilDiv f.len.toNat 256) false) = false →
      (admits chan f.len.toNat → (tl.chan.stream chan.toNat).slots + slotsOf f.len.toNat ≤ e.credits.toNat →
        tl.stopped = none → goes (.send t f) sc)
      ∧ (chan.toNat < env.chCount → tl.chan.entry chan = none → tl.chan.misses = [] → tl.stopped = none →
        tl.outst = [] → (∀ n, s.routable t n = true) → tl.chan.hasLine = true →
        ∃ (u : Tile) (p : Packet), exec (.send t f) s = .next ((s.setTile t u).inject t 4 p) ∧ p.typ = 0x04
          ∧ p.addr = BitVec.ofNat 48 (env.chBase + 64 * chan.toNat) ∧ p.len = 64 ∧ u.chan.misses = [chan]
          ∧ u.chan.cur = some { sc with phase := .miss } ∧ u.chan.streams = tl.chan.streams ∧ u.outst.length = 1
          ∧ u.spad.mem = tl.spad.mem ∧ u.seq.pc = tl.seq.pc ∧ u.seq.gregs = tl.seq.gregs)
      ∧ (admits chan f.len.toNat → e.credits.toNat < (tl.chan.stream chan.toNat).slots + slotsOf f.len.toNat →
        ∃ u, exec (.send t f) s = .next (s.setTile t u) ∧ u.chan.streams = tl.chan.streams ∧ u.chan.sent = tl.chan.sent
          ∧ (if !f.ny && !tl.seq.handler then u.chan.parked = some sc ∧ u.chan.cur = none
             else u.chan.cur = some sc ∧ u.chan.parked = none)
          ∧ u.seq.pc = tl.seq.pc ∧ u.seq.gregs = tl.seq.gregs ∧ u.spad.mem = tl.spad.mem))
    ∧ (∀ sc : SendCur, s.live t →
      (tl.chan.parked = some sc → tl.chan.cur = none → tl.seq.handler = false → sc.phase = .credits →
        admits sc.chan sc.len → (tl.chan.stream sc.chan.toNat).slots + slotsOf sc.len ≤ e.credits.toNat →
        tl.stopped = none → goes (.parkedSendAccept t) sc)
      ∧ (tl.chan.cur = some sc → sendExpired tl sc = true →
        ∃ u, exec (.fullTimeout t) s = .next (s.setTile t u) ∧ u.chan.cur = some { sc with phase := .done 0x0E }
          ∧ u.chan.timeouts = bump8 tl.chan.timeouts ∧ u.chan.streams = tl.chan.streams ∧ u.seq = tl.seq
          ∧ u.spad = tl.spad)
      ∧ (∀ code, tl.chan.cur = some sc → sc.phase = .done code → sc.fromHandler = tl.seq.handler →
        waitsAtSend tl = true →
        ∃ u, exec (.sendOutcome t) s = .next (s.setTile t u) ∧ u.chan.cur = none ∧ u.seq.pc = tl.seq.pc + 8
          ∧ u.seq.gregs = (tl.seq.setGreg sc.gd (BitVec.ofNat 64 code)).gregs
          ∧ u.seq.hbank = (tl.seq.setGreg sc.gd (BitVec.ofNat 64 code)).hbank ∧ u.spad = tl.spad ∧ u.arr = tl.arr))

/-- From R161, R163, R229, R236, R239: RECV takes the head message of its queue: the bytes go to the rows named by gb
unless it discards them, gd receives bit 63, sender, channel and length, the slots are freed and one CREDIT goes to
the sender. On an empty queue it writes zero, or waits; RECV_WAIT_END is the same taking once a message is there.
Readings and choices of the model that it rests on: log entry 13. -/
def Obligations.Receives : Prop :=
  ∀ (s : State) (t : Nat) (f : RecvFields) (h : Held),
    let tl := s.tile t
    let q := (tl.greg f.ga).toNat % 16
    let row := (tl.greg f.gb).toNat
    let takes (c : Instr) (m : QMsg) (ms : List QMsg) : Prop :=
      let res : Word := BitVec.ofNat 64 (2 ^ 63 + m.sender.toNat * 2 ^ 48 + m.chan.toNat * 2 ^ 32 + m.len)
      ∃ u, exec c s = .next ((s.setTile t u).inject t 4 (creditPacket (s.envOf t) tl m.sender m.seq m.chan m.slots false))
        ∧ u.seq.pc = tl.seq.pc + 4 ∧ u.seq.gregs = (tl.seq.setGreg f.gd res).gregs
        ∧ u.seq.hbank = (tl.seq.setGreg f.gd res).hbank
        ∧ u.chan.queue q = ⟨((tl.chan.queue q).head + m.slots) % 32, ms⟩
        ∧ u.spad.mem = (if f.discard then tl.spad.mem
            else Memory.writeBytes tl.spad.mem (row * 256) (queueBytes tl q (tl.chan.queue q).head m.len))
        ∧ u.arr = tl.arr ∧ u.moveQ = tl.moveQ ∧ u.seq.comps = tl.seq.comps ∧ u.chan.streams = tl.chan.streams
    let clear : Prop := (tl.seq.handler = false → bitOf tl.seq.handlerMask.toNat q = false)
      ∧ rangesFault tl (if f.discard then [] else rangeOf row 4 true) = none
      ∧ boardHolds tl (if f.discard then [] else rangeOf row 4 true) = false ∧ tl.chan.cur = none
      ∧ tl.spad.parityBad = []
    (s.issues t 4 → clear →
      (∀ m ms, (tl.chan.queue q).msgs = m :: ms → takes (.recv t f) m ms)
      ∧ ((tl.chan.queue q).msgs = [] → f.wait = false → exec (.recv t f) s = .next (s.wrote t f.gd 0 4))
      ∧ ((tl.chan.queue q).msgs = [] → f.wait = true → exec (.recv t f) s = .next (s.setTile t (settlePause
          { tl with seq := { tl.seq with cur := some ⟨.recv f, .recv, 0⟩ } }))))
    ∧ (s.waitsAt t h → h.ins = .recv f → clear →
      ∀ m ms, (tl.chan.queue q).msgs = m :: ms → takes (.recvWaitEnd t) m ms)

/-- From R195, R209, R228, R243: STOP makes the engines stop injecting and RESUME lets them go on, an accepted SEND
held by the stop leaving first; the two are taken in the order in which they came. The READ_DATA of a channel entry
that was asked for brings the entry into the cache; a read refused or without an answer for its timeout ends FAULTED.
Readings and choices of the model that it rests on: log entries 47, 69, 110, 111. -/
def Obligations.StopsAndEntries : Prop :=
  ∀ (s : State) (t : Nat), s.live t →
    let tl := s.tile t
    let idle : Prop := tl.moveQ = [] ∧ tl.integ.copyOut = [] ∧ tl.chan.misses = []
    (tl.stopped = none → s.orderBlocked t 0x20 = false → ∃ s', exec (.stop t) s = .next s'
      ∧ s'.tile t = { tl with stopped := some tl.seq.activeCycles } ∧ s'.hbm = s.hbm ∧ s'.faults = s.faults)
    ∧ (s.orderBlocked t 0x20 = true → exec (.stop t) s = .next s)
    ∧ (∀ a, tl.stopped = some a → idle → s.orderBlocked t 0x21 = false →
      (tl.chan.cur = none → ∃ s', exec (.resumePacket t) s = .next s' ∧ (s'.tile t).stopped = none
        ∧ (s'.tile t).seq = tl.seq ∧ (s'.tile t).spad = tl.spad ∧ s'.hbm = s.hbm)
      ∧ (∀ sc p, tl.chan.cur = some sc → sc.phase = .injecting p → p.circ = false →
        (tl.seq.handler = false ∨ sc.yields = false) →
        ∃ s' u, exec (.resumePacket t) s = .next (State.inject s' t 4 p) ∧ s'.tile t = u ∧ u.stopped = none
          ∧ u.chan.cur.map (·.phase) = some (.done 0) ∧ u.chan.streams = tl.chan.streams ∧ u.spad = tl.spad))
    ∧ (∀ (p : Packet) before o after chan, s.siteGood t = true → p.typ = 0x05 → p.dport = 4 →
      s.partOfSite t = some p.part.toNat → s.onTiles p.part.toNat = some p.ctx.toNat → tl.ctx ≠ none →
      tl.outst = before ++ o :: after → (∀ x ∈ before, answers p x = false) → answers p o = true →
      o.use = .entry chan → tl.chan.misses = [chan] → tl.integ.copyOut = [] → tl.moveQ = [] →
      tl.chan.cur = none → tl.chan.parked = none → tl.chan.waiting = [] → tl.seq.dispatching = none →
      (s.entryAnswer t chan = some p → exec (.channelEntryRead t chan.toNat) s = exec (.readData t p) s)
      ∧ (p.nack = false → rowPacketOk p = true → (parseEntry p.payload).good = true → tl.chan.cache.length < 64 →
        ∃ u, exec (.readData t p) s = .next ((s.takeFlight p (.dest t 4)).setTile t u)
          ∧ u.chan.entry chan = some (parseEntry p.payload) ∧ u.chan.misses = [] ∧ u.outst = before ++ after
          ∧ u.seq.gregs = tl.seq.gregs ∧ u.seq.pc = tl.seq.pc ∧ u.spad = tl.spad ∧ u.chan.queues = tl.chan.queues
          ∧ u.chan.streams = tl.chan.streams)
      ∧ (p.nack = true → ∃ u, exec (.readData t p) s = .next ((s.takeFlight p (.dest t 4)).setTile t u)
          ∧ u.chan.cache = tl.chan.cache ∧ u.chan.entryBad = true ∧ u.chan.misses = [] ∧ u.outst = before ++ after
          ∧ u.spad = tl.spad))
    ∧ (∀ before o after chan, chan < 65536 → tl.outst = before ++ o :: after → (∀ x ∈ before, x.use ≠ o.use) →
      o.use = .entry (BitVec.ofNat 16 chan) → tl.chan.misses = [BitVec.ofNat 16 chan] → tl.integ.copyOut = [] →
      tl.moveQ = [] → tl.chan.waiting = [] → 2 ^ o.timeout ≤ (tl.seq.activeCycles - o.sentAt).toNat →
      (∀ f ∈ s.net.inFlight, f.place ≠ .dest t 4) →
      ∃ u, exec (.channelEntryRead t chan) s = .next (s.setTile t u)
        ∧ u.chan.cur = failSend (BitVec.ofNat 16 chan) tl.chan.cur
        ∧ u.chan.parked = failSend (BitVec.ofNat 16 chan) tl.chan.parked ∧ u.chan.entryBad = true
        ∧ u.chan.misses = [] ∧ u.outst = before ++ after ∧ u.spad = tl.spad)

/-- From R194, R195, R206, R225, R230, R231, R236, R294, R297, R310: packets of the running context that a tile takes.
WRITE writes its rows, WRITE_ADD32 and WRITE_ADD16 add theirs in place, each counts them at DCC and is acknowledged;
READ is answered with the rows' bytes; READ_DATA writes a fetch's rows and ACK counts a push's, the packet being
outstanding no more; a MESSAGE in turn joins its queue; a CREDIT returns a message's slots. Each tile row names what
stays. Readings and choices of the model that it rests on: log entries 44, 45, 46. -/
def Obligations.PacketsAtTile : Prop :=
  ∀ (s : State) (t : Nat) (p : Packet), s.live t → s.siteGood t = true → p.dport = 4 → p.circ = false →
    let tl := s.tile t
    let env := s.envOf t
    let s0 := s.takeFlight p (.dest t 4)
    let rows := p.payload.length / 256
    let old := Memory.readBytes tl.spad.mem (p.addr.toNat * 256) p.payload.length
    let counted (u : Tile) : Prop := (u.comp p.dcc.toNat).count = (tl.comp p.dcc.toNat).count + BitVec.ofNat 32 rows
      ∧ (u.comp p.dcc.toNat).failed = (tl.comp p.dcc.toNat).failed ∧ (∀ n, n ≠ p.dcc.toNat → u.comp n = tl.comp n)
    let kept (u : Tile) : Prop := u.seq.gregs = tl.seq.gregs ∧ u.seq.pc = tl.seq.pc ∧ u.seq.mode = tl.seq.mode
      ∧ u.arr = tl.arr
    let acked (c : Instr) (q : Tile → Prop) : Prop := ∃ (u : Tile) (a : Packet),
      exec c s = .next ((s0.setTile t u).inject t 4 a) ∧ a.typ = 0x06 ∧ a.nack = false ∧ a.seq = p.seq ∧ a.dcc = p.scc
        ∧ a.dsite = p.ssite ∧ a.aux = BitVec.ofNat 32 rows ∧ counted u ∧ kept u ∧ u.chan = tl.chan
        ∧ u.outst = tl.outst ∧ q u
    s.partOfSite t = some p.part.toNat → s.onTiles p.part.toNat = some p.ctx.toNat → tl.ctx ≠ none →
    (inboundClosed tl p.addr.toNat rows = 0 → rowPacketOk p = true →
      (p.typ = 0x01 → bitOf p.aux.toNat 31 = false → acked (.write t p) (fun u =>
        u.spad.mem = Memory.writeBytes tl.spad.mem (p.addr.toNat * 256) p.payload))
      ∧ (p.typ = 0x02 → tl.spad.parityBad = [] → trailerParityMode p.trailer = false →
        tallyFails 1 p.trailer old p.payload (addElems 1 old p.payload) = some false →
        acked (.writeAdd32 t p) (fun u =>
          u.spad.mem = Memory.writeBytes tl.spad.mem (p.addr.toNat * 256) (addElems 1 old p.payload)))
      ∧ (p.typ = 0x03 → tl.spad.parityBad = [] → trailerParityMode p.trailer = false →
        tallyFails 2 p.trailer old p.payload (addElems 2 old p.payload) = some false →
        acked (.writeAdd16 t p) (fun u =>
          u.spad.mem = Memory.writeBytes tl.spad.mem (p.addr.toNat * 256) (addElems 2 old p.payload))))
    ∧ (p.typ = 0x04 → tl.sound → p.addr.toNat + p.len.toNat / 256 ≤ 458752 → 0 < p.len.toNat / 256 →
      firstRowWith (otherCtxRow tl) p.addr.toNat (p.addr.toNat + p.len.toNat / 256 - 1) = none →
      ∃ (u : Tile) (a : Packet), exec (.read t p) s = .next ((s0.setTile t u).inject t 4 a) ∧ a.typ = 0x05
        ∧ a.nack = false ∧ a.seq = p.seq ∧ a.dcc = p.scc ∧ a.dsite = p.ssite ∧ a.aux = p.aux
        ∧ a.payload = readSpans tl.spad ((List.range (p.len.toNat / 256)).map (fun i => ((p.addr.toNat + i) * 256, 256)))
        ∧ u.seq = tl.seq ∧ u.spad = tl.spad ∧ u.arr = tl.arr ∧ u.chan = tl.chan ∧ u.outst = tl.outst)
    ∧ (∀ before o after, tl.outst = before ++ o :: after → (∀ x ∈ before, answers p x = false) → answers p o = true →
      p.nack = false → o.use = .move → tl.integ.copyOut = [] → tl.chan.misses = [] →
      (p.typ = 0x06 → tl.moveQ = [] → ∃ u, exec (.ack t p) s = .next (s0.setTile t u) ∧ u.outst = before ++ after
        ∧ (u.comp p.dcc.toNat).count = (tl.comp p.dcc.toNat).count + BitVec.ofNat 32 p.aux.toNat
        ∧ (u.comp p.dcc.toNat).failed = (tl.comp p.dcc.toNat).failed ∧ (∀ n, n ≠ p.dcc.toNat → u.comp n = tl.comp n)
        ∧ kept u ∧ u.spad = tl.spad ∧ u.chan = tl.chan)
      ∧ (∀ m, p.typ = 0x05 → rowPacketOk p = true → tl.moveQ = [m] → m.fetch = true → m.waiting = [] →
        m.ident = o.ident → tl.spad.parityBad = [] →
        ∃ u, exec (.readData t p) s = .next (s0.setTile t u) ∧ u.outst = before ++ after ∧ counted u ∧ kept u
          ∧ u.spad.mem = (tl.spad.putAll (fetchWrites m tl (o.pkt.aux.toNat - m.localRow) p.payload)).mem
          ∧ (m.rowsDue ≤ rows → u.moveQ = [])
          ∧ (rows < m.rowsDue → u.moveQ = [{ m with rowsDue := m.rowsDue - rows }]) ∧ u.chan = tl.chan))
    ∧ (∀ e : ChEntry, p.typ = 0x07 → messageOk env.parityMode p = true →
      tl.chan.entry (p.aux.setWidth 16) = some e → versionNewer (BitVec.ofNat 16 (bitsOf p.addr.toNat 4 16)) e.version = false →
      entryAdmits env tl e p = true → p.seq = SMap.get 0 tl.chan.expected (streamKey (p.aux.setWidth 16) p.ssite) →
      tl.chan.window = [] → (tl.chan.queue e.rqueue.toNat).used + slotsOf p.payload.length ≤ 32 →
      ∃ u, exec (.message t p) s = .next (s0.setTile t u)
        ∧ u.chan.queue e.rqueue.toNat = ⟨(tl.chan.queue e.rqueue.toNat).head, (tl.chan.queue e.rqueue.toNat).msgs
            ++ [QMsg.mk (p.aux.setWidth 16) p.ssite p.seq p.payload.length (slotsOf p.payload.length)]⟩
        ∧ u.chan.received = tl.chan.received + 1 ∧ u.chan.streams = tl.chan.streams ∧ kept u
        ∧ SMap.get 0 u.chan.expected (streamKey (p.aux.setWidth 16) p.ssite) = p.seq + 1)
    ∧ (∀ before m after, p.typ = 0x08 →
      (tl.chan.stream (p.aux.setWidth 16 : BitVec 16).toNat).out = before ++ m :: after →
      (∀ x ∈ before, x.seq ≠ p.seq) → m.seq = p.seq → m.fanout ≤ 1 →
      tl.chan.cur = none → tl.chan.misses = [] → bitOf p.aux.toNat 31 = false →
      ∃ u, exec (.credit t p) s = .next (s0.setTile t u)
        ∧ (u.chan.stream (p.aux.setWidth 16 : BitVec 16).toNat).out = before ++ after
        ∧ (u.chan.stream (p.aux.setWidth 16 : BitVec 16).toNat).next
            = (tl.chan.stream (p.aux.setWidth 16 : BitVec 16).toNat).next
        ∧ u.seq = tl.seq ∧ u.spad = tl.spad ∧ u.arr = tl.arr ∧ u.chan.queues = tl.chan.queues)

/-- From R188, R190, R200, R201, R203, R204: with every router standing, the oldest packet of a router's buffer whose
header check agrees leaves it towards its destination, on virtual channel 0 along X first and then along Y, on virtual
channel 1 along Y first; it waits while the next router has no room for it. At its own router it waits at its tile
port. A packet whose header check fails is dropped and counted. A circuit entry's oldest flit leaves by its output
port into the next router's entry, or, while that has no room, misses its slot. Readings and choices of the model that
it rests on: log entries 28, 49, 117, 122. -/
def Obligations.Routing : Prop :=
  ∀ (s : State) (site : Nat), site < 480 → s.meshOn = true → (∀ n, s.bypassed n = false) →
    (s.router site).failed = false →
    (∀ (p : Packet) inPort (x : Flight), inPort ≤ 6 → p.parityError = false →
      s.flightAt p (.router site inPort) = some x → s.oldest site x = true →
      let s0 := s.takeFlight p (.router site inPort)
      let s1 := s0.countAct (packetAccount p) .flit (flitCount p)
      let goes (m q : Nat) : Prop := exec (.routerPacketArrival site inPort p) s
        = .next (if s.hasRoom m q x.vc p then s1.addFlight p (.router m q) x.vc q else s)
      (∀ d port, d < 480 → p.hcrc = hcrcOf p → s.target p = .at d port →
        (d % 16 ≠ site % 16 → x.vc ≠ 1 ∨ d / 16 = site / 16 →
          (site % 16 < d % 16 → goes (site + 1) 3) ∧ (d % 16 < site % 16 → goes (site - 1) 2))
        ∧ (d / 16 ≠ site / 16 → x.vc = 1 ∨ d % 16 = site % 16 →
          (site / 16 < d / 16 → goes (site + 16) 0) ∧ (d / 16 < site / 16 → goes (site - 16) 1))
        ∧ (d = site → port = 4 → knownType p.typ = true → s.tileRefusal site p = none → s.nobodyThere site p = false →
          exec (.routerPacketArrival site inPort p) s
            = .next (s1.addFlight p (.dest site 4) x.vc inPort)))
      ∧ (p.hcrc ≠ hcrcOf p → s.faults.unhandled < 64 →
        ∃ s' : State, exec (.routerPacketArrival site inPort p) s = .next s'
          ∧ (s'.router site).badHeader = bump16 (s.router site).badHeader
          ∧ s'.net.inFlight = s0.net.inFlight ∧ s'.hbm = s.hbm ∧ s'.tiles = s.tiles))
    ∧ (∀ n q m (f : CFlit) (fs : List CFlit), n < 256 → q < 4 → SMap.get [] (s.router site).buffers n = f :: fs →
      bitOf (SMap.get 0 (s.router site).circuits n).toNat 63 = true → f.headerOk = true → f.bad = false →
      (s.router site).discards.contains n = false →
      (List.range 7).filter (bitOf (bitsOf (SMap.get 0 (s.router site).circuits n).toNat 0 7)) = [q] →
      neighbour site q = some m →
      ((s.router m).entryFlits n < 2 → ∃ s' : State, exec (.circuitFlit site n) s = .next s'
        ∧ SMap.get [] (s'.router m).buffers n = SMap.get [] (s.router m).buffers n ++ [f]
        ∧ SMap.get [] (s'.router site).buffers n = fs ++ (SMap.get [] (s.router site).feeds n).take (2 - fs.length)
        ∧ s'.net.inFlight = s.net.inFlight ∧ s'.tiles = s.tiles ∧ s'.hbm = s.hbm ∧ s'.faults = s.faults)
      ∧ (2 ≤ (s.router m).entryFlits n →
        exec (.circuitFlit site n) s = .next (s.modRouter site (fun r => { r with lateSeen := true }))))

/-- From R330 to R338: a WRITE to mapped memory of a stack in service, the oldest packet there for its block, stores
its bytes, and every other byte of memory stays; it is acknowledged. A READ is answered with the bytes, at the row of
its own and at READ. Readings and choices of the model that it rests on: log entries 10, 22. -/
def Obligations.MemoryAccess : Prop :=
  ∀ (s : State) (site k : Nat) (p : Packet), site < 480 → attachAt site p.dport.toNat = .hbm k → s.meshOn = true →
    s.nextAt site p.dport.toNat p = true →
    let a := p.addr.toNat
    let x := (s.part p.part.toNat).acc a
    let base := x.stack * 0x2000000000 + x.off
    let s0 := s.takeFlight p (.dest site p.dport.toNat)
    let open' : Prop := s.sec.erasing = false ∧ s.bring.phase ≠ .alarmed ∧ (s.part p.part.toNat).maps a = true
      ∧ s.attachServes (.hbm k) = true ∧ s.hbm.errs = [] ∧ x.off % 32 = 0
    open' →
    (p.typ = 0x01 → rowPacketOk p = true → a % 4096 + p.payload.length ≤ 4096 → p.payload.length % 32 = 0 →
      0 < p.payload.length →
      ∃ (s1 : State) (q : Packet), exec (.hbmWrite site p) s = .next (s1.inject site p.dport.toNat q)
        ∧ q.typ = 0x06 ∧ q.nack = false ∧ q.seq = p.seq ∧ q.dcc = p.scc ∧ q.dsite = p.ssite
        ∧ s1.hbm.mem = Memory.writeBytes s.hbm.mem base p.payload
        ∧ (∀ b, b < base ∨ base + p.payload.length ≤ b → Memory.read s1.hbm.mem b = Memory.read s.hbm.mem b)
        ∧ s1.tiles = s.tiles ∧ s1.faults = s.faults ∧ s1.net = s0.net)
    ∧ (p.typ = 0x04 → a % 4096 + p.len.toNat ≤ 4096 → p.len.toNat < 4096 → s.hbm.keyed = [] → x.key = none →
      ∃ q : Packet, exec (.hbmRead site p) s
          = .next ((s0.countAct (packetAccount p) .hbmByte p.len.toNat).inject site p.dport.toNat q)
        ∧ (p.dport ≠ 4 → exec (.read site p) s = exec (.hbmRead site p) s)
        ∧ q.typ = 0x05 ∧ q.nack = false ∧ q.seq = p.seq ∧ q.dcc = p.scc ∧ q.dsite = p.ssite ∧ q.aux = p.aux
        ∧ q.payload = Memory.readBytes s.hbm.mem base p.len.toNat)

/-- From R334, R337, R338: patrol scrub, enabled, reads the granted transfers of a stack in service in turn: a
single-bit error there is corrected, written back and counted, and an uncorrectable one is counted; the pass is
counted at its last transfer. Out of its turn a transfer is not read. A stack in service whose PHY fails leaves
service. Readings and choices of the model that it rests on: log entries 55, 96, 124. -/
def Obligations.MemoryUpkeep : Prop :=
  ∀ (s : State) (k n : Nat), k < 24 → n < 3069 * 1048576 →
    (s.hbm.patrolEn = true → (s.stack k).state = .inService → s.patrolNext k = some n →
      s.hbm.err k (n * 32) ≠ some .double → ∃ s', exec (.patrolScrub k n) s = .next s'
        ∧ s'.hbm.err k (n * 32) = none ∧ s'.hbm.mem = s.hbm.mem
        ∧ (s'.stack k).corrected = (if s.hbm.err k (n * 32) = some .single then min ((s.stack k).corrected + 1) 0xFFFF
            else (s.stack k).corrected)
        ∧ SMap.get 0 s'.hbm.patrolAt k = (if (s.grantedFrom k (n + 1)).isNone then 0 else n + 1)
        ∧ (s'.stack k).patrolPasses = (if (s.grantedFrom k (n + 1)).isNone then ((s.stack k).patrolPasses + 1) % 65536
            else (s.stack k).patrolPasses)
        ∧ s'.faults = s.faults ∧ s'.tiles = s.tiles)
    ∧ (s.hbm.patrolEn = true → (s.stack k).state = .inService → s.patrolNext k = some n →
      s.hbm.err k (n * 32) = some .double → ∃ s', exec (.patrolScrub k n) s = .next s' ∧ s'.hbm.mem = s.hbm.mem
        ∧ (s'.stack k).uncorrected = satAdd (s.stack k).uncorrected 1 0xFF
        ∧ SMap.get 0 s'.hbm.patrolAt k = (if (s.grantedFrom k (n + 1)).isNone then 0 else n + 1))
    ∧ (s.hbm.patrolEn = false ∨ (s.stack k).state ≠ .inService ∨ s.patrolNext k ≠ some n →
      exec (.patrolScrub k n) s = .next s)
    ∧ ((s.stack k).state ≠ .inService → exec (.hbmPhyFailure k) s = .next s)
    ∧ ((s.stack k).state = .inService → ∃ s', exec (.hbmPhyFailure k) s = .next s' ∧ (s'.stack k).state = .failed
      ∧ s'.hbm.mem = s.hbm.mem ∧ (∀ j, j ≠ k → s'.stack j = s.stack j)
      ∧ (s.partsOn k = [] → (∀ c, (s.ctx c).saved = []) → s'.tiles = s.tiles ∧ s'.faults = s.faults))

/-- From R403, R430, R434, R436: what comes before a command's own checks, in order. Where the harbour master takes no
command nothing happens. One that passes all that comes before does its own work, whatever its operands, at the state
that has counted it. A header with bits 7 to 2 of FLAGS set, or whose PARTITION or CONTEXT is not as the command asks,
is answered BAD_PARAM; a phase that does not accept the command gives its own status; and FENCE holds the command
while an earlier one is open. Readings and choices of the model that it rests on: log entries 24, 35, 66. -/
def Obligations.CommandOrder : Prop :=
  ∀ (s : State) (i : Instr) (x : CmdInfo), cmdInfo i = some x →
    (s.canTake = false → exec i s = .next s)
    ∧ (s.canTake = true →
      (4 ≤ x.hdr.flags.toNat ∨ x.part.met x.hdr.part = false ∨ x.ctx.met x.hdr.ctx = false →
        exec i s = .next (s.begun.answer (s.call x.op x.hdr) stBadParam []))
      ∧ (x.headerOk = true → s.phaseStatus x.op ≠ stOk →
        exec i s = .next (s.begun.answer (s.call x.op x.hdr) (s.phaseStatus x.op) []))
      ∧ (x.headerOk = true → s.phaseStatus x.op = stOk → bitOf x.hdr.flags.toNat 1 = true →
        (∃ j ∈ s.hm.jobs, j.serial < s.hm.nextSerial) →
        exec i s = .next { s.begun with hm := { s.begun.hm with
          held := s.hm.held ++ [⟨i, x.hdr, x.op, s.clk.tide, false, s.hm.nextSerial⟩] } })
      ∧ (x.headerOk = true → s.phaseStatus x.op = stOk →
        bitOf x.hdr.flags.toNat 1 = false ∨ (∀ j ∈ s.hm.jobs, s.hm.nextSerial ≤ j.serial) →
        exec i s = .next (runCommand i (s.call x.op x.hdr) s.begun)))

/-- R404, R405, R432: a record of one entry that the reply ring has room for is written at the producer's place: its
header, its body and zeros to byte 62, and in byte 63 the phase. The producer goes on by one and turns the phase over
at the end of the ring, and the sequence number counts. One that finds no room, or others waiting, waits in the
backlog, and a ring that is enabled shows RING_FULL; while the backlog is full no packet is taken from intake. A
silent harbour master writes nothing. Readings and choices of the model that it rests on: log entry 64. -/
def Obligations.Records : Prop :=
  ∀ (s : State) (r : Rec), r.body.length ≤ 39 →
    (s.hm.silent = true → s.record r = s)
    ∧ (s.hm.silent = false → s.uci.backlog = [] → s.uci.enable = true → 1 ≤ s.uci.room →
      let last : Byte := if s.uci.phase then 0x80 else 0
      (∃ more, (s.record r).out = s.out ++ .hostWrite (s.uci.ringBase * 4096 + s.uci.producer * 64)
          (r.bytes s.uci.recSeq ++ zeroBytes (39 - r.body.length) ++ [last]) :: more)
        ∧ (s.record r).uci.recSeq = (s.uci.recSeq + 1) % 65536
        ∧ (s.record r).uci.producer = (if s.uci.producer + 1 = s.uci.size then 0 else s.uci.producer + 1)
        ∧ (s.record r).uci.phase = (if s.uci.producer + 1 = s.uci.size then !s.uci.phase else s.uci.phase)
        ∧ (s.record r).uci.backlog = [])
    ∧ (s.hm.silent = false → s.uci.backlog ≠ [] ∨ s.uci.enable = false ∨ s.uci.room = 0 → s.uci.backlog.length < 256 →
      (s.record r).uci.backlog = s.uci.backlog ++ [r] ∧ (s.record r).out = s.out
        ∧ (s.record r).uci.ringFull = (s.uci.ringFull || s.uci.enable))
    ∧ (s.uci.consumer < s.uci.size → s.uci.producer < s.uci.size → (s.uci.room : Int)
      = ((s.uci.consumer : Int) - (s.uci.producer : Int) - 1) % (s.uci.size : Int))
    ∧ (∀ q : Rec, s.hm.silent = false → s.uci.enable = true → s.uci.backlog = [] →
      (s.uci.room < q.entries → (s.record q).out = s.out ∧ (s.record q).uci.backlog = [q]
        ∧ (s.record q).uci.ringFull = true)
      ∧ (q.entries ≤ s.uci.room → (s.record q).uci.backlog = []
        ∧ (s.record q).uci.recSeq = (s.uci.recSeq + 1) % 65536))
    ∧ (256 ≤ s.uci.backlog.length → exec .intakeTake s = .next s)

/-- From R438, R439, R464: the identity, status, configuration and licence commands. IDENTIFY, STATUS, READ_FLOORPLAN,
READ_FAULTLOG and ECHO answer what the state holds; configuration items are applied all together or not at all and are
read back by their codes; a valid licence raises the level of its feature, an invalid one is counted, and
LIST_LICENCES shows the six features. Readings and choices of the model that it rests on: log entries 24, 102. -/
def Obligations.IdentityAndConfiguration : Prop :=
  (∀ (s : State) (h : CmdHdr), h.bare →
    (s.served 0x0000 h → exec (.identify h) s = .next (s.begun.answer (s.call 0x0000 h) stOk
      (leBytes (uciId s.facts) 8 ++ leBytes s.bring.fwver 4 ++ leBytes s.facts.fuses.secver 2 ++ zeroBytes 2
        ++ (if s.sec.identityOk then s.deviceHash else zeroBytes 48))))
    ∧ (s.served 0x0001 h → exec (.status h) s = .next (s.begun.answer (s.call 0x0001 h) stOk
      (leBytes s.bring.phase.code 1 ++ leBytes s.clk.bin 1 ++ leBytes s.shownGood 2 ++ leBytes (s.unanswered + 1) 2
        ++ leBytes s.statusFlags 1 ++ zeroBytes 1
        ++ leBytes ((allParts.map (fun p => fieldAt (flagNat (s.part p).valid) p 1)).sum) 4 ++ leBytes s.faults.held 2
        ++ zeroBytes 2)))
    ∧ (∀ buf len, s.served 0x0002 h → buf % 64 = 0 → exec (.readFloorplan h buf len) s = .next
      (if len < 7680 then s.begun.answer (s.call 0x0002 h) stBadParam (leBytes 7680 8)
        else (s.begun.hostOut buf (allSites.flatMap s.begun.siteBytes)).answer (s.call 0x0002 h) stOk (leBytes 7680 8)))
    ∧ (∀ buf len first count, s.served 0x0003 h → buf % 64 = 0 → first < 256 → 1 ≤ count → count ≤ 256 →
      exec (.readFaultlog h buf len first count) s = .next
        (if len < 64 * count then s.begun.answer (s.call 0x0003 h) stBadParam (leBytes (64 * count) 8)
          else (s.begun.hostOut buf ((List.range count).flatMap (fun i => s.faults.bytesAt ((first + i) % 256)))).answer
            (s.call 0x0003 h) stOk (leBytes count 8)))
    ∧ (∀ bytes, s.served 0x0004 h → exec (.echo h bytes) s = .next
      (s.begun.answer (s.call 0x0004 h) (if bytes.length ≤ 976 then stOk else stBadParam)
        (if bytes.length ≤ 976 then bytes else []))))
  ∧ (∀ (s : State) (h : CmdHdr), h.bare →
    (∀ items : List (Nat × Nat), s.served 0x0100 h → 1 ≤ items.length → items.length ≤ 8 →
      let ok := ∀ x ∈ items, x.1 = 1 ∧ 16 ≤ x.2 ∧ x.2 ≤ 30 ∨ x.1 = 2 ∧ x.2 < 2 ∨ x.1 = 3 ∧ 1 ≤ x.2 ∧ x.2 ≤ 255
      (ok → ∃ s', exec (.setConfig h items) s = .next s' ∧
        (∀ v, (1, v) ∈ items → (∀ w, (1, w) ∈ items → w = v) → s'.net.ackNext = some v)
        ∧ (∀ v, (2, v) ∈ items → (∀ w, (2, w) ∈ items → w = v) → s'.hbm.patrolEn = decide (v = 1))
        ∧ (∀ v, (3, v) ∈ items → (∀ w, (3, w) ∈ items → w = v) → s'.hbm.hoursNext = some v)
        ∧ s'.net.ackTimeout = s.net.ackTimeout ∧ s'.hbm.patrolHours = s.hbm.patrolHours)
      ∧ (¬ok → exec (.setConfig h items) s = .next (s.begun.answer (s.call 0x0100 h) stBadParam [])))
    ∧ (∀ codes : List Nat, s.served 0x0101 h → 1 ≤ codes.length → codes.length ≤ 120 →
      (∀ x ∈ codes, x = 1 ∨ x = 2 ∨ x = 3) → exec (.getConfig h codes) s = .next
        (s.begun.answer (s.call 0x0101 h) stOk (codes.flatMap (fun x => leBytes
          (if x = 1 then s.net.ackTimeout else if x = 2 then flagNat s.hbm.patrolEn else s.hbm.patrolHours) 8))))
    ∧ (∀ addr len (b : List Byte), s.served 0x0102 h → 1 ≤ len → len ≤ 65536 → b.length = len →
      ∃ s', exec (.installLicence h addr len (.bytes b)) s = .next s' ∧
        (s.licenceOk b = true → fieldBytes b 6 1 ≠ 1 →
          s'.licence (fieldBytes b 6 1) = max (s.licence (fieldBytes b 6 1)) (fieldBytes b 8 4)
            ∧ (∀ f, f ≠ fieldBytes b 6 1 → s'.licence f = s.licence f) ∧ s'.bring.licenceFails = s.bring.licenceFails)
        ∧ (s.licenceOk b = false → s.faults.unhandled < 64 → s'.bring.licences = s.bring.licences
            ∧ s'.bring.licenceFails = min (s.bring.licenceFails + 1) 0xFF))
    ∧ (s.served 0x0103 h → exec (.listLicences h) s = .next (s.begun.answer (s.call 0x0103 h) stOk
      ((List.range 6).flatMap (fun f => leBytes f 1 ++ leBytes (flagNat (decide (0 < s.licence f))) 1
        ++ leBytes (if f = 0 then max 1 (s.licence 0) else s.licence f) 2 ++ zeroBytes 4)))))

/-- From R326, R327, R409 to R411, R414, R425, R426, R440: the partition commands. A partition that may be created
gets its rectangle and grant, its bands zero while it maps nothing; SET_INTERLEAVE gives another grant; the end of the
zeroing opens the grant, or ends the partition that was destroyed. A reset or a destruction resets every tile of the
partition and no other. Readings and choices of the model that it rests on: log entries 24, 75. -/
def Obligations.PartitionCommands : Prop :=
  ∀ (s : State) (h : CmdHdr) (p : Nat), p < 20 →
    (h.namesPart p →
      (∀ g : GrantBlock, s.served 0x0200 h → s.rectOk g = true → g.level ≤ 3 → s.grantOk p g = true →
        (s.partCount < 4 ∨ 0 < s.licence 2) → bitOf g.flags 0 = false → (s.part p).valid = false →
        ∃ s', exec (.createPartition h g) s = .next s' ∧ s'.hbm = (s.zeroGrant (s.grantOf g)).hbm
          ∧ s'.part p = { Partn.none with
              valid := true, c0 := g.c0, c1 := g.c1, r0 := g.r0, r1 := g.r1, level := g.level, switchKey := true,
              grant := s.grantOf g, zeroing := true }
          ∧ (∀ q, q ≠ p → s'.part q = s.part q) ∧ s'.tiles = s.tiles ∧ s'.ctxs = s.ctxs)
      ∧ (∀ g : GrantBlock, s.served 0x0303 h → s.partExists p = true →
        g.c0 = 0 ∧ g.c1 = 0 ∧ g.r0 = 0 ∧ g.r1 = 0 ∧ g.level = 0 → bitOf g.flags 0 = (s.part p).confidential →
        s.grantOk p g = true → (∀ n ∈ ctxsOf p, (s.ctx n).state = .none) →
        ∃ s', exec (.setInterleave h g) s = .next s'
          ∧ s'.hbm = ((s.zeroGrant (s.part p).grant).zeroGrant (s.grantOf g)).hbm
          ∧ s'.part p = { s.part p with grant := s.grantOf g, zeroing := true }
          ∧ (∀ q, q ≠ p → s'.part q = s.part q) ∧ s'.tiles = s.tiles)
      ∧ (∀ ms, s.served 0x0206 h → s.partExists p = true → ms ≤ 10000 →
        ∃ s', exec (.setQuantum h ms) s = .next s' ∧ s'.part p = { s.part p with quantumNext := some ms }
          ∧ (∀ q, q ≠ p → s'.part q = s.part q) ∧ s'.tiles = s.tiles ∧ s'.hbm = s.hbm)
      ∧ (s.partExists p = true → (∀ n ∈ ctxsOf p, (s.ctx n).launched = false) → s.circuitsEmpty p none = true →
        (∃ i ∈ s.partSites p, s.siteGood i = true) → (∀ r ∈ (s.part p).regions, (s.pregion r).thermalOff = false) →
        (s.served 0x0202 h → ∃ s', exec (.resetPartition h) s = .next s'
          ∧ (∀ i, s'.tile i = if i ∈ s.partSites p then resetTile (s.tile i) else s.tile i) ∧ s'.hbm = s.hbm)
        ∧ (s.served 0x0201 h → ∃ s', exec (.destroyPartition h) s = .next s'
          ∧ (∀ i, s'.tile i = if i ∈ s.partSites p then resetTile (s.tile i) else s.tile i) ∧ s'.hbm = s.hbm)))
    ∧ ((s.part p).zeroing = false → exec (.zeroingComplete p) s = .next s)
    ∧ ((s.part p).zeroing = true → (∀ j ∈ s.hm.jobs, j.hdr.part.toNat = p → j.work = .zero) →
      ∃ s', exec (.zeroingComplete p) s = .next s' ∧ s'.part p = { s.part p with zeroing := false }
        ∧ (∀ q, q ≠ p → s'.part q = s.part q) ∧ s'.hbm = s.hbm ∧ s'.tiles = s.tiles)
    ∧ ((s.part p).zeroing = true → (∃ j ∈ s.hm.jobs, j.hdr.part.toNat = p ∧ j.work = .destroy .bands) →
      ∃ s', exec (.zeroingComplete p) s = .next s' ∧ s'.part p = Partn.none
        ∧ (∀ q, q ≠ p → s'.part q = s.part q) ∧ s'.hbm = s.hbm ∧ s'.tiles = s.tiles)
    ∧ (∀ t, t < 480 → (s.tile t).inReset = false ∨ s.siteGood t = false →
      exec (.scratchpadZeroingComplete t) s = .next s)
    ∧ (∀ t, t < 480 → (s.tile t).inReset = true → s.siteGood t = true → s.hm.jobs = [] → s.sec.erasing = false →
      exec (.scratchpadZeroingComplete t) s = .next (s.modTile t (fun x => { x with inReset := false })))

/-- From R412 to R415, R426: contexts are created idle and destroyed with their moorings; a context that runs is
switched to already; a quantum that has expired, and a SWITCH_CONTEXT to a READY context, begin a switch; a switch
whose tiles have stopped and are idle drains them; and when the contexts have moved the incoming one runs with a new
quantum. Readings and choices of the model that it rests on: log entries 67, 68, 69, 119, 128. -/
def Obligations.ContextSwitches : Prop :=
  ∀ (s : State) (h : CmdHdr) (p c : Nat), p < 20 → c < 8 →
    let n := ctxNo p c
    let free' : Prop := (s.part p).switching = none ∧ s.switchHeld p = false
    (h.names p c →
      (∀ tenant, s.served 0x0203 h → s.partExists p = true → (s.ctx n).state = .none → s.overBudget p = false →
        ∃ s', exec (.createContext h tenant) s = .next s'
          ∧ s'.ctx n = { Ctxt.none with state := .idle, tenant := tenant }
          ∧ (∀ m, m ≠ n → s'.ctx m = s.ctx m) ∧ s'.parts = s.parts ∧ s'.tiles = s.tiles)
      ∧ (s.served 0x0204 h → s.ctxExists p c = true → (s.ctx n).launched = false → s.circuitsEmpty p (some c) = true →
        ∃ s', exec (.destroyContext h) s = .next s' ∧ s'.ctx n = Ctxt.none ∧ (∀ m, m ≠ n → s'.ctx m = s.ctx m)
          ∧ (∀ i, s'.tile i = if i ∈ s.partSites p then unmoor c (s.tile i) else s.tile i) ∧ s'.parts = s.parts)
      ∧ (s.served 0x0205 h → s.ctxExists p c = true →
        ((s.ctx n).state = .running →
          exec (.switchContext h) s = .next (s.begun.answer (s.call 0x0205 h) stOk []))
        ∧ ((s.ctx n).state = .ready → free' → s.onTiles p = none →
          ∃ s', exec (.switchContext h) s = .next s'
            ∧ s'.part p = { s.part p with switchDue := none, switching := some ⟨none, c, none, none⟩ }
            ∧ (∀ q, q ≠ p → s'.part q = s.part q) ∧ s'.ctxs = s.ctxs ∧ s'.tiles = s.tiles)))
    ∧ (s.quantumOver p = false ∨ (s.part p).switching ≠ none → exec (.quantumExpiry p) s = .next s)
    ∧ ((s.part p).switching = none → (s.part p).switchDue = none →
      exec (.contextSwitch p) s = .next s ∧ exec (.contextSwitched p) s = .next s)
    ∧ (∀ r, (s.part p).running = some r → s.quantumOver p = true → (s.part p).switchDue = none →
      s.nextReady p r = some c → free' → s.onTiles p = some r → (s.ctx (ctxNo p r)).sites.Nodup →
      ∃ s', exec (.quantumExpiry p) s = .next s'
        ∧ s'.part p = { s.part p with switching := some ⟨some r, c, none, none⟩ }
        ∧ (∀ i, s'.tile i = if i ∈ (s.ctx (ctxNo p r)).sites then stopForSwitch (s.tile i) else s.tile i)
        ∧ s'.ctxs = s.ctxs ∧ s'.hbm = s.hbm)
    ∧ (∀ o, (s.part p).switching = some ⟨o, c, none, none⟩ →
      let sites := s.outgoingSites p ⟨o, c, none, none⟩
      sites.Nodup → s.clk.quiescent = false → (∀ i ∈ sites, issueStopped (s.tile i) = true ∧ tileIdle (s.tile i) = true) →
      (∀ i ∈ sites, s.takesControl i = true → i < 480 ∧ s.routable s.harbourRouter i = true) →
      ∃ s', exec (.contextSwitch p) s = .next s'
        ∧ s'.part p = { s.part p with switching := some ⟨o, c, some s.clk.tide, none⟩ }
        ∧ s'.net = (s.addFlights ((sites.filter s.takesControl).map (s.ordered 0x20))).net
        ∧ (∀ i, s'.tile i = s.tile i) ∧ s'.ctxs = s.ctxs ∧ s'.faults = s.faults)
    ∧ (∀ o since v, (s.part p).switching = some ⟨o, c, since, some v⟩ → (s.ctx n).state = .ready →
      (s.ctx n).held = false → (∀ x, o = some x → x ≠ c ∧ (s.ctx (ctxNo p x)).held = false) →
      s.hm.jobs = [] → (s.ctx n).sites.Nodup → s.partHot p = false → (∀ i ∈ (s.ctx n).sites, (s.tile i).chan.misses = []) →
      (∀ i ∈ s.partSites p, s.takesControl i = true → s.routable s.harbourRouter i = true) →
      ∃ s', exec (.contextSwitched p) s = .next s'
        ∧ s'.part p = { s.part p with
            switching := none, running := some c, quantumRun := (s.part p).quantum, quantumFrom := s.clk.tide, quantumUsed := 0 }
        ∧ s'.ctx n = { s.ctx n with switches := (s.ctx n).switches + 1, state := .running }
        ∧ (∀ i, s'.tile i = if i ∈ (s.ctx n).sites then unpause (s.tile i) else s.tile i)
        ∧ s'.net = (s.addFlights (((s.partSites p).filter (fun i => ((s.tile i).stopped.isSome && !s.drainHolds n)
            && s.takesControl i)).map (s.ordered 0x21))).net
        ∧ (∀ m, m ≠ n → s'.ctx m = s.ctx m) ∧ s'.hbm = s.hbm)

/-- From R399, R401, R403, R441: the memory commands of a partition whose work is not held. COPY_IN is accepted and
asks the host for its first bytes; the completion of that device read writes them to the target and ends the copy; one
that failed ends it FAULTED with the target as it was. COPY_OUT of one piece writes the bytes read from the target to
the host, FILL writes its pattern, and SALVAGE writes the tiles of a region whose logic is off one after another.
Readings and choices of the model that it rests on: log entries 35, 76. -/
def Obligations.MemoryCommands : Prop :=
  ∀ (s : State) (h : CmdHdr) (p : Nat), h.namesPart p → s.partExists p = true → s.hm.jobs = [] →
    s.transfersHeld p = false →
    (∀ c : CopyParams, s.targetOk p c.dev c.len = true → c.encrypted = false → s.targetOn c.dev = true →
      c.host % 4096 + c.len ≤ 4096 → c.dev % 4096 + c.len ≤ 4096 → (s.part p).confidential = false →
      (s.served 0x0300 h → s.hm.reading = [] → ∃ s', exec (.copyIn h c) s = .next s'
        ∧ s'.hm.jobs = [⟨h, 0x0300, .copyIn c 0 [], s.hm.nextSerial⟩] ∧ s'.hm.reading = [(c.host, c.len)]
        ∧ .hostFetch c.host c.len ∈ s'.out ∧ s'.hbm = s.hbm ∧ s'.tiles = s.tiles)
      ∧ (s.served 0x0301 h →
        let s1 := s.begun.accept (s.call 0x0301 h) (.copyOut c)
        ∀ bs, (s1.getPiece p c.dev c.len).bytes = some bs → bs.length = c.len →
          (s1.getPiece p c.dev c.len).st.hm.jobs = s1.hm.jobs →
          ∃ s', exec (.copyOut h c) s = .next s' ∧ .hostWrite c.host bs ∈ s'.out ∧ s'.hm.jobs = []
            ∧ s'.tiles = (s1.getPiece p c.dev c.len).st.tiles ∧ s'.hbm = (s1.getPiece p c.dev c.len).st.hbm))
    ∧ (∀ dev len pattern, s.served 0x0302 h → s.targetOk p dev len = true → s.targetOn dev = true →
      dev % 4096 + len ≤ 4096 → (s.part p).confidential = false →
      let r := (s.begun.accept (s.call 0x0302 h) (.fill dev len pattern)).putPiece p dev
        ((List.range len).map (fun i => byteOf pattern.toNat (i % 8)))
      r.ok = true → r.st.hm.jobs = [⟨h, 0x0302, .fill dev len pattern, s.hm.nextSerial⟩] →
        ∃ s', exec (.fill h dev len pattern) s = .next s' ∧ s'.hm.jobs = [] ∧ s'.hbm = r.st.hbm
        ∧ s'.tiles = r.st.tiles)
    ∧ (∀ region dev, s.served 0x0304 h → region ∈ (s.part p).regions → (s.rail (railVlog region)).off = true →
      (s.rail (railVmem region)).off = false → dev % 4096 = 0 → (s.part p).mapsRange dev (24 * salvageBytes) = true →
      (s.part p).maps dev = true →
      let r := ((List.range 24).zip (regionSites region)).foldl (Salvage.tile p dev) ⟨s.begun, 0, 0, true⟩
      r.ok = true → exec (.salvage h region dev) s = .next (r.st.acceptDone (s.call 0x0304 h) stOk
        (leBytes r.tiles 2 ++ zeroBytes 6 ++ leBytes r.bytes 8)))

/-- From R399, R441, R451: device reads end. During a fetch of the image 4,096 bytes that arrived join it, and the
next are asked for until it is over; one that failed ends it. Otherwise the read is taken by the first command that
waits for its address: for a COPY_IN its bytes go to the target and the copy ends; where the read failed the copy ends
FAULTED and the target stays. A read that nothing waits for changes nothing. Readings and choices of the model that it
rests on: log entry 76. -/
def Obligations.DeviceReads : Prop :=
  (∀ (s : State) (addr : Nat) (ok : Bool) (data : List Byte),
    (s.regsServed = false → exec (.deviceReadCompletion addr ok data) s = .next s)
    ∧ (s.regsServed = true →
      (∀ f, s.bring.fetch = some f →
        (f.wanted ≠ addr ∨ f.isOver = true → exec (.deviceReadCompletion addr ok data) s = .next s)
        ∧ (f.wanted = addr → f.isOver = false → ∃ s' : State, exec (.deviceReadCompletion addr ok data) s = .next s'
          ∧ s'.tiles = s.tiles ∧ s'.hbm = s.hbm ∧
          (ok = true → data.length = 4096 →
            let g : ImageFetch := ⟨f.bytes ++ data, addr + 4096, false⟩
            s'.bring = { s.bring with fetch := some g }
            ∧ s'.out = if g.isOver then s.out else s.out ++ [.hostFetch (addr + 4096) 4096])
          ∧ (ok = false → s'.bring = { s.bring with fetch := some ⟨f.bytes, addr + 4096, true⟩ } ∧ s'.out = s.out)))
      ∧ (s.bring.fetch = none →
        ((∀ r ∈ s.hm.reading, r.1 ≠ addr) → exec (.deviceReadCompletion addr ok data) s = .next s)
        ∧ (∀ r j, s.hm.reading.find? (fun r => decide (r.1 = addr)) = some r →
          s.hm.jobs.find? (fun j => decide (j.reads.map (fun r => r.1) = some addr)) = some j →
          exec (.deviceReadCompletion addr ok data) s = .next
            ((({ s with hm := { s.hm with reading := dropFirst (fun y => decide (y = r)) s.hm.reading } } : State).feedJob
              j r.2 ok data).pumpJobs)))))
  ∧ ∀ (s : State) (c : CopyParams) (j : Job) (data : List Byte), s.regsServed = true → s.bring.fetch = none →
    s.hm.jobs = [j] → j.work = .copyIn c 0 [] → s.hm.reading = [(c.host, c.len)] → c.encrypted = false → 0 < c.len →
    c.host % 4096 + c.len ≤ 4096 → c.dev % 4096 + c.len ≤ 4096 →
    (data.length = c.len →
      let r := ({ s with hm := { s.hm with reading := [] } }).putPiece j.hdr.part.toNat c.dev data
      r.ok = true → r.st.hm.jobs = [j] → ∃ s', exec (.deviceReadCompletion c.host true data) s = .next s'
        ∧ s'.hm.jobs = [] ∧ s'.hm.reading = r.st.hm.reading ∧ s'.hbm = r.st.hbm ∧ s'.tiles = r.st.tiles)
    ∧ (∃ s', exec (.deviceReadCompletion c.host false data) s = .next s'
        ∧ s'.hm.jobs = [] ∧ s'.hm.reading = [] ∧ s'.hbm = s.hbm ∧ s'.tiles = s.tiles)

/-- From R178, R214, R244, R420, R422, R424, R442: LAUNCH takes a plan that passes its checks and the context loads;
PAUSE, RESUME and ABORT act on the context and on its tiles; the channel table is installed while nothing of the
partition is launched; and INVALIDATE_CHANNELS drops the tiles' copies. Readings and choices of the model that it
rests on: log entries 24, 70, 71, 72, 73, 74. -/
def Obligations.LaunchCommands : Prop :=
  ∀ (s : State) (h : CmdHdr) (p c : Nat), p < 20 → c < 8 →
    let n := ctxNo p c
    let x := s.ctx n
    (h.names p c → s.ctxExists p c = true →
      (∀ plan arg start, s.served 0x0400 h → (s.part p).confidential = false → x.state = .idle →
        let r := (s.begun.accept (s.call 0x0400 h) .launch).checkLaunch p c plan
        (∀ q area v, r.plan = some (q, area, v) → exec (.launch h plan arg start) s = .next
          (r.st.modCtx n (fun y => { y with
            state := .loading, launch := some ⟨q, arg, if start = 0 then q.start else start, (s.part p).level⟩,
            saveArea := area, volume := v, ending := none })))
        ∧ (r.plan = none → ∃ s', exec (.launch h plan arg start) s = .next s' ∧ s'.ctxs = r.st.ctxs
            ∧ s'.tiles = r.st.tiles ∧ s'.hbm = r.st.hbm))
      ∧ (s.served 0x0401 h → x.state = .ready → s.inSwitch p c = false →
        ∃ s', exec (.pause h) s = .next s' ∧ s'.ctx n = { x with userPause := true, state := .paused }
          ∧ (∀ m, m ≠ n → s'.ctx m = s.ctx m) ∧ s'.tiles = s.tiles)
      ∧ (s.served 0x0402 h → x.state = .paused → x.onTiles = true → x.heatPause = false →
        (s.part p).switching = none → x.sites.Nodup → (∀ i ∈ x.sites, (s.tile i).chan.misses = []) →
        ∃ s', exec (.resume h) s = .next s' ∧ s'.ctx n = { x with userPause := false, state := .running }
          ∧ s'.part p = { s.part p with running := some c }
          ∧ (∀ i, s'.tile i = if i ∈ x.sites then unpause (s.tile i) else s.tile i))
      ∧ (s.served 0x0403 h → x.state = .running → x.onTiles = true → x.ending = none → x.sites.Nodup →
        ∃ s', exec (.abort h) s = .next s'
          ∧ s'.ctx n = { x with ending := some ⟨stOk, excAborted, 0xFFFF, true⟩ }
          ∧ (∀ i, s'.tile i = if i ∈ x.sites then endTile (s.envOf i) excAborted 0 (s.tile i) else s.tile i) ∧ s'.hbm = s.hbm))
    ∧ (h.namesPart p → s.partExists p = true →
      (∀ base count, s.served 0x0404 h → count ≤ 65536 →
        (count = 0 ∨ base % 64 = 0 ∧ (s.part p).mapsRange base (64 * count) = true) → s.partLaunched p = false →
        ∃ s', exec (.setChannelTable h base count) s = .next s'
          ∧ s'.part p = { s.part p with chBase := if count = 0 then 0 else base, chCount := count }
          ∧ (∀ q, q ≠ p → s'.part q = s.part q) ∧ s'.hbm = s.hbm ∧ s'.tiles = s.tiles)
      ∧ (∀ first count, s.served 0x0405 h → 1 ≤ count → count ≤ 65536 → (s.part p).chCount ≠ 0 →
        first + count ≤ (s.part p).chCount →
        let r := s.begun.readTable p (s.part p).chBase 0 (s.part p).chCount
        let named := namedEntries r.entries first count
        r.st.invalidateOk p r.entries named = true →
        (∀ i ∈ r.st.partSites p, ∀ y ∈ named, ∀ e, y.2 = some e → tileChanged (r.st.tile i) (BitVec.ofNat 16 y.1) e = true →
          invalidateBusy (r.st.tile i) (BitVec.ofNat 16 y.1) = false) →
        ∃ s', exec (.invalidateChannels h first count) s = .next s' ∧ s'.tiles = (r.st.dropCopies p named).tiles
          ∧ s'.parts = (r.st.dropCopies p named).parts))

/-- From R423, R424: a LOADING context whose plan moors what it already moors, with nothing else to write, starts:
each of its tiles gets the program state of a launch and the context runs with a new quantum. When every tile of a
running context has halted the launch ends, and the context is IDLE. Readings and choices of the model that it rests
on: log entries 73, 74, 95, 112. -/
def Obligations.LaunchStartsAndEnds : Prop :=
  ∀ (s : State) (p c : Nat), p < 20 → c < 8 →
    let n := ctxNo p c
    let x := s.ctx n
    (∀ l : Launch, x.state = .loading → x.launch = some l → x.saved = [] → s.loadOpen p c = true →
      l.plan.chans = [] → l.plan.circuits = [] → l.plan.loads = [] → s.circuitsOk p c [] = true →
      s.layoutKept p c l.plan = true → s.tilesFree p = true → (s.part p).lastTenant = some x.tenant →
      s.clk.tide.toNat ≤ l.start.toNat → s.partHot p = false → x.heatPause = false →
      (l.plan.places.map (fun r => r.site)).Nodup →
      ∃ s', exec (.launchStart p c) s = .next s'
        ∧ s'.ctx n = { x with state := .running, onTiles := true } ∧ (∀ m, m ≠ n → s'.ctx m = s.ctx m)
        ∧ s'.part p = { s.part p with
            running := some c, quantumRun := (s.part p).quantum, quantumFrom := s.clk.tide, quantumUsed := 0 }
        ∧ (∀ k r, l.plan.places[k]? = some r →
          s'.tile r.site = launchTile { s.tile r.site with counts := [] } (BitVec.ofNat 3 c) r.site k
            l.plan.places.length r.entry l.arg l.start (BitVec.ofNat 2 l.level)
            (if 2 ≤ l.level then BitVec.ofNat 9 (partnerOf (l.plan.places.map (fun r => r.site)) r.site) else 0x1FF))
        ∧ (∀ i, i ∉ l.plan.places.map (fun r => r.site) → s'.tile i = s.tile i) ∧ s'.hbm = s.hbm)
    ∧ ((x.launch = none ∨ x.state ≠ .loading ∨ s.loadOpen p c = false) → exec (.launchStart p c) s = .next s)
    ∧ (∀ l, x.launch = some l → x.state = .loading → s.loadOpen p c = true →
      exec (.launchStart p c) s = .next (s.launchSteps n l))
    ∧ (x.launched = false → exec (.launchCompletion p c) s = .next s)
    ∧ (∀ e, x.launched = true → x.ending = some e →
      exec (.launchCompletion p c) s = .next (if s.endingWaits n e then s else s.endLaunch n e))
    ∧ (x.state = .running → x.ending = none → x.onTiles = true → (∀ i ∈ x.sites, (s.tile i).seq.mode = .halted) →
      x.sites.Nodup → (s.part p).switching = none → (s.part p).running = some c → (s.part p).switchDue = none →
      (∀ i, i < 8 → s.ctxReady p i = false) →
      ∃ s', exec (.launchCompletion p c) s = .next s'
        ∧ s'.ctx n = { x with
            state := .idle, onTiles := false, userPause := false, heatPause := false, launch := none, ending := none,
            volume := 0, saveArea := [], saved := [] }
        ∧ (∀ m, m ≠ n → s'.ctx m = s.ctx m) ∧ s'.part p = { s.part p with running := none }
        ∧ (∀ i, s'.tile i = if i ∈ x.sites then { freeTile (s.tile i) with counts := [] } else s.tile i)
        ∧ s'.hbm = s.hbm)

/-- From R208 to R210, R227: DRAIN of a scope that meets no other starts draining and sends STOP, on the control
class, to each of its tiles that can take one, whose send timers stand still from then on; once the scope has drained
it is in SLACK; one that has not drained by its deadline stays DRAINING, its DRAIN timed out; and RELEASE ends the
scope, lets the send timers go on, sends RESUME to the tiles that no switch holds, and, for the device scope, puts new
routes in force. The router the packets start from and their AUX are the model's choice (log 119). Readings and
choices of the model that it rests on: log entries 69, 79, 119. -/
def Obligations.SlackWater : Prop :=
  ∀ (s : State) (h : CmdHdr) (k : Scope) (code p c : Nat), code < 3 → k = scopeOf code p c →
    h.part.toNat = (if code = 0 then 255 else p) → h.ctx.toNat = (if code = 2 then c else 255) → p < 20 → c < 8 →
    (code = 0 ∨ code = 1 ∧ s.partExists p = true ∨ code = 2 ∧ s.ctxExists p c = true) →
    (∀ ms, s.served 0x0500 h → ms ≤ 10000 → (∀ r ∈ s.net.scopes, scopesMeet r.scope k = false) →
      (s.scopeSites k).Nodup →
      (∀ i ∈ s.scopeSites k, s.takesControl i = true → i < 480 ∧ s.routable s.harbourRouter i = true) →
      ∃ s', exec (.drainCommand h code ms) s = .next s'
        ∧ s'.net.scopes = s.net.scopes ++ [⟨k, .draining,
            s.clk.tide + BitVec.ofNat 64 ((if ms = 0 then 100 else ms) * 100000), false⟩]
        ∧ s'.net.inFlight = s.net.inFlight ++ ((s.scopeSites k).filter s.takesControl).map (s.ordered tyStop)
        ∧ (∀ i, s'.tile i = if i ∈ s.scopeSites k then beginDraining (s.tile i) else s.tile i) ∧ s'.hbm = s.hbm)
    ∧ (∀ r, s.scopeSt k = some r → r.st = .draining → r.timedOut = false →
      (s.drained k = true → ∃ s', exec (.slackWater k) s = .next s' ∧ s'.scopeSt k = some { r with st := .slack }
        ∧ s'.tiles = s.tiles ∧ s'.net.inFlight = s.net.inFlight)
      ∧ (s.drained k = false → exec (.slackWater k) s = .next s)
      ∧ (r.deadline.toNat ≤ s.clk.tide.toNat → ∃ s', exec (.drainTimeout k) s = .next s'
        ∧ s'.scopeSt k = some { r with timedOut := true } ∧ s'.tiles = s.tiles))
    ∧ (∀ r u, s.served 0x0501 h → s.scopeSt k = some r → s.hm.jobs = [] →
      (∀ l, (s.link l).held = [] ∧ (s.link l).pool = []) →
      u = { s with
        net := { s.net with scopes := s.net.scopes.filter (fun r => decide (r.scope ≠ k)) },
        fab := { s.fab with rgen := if code = 0 ∧ s.fab.routesWritten = true then s.fab.rgen + 1 else s.fab.rgen } } →
      (u.releaseSites k).Nodup →
      (∀ i ∈ u.releaseSites k, s.takesControl i = true → i < 480 ∧ s.routable s.harbourRouter i = true) →
      ∃ s', exec (.release h code) s = .next s' ∧ s'.scopeSt k = none ∧ s'.fab.rgen = u.fab.rgen
        ∧ s'.net.inFlight = s.net.inFlight
          ++ ((u.releaseSites k).filter (fun i => !s.switchStops i && s.takesControl i)).map (u.ordered tyResume)
        ∧ (∀ i, s'.tile i = if i ∈ u.releaseSites k then endDraining (s.tile i) else s.tile i))

/-- From R207, R210, R263, R265, R278, R286, R443: the fabric commands. WRITE_ROUTES in device SLACK sets the ring
sizes, the coordinates and the three direction tables, and the tide's parent and depth follow from them;
WRITE_CIRCUITS writes its records; FABRIC_STATUS reads the fabric registers; SET_PAIR sets the pair and its two
exported ranges. Readings and choices of the model that it rests on: log entries 71, 79, 118. -/
def Obligations.FabricCommands : Prop :=
  ∀ (s : State) (h : CmdHdr),
    (h.bare →
      (∀ r : RouteParams, s.served 0x0502 h → s.routesOk r = true → routeDevices r ≤ max 1 (s.licence 0) →
        s.inSlack .device = true → ∃ s', exec (.writeRoutes h r) s = .next s'
          ∧ s'.fab.self = r.self ∧ s'.fab.root = r.root
          ∧ s'.fab.sx = 1 + r.sxM1 ∧ s'.fab.sy = 1 + r.syM1 ∧ s'.fab.sz = 1 + r.szM1
          ∧ s'.fab.dirX = routeTable r 0 ∧ s'.fab.dirY = routeTable r 1 ∧ s'.fab.dirZ = routeTable r 2
          ∧ s'.fab.routesWritten = true ∧ s'.fab.locked = false ∧ s'.fab.isRoot = decide (r.self = r.root)
          ∧ s'.fab.parent = parentOf r ∧ s'.fab.depth = depthOf r ∧ s'.fab.rgen = s.fab.rgen ∧ s'.tiles = s.tiles)
      ∧ (s.served 0x0504 h → exec (.fabricStatus h) s = .next (s.begun.answer (s.call 0x0504 h) stOk
        (leBytes (s.fabRead 0) 8 ++ leBytes (s.fabRead 0x20) 8 ++ leBytes s.netSwStatus 8
          ++ (List.range 8).flatMap (fun l => leBytes (s.fabRead (0x100 + 8 * l)) 8)
          ++ (List.range 8).flatMap (fun l => leBytes (s.fabRead (0x140 + 8 * l)) 8))))
      ∧ (∀ flags a b, s.served 0x0505 h → flags < 4 → a % 256 = 0 → b % 256 = 0 → a < 2 ^ 48 → b < 2 ^ 48 →
        0 < s.licence 1 → s.facts.linkDies = 8 → s.anyRunning = false →
        ∃ s', exec (.setPair h flags a b) s = .next s' ∧ s'.fab = { s.fab with
            pairEn := decide (flags % 2 = 1), pairSide := decide (2 ≤ flags), exportA := decide (flags % 2 = 1),
            exportB := decide (flags % 2 = 1), baseA := a, baseB := b } ∧ s'.tiles = s.tiles))
    ∧ (∀ p c, h.names p c → ∀ rs : List CircuitRec, s.served 0x0503 h → s.ctxExists p c = true → 1 ≤ rs.length →
      rs.length ≤ 168 → (∀ r ∈ rs, r.site < 480 ∧ r.entry < 256) → s.circuitsOk p c rs = true →
      (∀ r ∈ rs, s.circuitForeign p r = false) → s.circuitsCovered p c rs = true →
      ∃ s', exec (.writeCircuits h rs) s = .next s' ∧ s'.net = (s.writeCircuits p c rs).net ∧ s'.tiles = s.tiles)

/-- From R375, R380, R381, R390, R394, R444: the power commands. The cap, the ceiling and the hinted mode are what the
next tide mark takes; PILOT declares a heavy phase; SET_TELEMETRY begins streaming anew; READ_ENERGY gives, in mJ, the
five totals and the energy of the contexts named. Readings and choices of the model that it rests on: log entries 80,
120, 125. -/
def Obligations.PowerCommands : Prop :=
  ∀ (s : State) (h : CmdHdr),
    (h.bare →
      (∀ w, s.served 0x0600 h → 2500 ≤ w → w ≤ 10500 → ∃ s', exec (.setCap h w) s = .next s'
        ∧ s'.pwr = { s.pwr with capNext := some w } ∧ s'.clk = s.clk ∧ s'.tiles = s.tiles)
      ∧ (∀ bin hinted, s.served 0x0601 h → 32 ≤ bin → bin ≤ 76 → hinted < 2 →
        ∃ s', exec (.setOppoint h bin hinted) s = .next s'
        ∧ s'.clk = { s.clk with ceilingNext := some bin }
        ∧ s'.pwr = { s.pwr with hintedNext := some (decide (hinted = 1)) } ∧ s'.tiles = s.tiles)
      ∧ (∀ ring records interval, s.served 0x0603 h → ring % 256 = 0 → 16 ≤ records → records ≤ 65536 →
        1 ≤ interval → interval ≤ 1000 → ∃ s', exec (.setTelemetry h 1 ring records interval) s = .next s'
        ∧ s'.pwr.telem = { Telem.clear with
            on := true, ring := ring, records := records, interval := interval,
            windowEnd := ((s.clk.tide.toNat + 99999) / 100000 + 1) * 100000 } ∧ s'.clk = s.clk)
      ∧ (s.served 0x0603 h → ∃ s', exec (.setTelemetry h 0 0 0 0) s = .next s' ∧ s'.pwr.telem = Telem.clear)
      ∧ (∀ mask, s.served 0x0604 h → (namedCtxs mask).length ≤ 118 →
        (∀ n ∈ namedCtxs mask, (s.ctx n).state ≠ .none) → exec (.readEnergy h mask) s = .next
          (s.begun.answer (s.call 0x0604 h) stOk (([s.pwr.attributed, s.pwr.unattributed, s.pwr.overhead,
            s.pwr.railEnergy, s.pwr.lossEnergy] ++ (namedCtxs mask).map (fun n => (s.ctx n).energy)).flatMap
              (fun e => leBytes (e / 1000000000000) 8)))))
    ∧ (∀ p, h.namesPart p → s.partExists p = true → ∀ lead cls dur, s.served 0x0602 h → 1 ≤ lead → lead ≤ 255 →
      cls ≤ 7 → 1 ≤ dur → dur ≤ 4095 → ∃ s', exec (.pilotCommand h lead cls dur) s = .next s'
        ∧ s'.pwr.phases = SMap.mod [] s.pwr.phases p (addPhase ⟨s.markNo + 1 + lead, dur, cls⟩)
        ∧ s'.tiles = s.tiles)

/-- From R302, R311, R317 to R319, R445: the integrity commands. The check level is the partition's for its next
launch; a stress test of the good tiles its mask names is accepted and begins with the heating load; in the rounds a
tile that passes is done and, having passed every round, no longer SUSPECT, one that fails above bin 64 loses one bin
and is tested again, and one that fails again is retired; READ_TALLY_LOG returns the sixteen entries of the site.
Readings and choices of the model that it rests on: log entries 21, 78, 81, 126. -/
def Obligations.IntegrityCommands : Prop :=
  ∀ (s : State) (h : CmdHdr),
    (∀ p level, h.namesPart p → s.served 0x0700 h → s.partExists p = true → level ≤ 3 →
      ∃ s', exec (.setCheckLevel h level) s = .next s' ∧ s'.part p = { s.part p with level := level }
        ∧ (∀ q, q ≠ p → s'.part q = s.part q) ∧ s'.tiles = s.tiles)
    ∧ (h.bare → ∀ mask target (r : StressResult), s.served 0x0701 h → mask < 2 ^ 20 →
      (target = 0 ∨ 60 ≤ target ∧ target ≤ 94) → s.stressSites mask ≠ [] → s.stressing = false →
      (∀ n, n < 160 → (s.ctx n).state ≠ .running) →
      ∃ s' j, exec (.runStressTest h mask target r) s = .next s' ∧ s'.stressing = true
        ∧ s'.stressTest = some (j, ⟨s.stressSites mask, s.stressSites mask, [], r.fails, if target = 0 then 90 else target,
            [], s.clk.bin, s.clk.tide, .heating⟩)
        ∧ j.hdr = h ∧ s'.bring = s.bring ∧ s'.tiles = s.tiles ∧ s'.clk = s.clk)
    ∧ (∀ (x : Stress) n, n ∈ x.left →
      let y := stressTile ⟨s, x⟩ n
      (x.failsOf n = 0 → n ∉ x.failed →
        y.st.tile n = { s.tile n with
          spad := { (s.tile n).spad with side := [] }, integ := { (s.tile n).integ with suspect := false } }
        ∧ y.st.siteRec n = s.siteRec n ∧ n ∉ y.test.left)
      ∧ (0 < x.failsOf n → n ∉ x.failed → 64 < s.serviceBin n →
        y.st.siteRec n = { s.siteRec n with serviceBin := some (s.serviceBin n - 1) } ∧ n ∈ y.test.left
          ∧ (y.st.tile n).integ.suspect = (s.tile n).integ.suspect)
      ∧ (1 < x.failsOf n → n ∈ x.failed → s.usersOf n = [] → s.faults.unhandled < 64 →
        y.st.siteRec n = { s.siteRec n with
          status := 3, reason := 8, retiredAt := BitVec.ofNat 48 s.clk.tide.toNat } ∧ n ∉ y.test.left)
      ∧ ∀ i, i ≠ n → s.usersOf n = [] → s.faults.unhandled < 64 →
        y.st.tile i = s.tile i ∧ y.st.siteRec i = s.siteRec i)
    ∧ (h.bare → ∀ site, s.served 0x0702 h → site < 480 → s.siteGood site = true →
      exec (.readTallyLog h site) s = .next (s.begun.answer (s.call 0x0702 h) stOk ((List.range 16).flatMap (fun i =>
        tallyOut (match s.partOfSite site with | some p => (s.part p).confidential | none => false)
          (SMap.get Tally.empty (s.tile site).integ.tallyLog i)))))

/-- From R446, R475, R478, R479, R485, R489, R490: the security commands. ATTEST writes a report on the nonce;
LOAD_KEY installs a key that unwraps, or counts the failure; ERASE_KEYS destroys a partition's keys; SET_ALARM_POLICY
sets the response of a source at or above its floor; READ_ALARMS answers the seven records and releases ALARM_N.
Readings and choices of the model that it rests on: log entries 22, 81, 82. -/
def Obligations.SecurityCommands : Prop :=
  ∀ (s : State) (h : CmdHdr),
    (h.bare →
      (∀ nonce buf len, s.served 0x0800 h → buf % 64 = 0 → nonce.length = 32 → 38944 ≤ len →
        exec (.attest h nonce buf len) s = .next (((s.begun.cmdRecord 0 h 0x0800 stAccepted []).hostOut buf
          (s.begun.report nonce)).cmdRecord 3 h 0x0800 stOk (leBytes 38944 8)))
      ∧ (∀ source response, s.served 0x0803 h → source < 7 → response < 4 →
        (s.alarmFloor source ≤ response → (response = 3 → s.facts.fuses.terminalEn = true) →
          ∃ s', exec (.setAlarmPolicy h source response) s = .next s'
            ∧ s'.sec.alarms = s.sec.alarms.set source
                ({ s.sec.alarms.getD source (Alarm.clear 0) with response := response }) ∧ s'.pins = s.pins)
        ∧ (response < s.alarmFloor source → exec (.setAlarmPolicy h source response) s
          = .next (s.begun.answer (s.call 0x0803 h) stDenied [])))
      ∧ (s.served 0x0804 h → ∃ s', exec (.readAlarms h) s = .next s' ∧ s'.sec = s.sec
        ∧ s'.pins = { s.pins with
            alarmLow := s.pins.alarmLow && (s.sec.erasing || decide (s.bring.phase = .alarmed)) }))
    ∧ (∀ p, h.namesPart p → s.partExists p = true →
      (∀ kind addr len b, s.served 0x0801 h → kind < 2 → 1 ≤ len → len ≤ 16384 → b.length = len →
        (s.part p).confidential = true → 0 < s.licence 3 → kind = 1 ∨ s.partLaunched p = false →
        (∀ key, s.unwrapKey p kind b = some key → ∃ s', exec (.loadKey h kind addr len (.bytes b)) s = .next s'
          ∧ s'.part p = (if kind = 0 then { s.part p with hbmKey := some (fitBytes 64 key) }
              else { s.part p with xferKey := some (fitBytes 32 key), lastNonce := 0 })
          ∧ (∀ q, q ≠ p → s'.part q = s.part q) ∧ s'.sec = s.sec)
        ∧ (s.unwrapKey p kind b = none → s.faults.unhandled < 64 → s.unwrapWindow.length < 15 →
          ∃ s', exec (.loadKey h kind addr len (.bytes b)) s = .next s' ∧ s'.parts = s.parts
            ∧ s'.sec.unwraps = s.unwrapWindow ++ [s.clk.tide]))
      ∧ (s.served 0x0802 h → (∀ n ∈ ctxsOf p, (s.ctx n).launched = false) → ∃ s', exec (.eraseKeys h) s = .next s'
        ∧ s'.part p = { s.part p with switching := none, switchDue := none, hbmKey := none, xferKey := none }
        ∧ (∀ q, q ≠ p → s'.part q = s.part q) ∧ s'.hbm = s.hbm))

/-- From R94, R219, R220, R431, R447, R461: the debug and maintenance commands. Readings and choices of the model that
it rests on: log entry 77. -/
def Obligations.DebugCommands : Prop :=
  ∀ (s : State) (h : CmdHdr),
    (∀ p c, h.names p c → s.ctxExists p c = true →
      (∀ mode, s.served 0x0900 h → mode < 2 → (s.part p).confidential = false →
        ∃ s', exec (.setDebugMode h mode) s = .next s'
          ∧ s'.ctx (ctxNo p c) = { s.ctx (ctxNo p c) with debug := decide (mode = 1) }
          ∧ (∀ m, m ≠ ctxNo p c → s'.ctx m = s.ctx m) ∧ s'.tiles = s.tiles)
      ∧ (∀ kinds buf len, s.served 0x0903 h → kinds < 32 → buf % 64 = 0 → len % 16 = 0 →
        (s.ctx (ctxNo p c)).debug = true →
        ((s.ctx (ctxNo p c)).trace = none → ∃ s', exec (.trace h 1 kinds buf len) s = .next s'
          ∧ s'.ctx (ctxNo p c) = { s.ctx (ctxNo p c) with trace := some ⟨kinds, buf, len, 0⟩ })
        ∧ (∀ t, (s.ctx (ctxNo p c)).trace = some t → ∃ s', exec (.trace h 0 kinds buf len) s = .next s'
          ∧ s'.ctx (ctxNo p c) = { s.ctx (ctxNo p c) with trace := none })))
    ∧ (h.bare → ∀ site, site < 480 →
      (∀ q buf, s.served 0x0901 h → s.siteGood site = true → q < 16 → buf % 64 = 0 → buf ≠ 0 →
        let x := (s.tile site).chan.queue q
        let bs := if s.debugOnSite site = true then (headBytes (s.tile site) q).take 1024 else []
        exec (.peekQueue h site q buf) s = .next ((s.begun.hostOut buf bs).answer (s.call 0x0901 h) stOk
          (leBytes (chQueue x) 8 ++ leBytes (chQhead x) 8 ++ leBytes bs.length 8)))
      ∧ (∀ first count buf len, s.served 0x0902 h → 1 ≤ count → first + count ≤ 128 → buf % 64 = 0 →
        16384 * count ≤ len →
        (s.debugOnSite site = true → ∃ s', exec (.readAccumulator h site first count buf len) s = .next s'
          ∧ s' = ((s.begun.cmdRecord 0 h 0x0902 stAccepted []).hostOut buf
              (accBytes (s.tile site) (16384 * first) (16384 * count))).cmdRecord 3 h 0x0902 stOk
              (leBytes (16384 * count) 8))
        ∧ (s.debugOnSite site = false → exec (.readAccumulator h site first count buf len) s
          = .next (s.begun.answer (s.call 0x0902 h) stDenied [])))
      ∧ (s.served 0x0A00 h → s.usersOf site = [] → s.faults.unhandled < 64 →
        ((s.siteRec site).status = 0 → ∃ s', exec (.retireTile h site) s = .next s'
          ∧ s'.siteRec site = { s.siteRec site with
              status := 3, reason := 7, retiredAt := BitVec.ofNat 48 s.clk.tide.toNat }
          ∧ s'.tile site = stopTile (s.tile site) ∧ (∀ i, i ≠ site → s'.tile i = s.tile i ∧ s'.siteRec i = s.siteRec i))
        ∧ ((s.siteRec site).status = 3 →
          exec (.retireTile h site) s = .next (s.begun.answer (s.call 0x0A00 h) stOk [])))
      ∧ (∀ bin, s.served 0x0A01 h → s.siteGood site = true → 32 ≤ bin → bin ≤ s.serviceBin site →
        ∃ s', exec (.setServiceFmax h site bin) s = .next s'
          ∧ s'.siteRec site = { s.siteRec site with serviceBin := some bin }
          ∧ (∀ i, i ≠ site → s'.siteRec i = s.siteRec i) ∧ s'.tiles = s.tiles))

/-- From R402, R403, R405, R406, R430, R434: the command window, intake, the reply ring and the message interrupt. A
packet that intake takes waits behind the others; one it refuses is answered BUSY and counted. The oldest packet is
taken and its command is served; one that is malformed is answered BAD_PARAM, one of no known opcode BAD_OPCODE. The
oldest record of the backlog is written when the ring has room. An interrupt that moderation held back is sent when it
has passed. Readings and choices of the model that it rests on: log entries 63, 64, 65. -/
def Obligations.HostWindow : Prop :=
  ∀ (s : State),
    (∀ m sideband bytes, m < 4 → s.windowCarries m sideband bytes.length = false →
      exec (.commandWrite m sideband bytes) s = .next s)
    ∧ (∀ m sideband bytes, m < 4 → s.windowCarries m sideband bytes.length = true →
      (s.intakeTakes bytes = true → exec (.commandWrite m sideband bytes) s = .next
        { s with hm := { s.hm with intake := s.hm.intake ++ [IntakePkt.mk bytes] },
                 out := s.out ++ [.windowAnswer m hsOk] })
      ∧ (s.intakeTakes bytes = false → ∃ s', exec (.commandWrite m sideband bytes) s = .next s'
        ∧ s'.hm = { s.hm with refused := satAdd s.hm.refused 1 0xFFFF }
        ∧ s'.uciModule m = { s.uciModule m with writeErrors := satAdd (s.uciModule m).writeErrors 1 0xFFFF }
        ∧ s'.out = s.out ++ [.windowAnswer m hsBusy] ∧ s'.tiles = s.tiles ∧ s'.bring = s.bring))
    ∧ (s.hm.intake = [] ∨ s.canTake = false → exec .intakeTake s = .next s)
    ∧ (s.uci.backlog = [] ∨ s.hm.silent = true → exec .recordWrite s = .next s)
    ∧ (s.uci.irqDue = false ∨ s.uci.irqEnable = false → exec .messageInterrupt s = .next s)
    ∧ (∀ x rest, s.hm.intake = x :: rest → s.canTake = true →
      let op := fieldBytes x.bytes 0 2
      let h := packetHdr x.bytes
      let s0 := { s with hm := { s.hm with intake := rest } }
      (packetBytesOk x.bytes op = false ∨ 4 ≤ h.flags.toNat →
        exec .intakeTake s = .next (s0.answerPacket h op stBadParam))
      ∧ (packetBytesOk x.bytes op = true → h.flags.toNat < 4 →
        let r := packetCmd x.bytes h (Config.stressOutcome (s.freeCtr + 1)) op
        (r = none → exec .intakeTake s = .next
          (({ s0 with freeCtr := s.freeCtr + 1 } : State).answerPacket h op stBadOpcode))
        ∧ (∀ i, r = some i → exec .intakeTake s = .next (({ s0 with freeCtr := s.freeCtr + 1 } : State).submit i))))
    ∧ (∀ r rest, s.uci.backlog = r :: rest → s.hm.silent = false →
      (s.ringTakes r = true → ∃ s', exec .recordWrite s = .next s'
        ∧ s'.uci.backlog = rest ++ s.uci.waiting.take 1 ∧ s'.uci.waiting = s.uci.waiting.drop 1
        ∧ s'.uci.recSeq = (s.uci.recSeq + 1) % 65536 ∧ s'.hm = s.hm ∧ s'.tiles = s.tiles)
      ∧ (s.ringTakes r = false → exec .recordWrite s = .next s))
    ∧ (s.uci.irqDue = true → s.uci.irqEnable = true →
      (s.moderated = true → exec .messageInterrupt s = .next
        { s with uci := { s.uci with irqAt := some s.clk.tide, irqDue := false },
                 out := s.out ++ [.interrupt s.uci.irqAddr.toNat s.uci.irqData] })
      ∧ (s.moderated = false → exec .messageInterrupt s = .next s))

/-- From R344, R345, R399 to R401: transactions of the host. A device register is written and read at the attachment;
an unmapped address is answered so, a failed write being counted; memory before READY is answered NOT_READY. A
transaction with memory or a tile window enters the mesh as a HOST packet, one with a router's register as an MGMT
packet, and waits; one with the command window is a command write. A transaction ends TIMEOUT when 2^ACK_TIMEOUT
cycles have passed. Readings and choices of the model that it rests on: log entries 61, 104. -/
def Obligations.HostTransactions : Prop :=
  ∀ (s : State) (x : HostTx), x.module < 4 →
    let part := s.part x.part.toNat
    let at0 := ucieRouter x.module
    let pend (isWrite : Bool) : List HostPend := s.uci.pend ++ [⟨x.module, x.tag, s.clk.tide, s.net.ackTimeout, isWrite, 1, []⟩]
    let hostSent (o : Host.Outcome State Fault Refusal) (site : Nat) (isWrite : Bool) (data : List Byte) (len : Nat) : Prop :=
      ∃ (s' : State) (p : Packet), o = .next (s'.inject at0 5 p)
        ∧ p.typ = tyHost ∧ p.addr = BitVec.ofNat 48 x.addr ∧ p.payload = data ∧ p.len = BitVec.ofNat 14 len
        ∧ hostKind p = (if isWrite then 0 else 1) ∧ hostTag p = x.tag ∧ p.dsite.toNat = site ∧ s'.hbm = s.hbm
        ∧ s'.tiles = s.tiles ∧ s'.uci.pend = pend isWrite
    let mgmtSent (o : Host.Outcome State Fault Refusal) (site off n : Nat) (isWrite : Bool) (data : List Byte) : Prop :=
      ∃ (s' : State) (ps : List Packet), o = .next (ps.foldl (fun s p => s.inject at0 5 p) s') ∧ ps.length = n
        ∧ (∀ i p, ps[i]? = some p → p.typ = tyMgmt ∧ p.addr = BitVec.ofNat 48 (off + 8 * i)
          ∧ p.payload = (data.drop (8 * i)).take 8 ∧ bitOf p.aux.toNat 31 = isWrite ∧ hostTag p = x.tag ∧ p.dsite.toNat = site)
        ∧ s'.hbm = s.hbm ∧ s'.tiles = s.tiles
        ∧ s'.uci.pend = s.uci.pend ++ [⟨x.module, x.tag, s.clk.tide, s.net.ackTimeout, isWrite, n, []⟩]
    let notReady : Prop := s.bring.published = false ∧ (hostArea x.addr = .memory ∨ (∃ n, hostArea x.addr = .tile n)
      ∨ (∃ n off, hostArea x.addr = .router n off) ∧ x.addr % 8 = 0)
    (∀ data, s.carries x data.length = true →
      (∀ o, hostArea x.addr = .device o → x.addr % 8 = 0 → data.length % 8 = 0 →
        exec (.hostWrite x data) s = .next (s.writeRegs o (piecesOf 8 (data.length / 8) data))
        ∧ (data.length = 8 → exec (.hostWrite x data) s = .next (s.devWrite o (leNat data))))
      ∧ (notReady → data.length % 8 = 0 → exec (.hostWrite x data) s = .next (s.writeError x.module))
      ∧ (∀ n off, hostArea x.addr = .router n off → s.bring.published = true → s.bypassed n = true → x.addr % 8 = 0 →
        data.length = 8 → exec (.hostWrite x data) s = .next (s.netWrite n off (leNat data)))
      ∧ (hostArea x.addr = .unmapped ∨ (∃ o, hostArea x.addr = .device o) ∧ x.addr % 8 ≠ 0 → ∃ s', exec (.hostWrite x data) s = .next s'
        ∧ s'.uciModule x.module
          = { s.uciModule x.module with writeErrors := satAdd (s.uciModule x.module).writeErrors 1 0xFFFF }
        ∧ s'.hbm = s.hbm ∧ s'.tiles = s.tiles ∧ s'.out = s.out)
      ∧ (hostArea x.addr = .memory → s.bring.published = true → x.part.toNat < 20 → part.valid = true →
        s.routable at0 (part.edge x.addr).1 = true →
        hostSent (exec (.hostWrite x data) s) (part.edge x.addr).1 true data data.length)
      ∧ (∀ n, hostArea x.addr = .tile n → s.bring.published = true → s.routable at0 n = true →
        windowOff n x.addr < 0x7F00000 ∨ x.addr % 8 = 0 ∧ data.length % 8 = 0 →
        hostSent (exec (.hostWrite x data) s) n true data data.length)
      ∧ (∀ n off, hostArea x.addr = .router n off → s.bring.published = true → s.routable at0 n = true →
        s.bypassed n = false → x.addr % 8 = 0 → data.length % 8 = 0 →
        mgmtSent (exec (.hostWrite x data) s) n off (data.length / 8) true data)
      ∧ (hostArea x.addr = .window → exec (.hostWrite x data) s = exec (.commandWrite x.module x.sideband data) s))
    ∧ (∀ len, s.carries x len = true →
      (∀ o, hostArea x.addr = .device o → x.addr % 8 = 0 → len = 8 → ∃ s', exec (.hostRead x len) s = .next s'
        ∧ s'.out = s.out ++ [.readAnswer x.module x.tag hsOk (leBytes (s.devRead o).2 8)]
        ∧ s' = { (s.devRead o).1 with out := s'.out })
      ∧ (∀ o, hostArea x.addr = .device o → x.addr % 8 = 0 → len % 8 = 0 → exec (.hostRead x len) s
        = .next ((s.readRegs o (len / 8)).1.emit (.readAnswer x.module x.tag hsOk (s.readRegs o (len / 8)).2)))
      ∧ (notReady → len % 8 = 0 →
        exec (.hostRead x len) s = .next { s with out := s.out ++ [.readAnswer x.module x.tag hsNotReady []] })
      ∧ (∀ n off, hostArea x.addr = .router n off → s.bring.published = true → s.bypassed n = true → x.addr % 8 = 0 →
        len = 8 → exec (.hostRead x len) s
          = .next { s with out := s.out ++ [.readAnswer x.module x.tag hsOk (leBytes (s.netRead n off) 8)] })
      ∧ (hostArea x.addr = .unmapped ∨ hostArea x.addr = .window ∨ (∃ o, hostArea x.addr = .device o) ∧ x.addr % 8 ≠ 0 →
        exec (.hostRead x len) s = .next { s with out := s.out ++ [.readAnswer x.module x.tag hsUnmapped []] })
      ∧ (hostArea x.addr = .memory → s.bring.published = false →
        exec (.hostRead x len) s = .next { s with out := s.out ++ [.readAnswer x.module x.tag hsNotReady []] })
      ∧ (hostArea x.addr = .memory → s.bring.published = true → x.part.toNat < 20 → part.valid = true →
        s.routable at0 (part.edge x.addr).1 = true →
        hostSent (exec (.hostRead x len) s) (part.edge x.addr).1 false [] len)
      ∧ (∀ n, hostArea x.addr = .tile n → s.bring.published = true → s.routable at0 n = true →
        windowOff n x.addr < 0x7F00000 ∨ x.addr % 8 = 0 ∧ len % 8 = 0 →
        hostSent (exec (.hostRead x len) s) n false [] len)
      ∧ (∀ n off, hostArea x.addr = .router n off → s.bring.published = true → s.routable at0 n = true →
        s.bypassed n = false → x.addr % 8 = 0 → len % 8 = 0 →
        mgmtSent (exec (.hostRead x len) s) n off (len / 8) false []))
    ∧ (∀ data, s.carries x data.length = false → exec (.hostWrite x data) s = .next s)
    ∧ (∀ len, s.carries x len = false → exec (.hostRead x len) s = .next s)
    ∧ (∀ tag, (∀ y ∈ s.uci.pend, y.tag.toNat = tag → s.txExpired y = false) →
      exec (.hostTransactionTimeout tag) s = .next s)
    ∧ (∀ before y after, s.uci.pend = before ++ y :: after → y ∉ before → s.txExpired y = true →
      (∀ z ∈ before, z.tag = y.tag → s.txExpired z = false) →
      ∃ s', exec (.hostTransactionTimeout y.tag.toNat) s = .next s' ∧ s'.uci.pend = before ++ after ∧ s'.hbm = s.hbm
        ∧ s'.tiles = s.tiles
        ∧ (y.isWrite = false → s'.out = s.out ++ [.readAnswer y.module y.tag hsTimeout []])
        ∧ (y.isWrite = true → s'.out = s.out ∧ s'.uciModule y.module
          = { s.uciModule y.module with writeErrors := satAdd (s.uciModule y.module).writeErrors 1 0xFFFF }))

/-- From R94, R118, R127, R212, R341, R343 to R345, R401: a HOST packet at a tile that runs reads or writes
scratchpad, reads accumulators and side storage of a context in debug mode, and reads or writes tile registers; in a
confidential partition a scratchpad read gives zeros and a notice. At memory of a partition that is not confidential
it reads and writes the bytes there. Each is answered; an answer that comes back to its module ends the transaction.
An MGMT packet reads a router's register, or writes it: NET_ROUTER_STATUS clears the bits written as 1, all else
stays; its answer ends the transaction at its module. Readings and choices of the model that it rests on: log entries
33, 61, 88. -/
def Obligations.HostPackets : Prop :=
  ∀ (s : State) (site : Nat) (p : Packet), site < 480 → s.meshOn = true →
    let port := p.dport.toNat
    let n := p.len.toNat
    let m := p.payload.length
    let s0 := s.takeFlight p (.dest site port)
    let answered (u : State) (bs : List Byte) : Prop :=
      exec (.host site p) s = .next (u.inject site port (hostAnswer (u.envOf site) p hsOk bs))
    (∀ q, p.typ = tyHost → port = 4 → s.tileRefusal site p = none → s.vlogOn (regionOf site) = true →
      s.bring.published = true → s.partOfSite site = some q →
      let t := s.tile site
      let off := windowOff site p.addr.toNat
      (hostKind p = 1 →
        ((s.part q).confidential = false →
          (off + n ≤ 0x7000000 → t.spad.parityHit off n = false →
            answered s0 (Memory.readBytes t.spad.mem off n))
          ∧ (0x7000000 < off → off + n ≤ 0x7200000 → (s.envOf site).debug = true →
            answered s0 (accBytes t (off - 0x7000000) n))
          ∧ (0x7400000 ≤ off → off + n ≤ 0x7438000 → (s.envOf site).debug = true →
            answered s0 (sideBytes t (off - 0x7400000) n)))
        ∧ ((s.part q).confidential = true → off + n ≤ 0x7000000 → s.faults.unhandled < 64 →
          ∃ u : State, u.tiles = s.tiles ∧ u.hbm = s.hbm ∧ answered u (zeroBytes n))
        ∧ (0x7F00000 ≤ off → off + n ≤ 0x7F09000 → off % 8 = 0 → n % 8 = 0 →
          answered s0 (tsBytes (s0.envOf site) t (off - 0x7F00000) n)))
      ∧ (hostKind p = 0 →
        ((s.part q).confidential = false → off + m ≤ 0x7000000 → partRowsBad t off m = false →
          s.hostWriteClosed site p.ctx.toNat (off / 256) ((off + m - 1) / 256) = 0 →
          ∃ u : State, answered u [] ∧ (u.tile site).spad.mem = Memory.writeBytes t.spad.mem off p.payload
            ∧ (∀ i, i ≠ site → u.tile i = s.tile i) ∧ u.hbm = s.hbm ∧ u.faults = s.faults)
        ∧ (0x7F00000 ≤ off → off + m ≤ 0x7F09000 → off % 8 = 0 → m % 8 = 0 →
          answered (s0.modTile site (fun t => tsWriteBytes t (off - 0x7F00000) p.payload)) [])))
    ∧ (∀ k, p.typ = tyHost → attachAt site port = .hbm k → s.nextAt site port p = true →
      s.alarmedMemory = false → (s.part p.part.toNat).confidential = false →
      s.hbmRefuses (s.part p.part.toNat) p.addr.toNat = none → s.hbm.errs = [] →
      let x := (s.part p.part.toNat).acc p.addr.toNat
      let base := x.stack * 0x2000000000 + x.off
      x.off % 32 = 0 →
      (hostKind p = 1 → n < 4096 → s.hbm.keyed = [] → x.key = none →
        answered (s0.countAct (packetAccount p) .hbmByte n) (Memory.readBytes s.hbm.mem base n))
      ∧ (hostKind p = 0 → 0 < m → m % 32 = 0 →
        ∃ u : State, answered u [] ∧ u.hbm.mem = Memory.writeBytes s.hbm.mem base p.payload
          ∧ u.tiles = s.tiles ∧ u.faults = s.faults))
    ∧ (∀ k y, k < 4 → site = ucieRouter k → port = 5 → s.uci.pend = [y] → y.module = k → y.tag = hostTag p → y.due = 1 →
      y.parts = [] →
      (p.typ = tyHost → bitsOf p.aux.toNat 24 4 = hsOk →
        (hostKind p = 2 → y.isWrite = false → ∃ s', exec (.host site p) s = .next s' ∧ s'.uci.pend = []
          ∧ s'.out = s.out ++ [.readAnswer k y.tag hsOk p.payload] ∧ s'.hbm = s.hbm ∧ s'.tiles = s.tiles)
        ∧ (hostKind p = 3 → y.isWrite = true → ∃ s', exec (.host site p) s = .next s' ∧ s'.uci.pend = []
          ∧ s'.out = s.out ∧ s'.uciModule k = s.uciModule k ∧ s'.hbm = s.hbm ∧ s'.tiles = s.tiles))
      ∧ (p.typ = tyMgmt → s.bypassed site = false → bitOf p.aux.toNat 31 = y.isWrite →
        ∃ s', exec (.mgmt site p) s = .next s' ∧ s'.uci.pend = []
          ∧ s'.out = (if y.isWrite = true then s.out else s.out ++ [.readAnswer k y.tag hsOk p.payload])
          ∧ s'.hbm = s.hbm ∧ s'.tiles = s.tiles))
    ∧ (p.typ = tyMgmt → s.bypassed site = false → port = 4 →
      (bitOf p.aux.toNat 31 = false → exec (.mgmt site p) s = .next (s0.inject site 4
        (mgmtAnswer (s.envOf site) p (leBytes (s0.netRead site p.addr.toNat) 8))))
      ∧ (bitOf p.aux.toNat 31 = true → ∃ u : State,
        exec (.mgmt site p) s = .next (u.inject site 4 (mgmtAnswer (s.envOf site) p []))
        ∧ (let v := leNat (p.payload.take 8)
           u.router site = if p.addr = 0 then { s.router site with
              lateSeen := w1c (s.router site).lateSeen v 2, hcrcSeen := w1c (s.router site).hcrcSeen v 1,
              dropSeen := w1c (s.router site).dropSeen v 0 } else s.router site)
        ∧ (∀ i, i ≠ site → u.router i = s.router i) ∧ u.tiles = s.tiles))

/-- From R176, R212, R344, R346, R390, R391, R395, R404, R427, R451, R454, R508 to R510: writes of single registers. A
boot pointer at a page starts LOADING while the gate is open, and 0 is kept; elsewhere it is refused and counted. The
ring's base and size are taken while the ring is off, and turning it on starts it anew. A read of PWR_VMIN arms the
latch again. A register's address selects its register: a device register takes what its unit takes of it, ACK_TIMEOUT
and PATROL_HOURS from the next tide mark, and a tile register is its tile's. Readings and choices of the model that it
rests on: log entries 4, 20, 34, 64. -/
def Obligations.Registers : Prop :=
  ∀ (s : State), s.regsServed = true →
    (∀ v : Word, v.toNat % 4096 = 0 → v ≠ 0 → s.bootOpen = true → ∃ s', exec (.uciBootPtrWrite v) s = .next s'
      ∧ (s.bring.mainband = false → s'.bring.phase = .loading ∧ s'.bring.bootPtr = v ∧ s'.bring.haltCause = 0
        ∧ (∀ m, m < 4 → (s'.uciModule m).state = .training) ∧ s'.tiles = s.tiles ∧ s'.hbm = s.hbm)
      ∧ (s.bring.mainband = true → s.modulesUp ≠ [] → s'.bring.fetch = some ⟨[], v.toNat, false⟩
        ∧ s'.out = s.out ++ [.hostFetch v.toNat 4096]))
    ∧ (s.bootOpen = true → exec (.uciBootPtrWrite 0) s = .next { s with bring := { s.bring with bootPtr := 0 } })
    ∧ (∀ v, s.bootOpen = false → s.faults.unhandled < 64 → ∃ s', exec (.uciBootPtrWrite v) s = .next s'
      ∧ s'.bring = s.bring ∧ s'.faults.fixedRefused = satAdd s.faults.fixedRefused 1 0xFFFF)
    ∧ (∀ v : Word, s.uci.enable = false → 6 ≤ bitsOf v.toNat 0 5 → bitsOf v.toNat 0 5 ≤ 16 → bitOf v.toNat 5 = true →
      exec (.uciRingBaseWrite v) s = .next { s with uci := { s.uci with
        ringBase := v.toNat / 4096, sizeLog2 := bitsOf v.toNat 0 5, enable := true, producer := 0, phase := true,
        recSeq := 0 } })
    ∧ (∀ v : Word, s.uci.enable = true → v.toNat / 4096 = s.uci.ringBase → bitsOf v.toNat 0 5 = s.uci.sizeLog2 →
      exec (.uciRingBaseWrite v) s = .next { s with uci := { s.uci with enable := bitOf v.toNat 5 } })
    ∧ (∀ v, exec (.uciRingPtrWrite v) s = .next { s with uci := { s.uci with
        consumer := bitsOf v.toNat 32 16, ringFull := w1c s.uci.ringFull v.toNat 17 } })
    ∧ (∀ v : Word, exec (.pwrTelemPtrWrite v) s = .next (if bitsOf v.toNat 32 16 < s.pwr.telem.records
        then { s with pwr := { s.pwr with telem := { s.pwr.telem with consumer := bitsOf v.toNat 32 16 } } } else s))
    ∧ (∀ i, i < 45 → ∃ s', exec (.pwrVminRead i) s = .next s'
      ∧ SMap.get (0xFFFF, 0) s'.pwr.vmins i = (0xFFFF, 0)
      ∧ s'.out = s.out ++ [.readAnswer 0 0 hsOk (leBytes (s.readVmin i).2 8)] ∧ s'.tiles = s.tiles)
    ∧ (∀ v : Word, s.bootOpen = true → v.toNat % 4096 ≠ 0 → exec (.uciBootPtrWrite v) s = .next s)
    ∧ (∀ t n v, t < 480 → n < 4096 → s.tileOn t = false → exec (.tsCompletionWrite t n v) s = .next s)
    ∧ (∀ t n v, t < 480 → n < 4096 → s.tileOn t = true → exec (.tsCompletionWrite t n v) s = .next (s.setTile t
        ((s.tile t).setComp n ⟨BitVec.ofNat 16 (bitsOf v.toNat 32 16), BitVec.ofNat 32 (bitsOf v.toNat 0 32)⟩)))
    ∧ (∀ (o : Nat) (v : Word), o % 8 = 0 → o < 0x2E00000 → exec (.registerWrite (devBase + o) v) s
      = .next (s.devWrite o v.toNat))
    ∧ (∀ v : Word, s.devWrite 0x40000 v.toNat = { s with hbm := { s.hbm with
        patrolEn := bitOf v.toNat 8,
        hoursNext := if bitsOf v.toNat 0 8 = 0 then s.hbm.hoursNext else some (bitsOf v.toNat 0 8) } }
      ∧ s.devWrite 0x100008 v.toNat = { s with net := { s.net with
        ackNext := if 16 ≤ bitsOf v.toNat 0 5 ∧ bitsOf v.toNat 0 5 ≤ 30 then some (bitsOf v.toNat 0 5) else s.net.ackNext } }
      ∧ s.devWrite 0x60030 v.toNat = { s with uci := { s.uci with
        moderation := bitsOf v.toNat 0 8, irqEnable := bitOf v.toNat 8, irqData := bitsOf v.toNat 32 32 } })
    ∧ (∀ (i o : Nat) (v : Word), i < 480 → o < 0x9000 → o % 8 = 0 → s.tileOn i = true →
      exec (.registerWrite (tileWindow + i * tileWindowSize + 0x7F00000 + o) v) s
        = .next (s.modTile i (fun t => tsWrite t o v.toNat)))

/-- From R397, R398, R506: the UCIe modules and the watchdog. A module that is lost leaves service and its
transactions with it; one that retrains is up again at the speed it found, or is lost; when the mainband has trained
the image fetch begins, or, with no module in service, the device halts. The harbour master's watchdog halts the
device, or leaves it ALARMED, and silences the ring. Readings and choices of the model that it rests on: log entries
62, 86. -/
def Obligations.Modules : Prop :=
  ∀ (s : State),
    let others (m : Nat) : Prop := ∃ m', m' < 4 ∧ m' ≠ m ∧ (s.uciModule m').state.inService = true
    let halts (s' : State) : Prop := s.hm.silent = false → s.bring.phase ≠ .alarmed →
      s.faults.mergeAt s.clk.tide (plainNote 4 0x0902) = none → s'.bring.phase = .halted
    (∀ m, m < 4 → (s.uciModule m).state.inService = false → exec (.ucieModuleLost m) s = .next s
      ∧ ∀ ok speed, exec (.ucieRetraining m ok speed) s = .next s)
    ∧ (∀ m, m < 4 → (s.uciModule m).state.inService = true →
      (∃ s' : State, exec (.ucieModuleLost m) s = .next s'
          ∧ s'.uciModule m = { s.uciModule m with state := .outOfService, lost := true }
          ∧ s'.uci.pend = s.uci.pend.filter (fun x => decide (x.module ≠ m))
          ∧ (s.faults.unhandled < 64 → others m → s'.tiles = s.tiles ∧ s'.bring = s.bring) ∧ (¬ others m → halts s'))
      ∧ (∀ speed, ∃ s', exec (.ucieRetraining m true speed) s = .next s'
        ∧ s'.uciModule m = { s.uciModule m with
            retries := satAdd (s.uciModule m).retries 1 0xFFFF, state := .up, speed := speed % 4 }
        ∧ s'.uci.pend = s.uci.pend ∧ s'.tiles = s.tiles)
      ∧ (∀ speed, ∃ s' : State, exec (.ucieRetraining m false speed) s = .next s'
          ∧ s'.uciModule m = { s.uciModule m with
              retries := satAdd (s.uciModule m).retries 1 0xFFFF, state := .outOfService, lost := true }
          ∧ s'.uci.pend = s.uci.pend.filter (fun x => decide (x.module ≠ m))
          ∧ (s.faults.unhandled < 64 → others m → s'.tiles = s.tiles ∧ s'.bring = s.bring) ∧ (¬ others m → halts s')))
    ∧ (s.regsServed = false → exec .harbourMasterWatchdog s = .next s)
    ∧ (s.bring.phase ≠ .loading ∨ s.bring.mainband = true → ∀ ms, exec (.mainbandTrainingComplete ms) s = .next s)
    ∧ (∀ modules : List ModuleTrain, s.bring.phase = .loading → s.bring.mainband = false → modules.length = 4 →
      ((∃ t ∈ modules, t.ok = true) → ∃ s', exec (.mainbandTrainingComplete modules) s = .next s'
        ∧ s'.bring = { s.bring with mainband := true, fetch := some ⟨[], s.bring.bootPtr.toNat, false⟩ }
        ∧ s'.out = s.out ++ [.hostFetch s.bring.bootPtr.toNat 4096]
        ∧ (∀ m t, modules[m]? = some t → (s'.uciModule m).state = (if t.ok then .up else .outOfService)))
      ∧ ((∀ t ∈ modules, t.ok = false) → ∃ s', exec (.mainbandTrainingComplete modules) s = .next s'
        ∧ s'.bring.phase = .halted ∧ s'.bring.haltCause = causeNoUcie))
    ∧ (s.regsServed = true → exec .harbourMasterWatchdog s = .next
      { s with bring := { s.bring with phase := if s.bring.phase = .alarmed then .alarmed else .halted, fetch := none },
               hm := { s.hm with silent := true } })

/-- From R253 to R260, R263, R270, R271, R275, R532: the links. A link trains in the first mode in which every lane
passes, and is then UP, or IDLE on a torus link of level 1, its sequence numbers and credits beginning again with a
first credit exchange; with no such mode it is FAILED and logged. A cable insertion makes a link in service retrain; a
retraining, of such a link or of one that lost codeword lock, is counted, starts the sequence numbers and credits
again and keeps every flit not acknowledged to be sent again; one that fails in every mode leaves the link FAILED. On
a link that is UP a damaged flit, or the first one out of order, is discarded and replay asked for; when that has been
asked eight times of one LSEQ the link retrains. A flit in order is acknowledged: one of a packet not yet whole joins
its stream; a whole packet of this device enters the mesh, in SLACK waits at the link die, and is dropped and counted
where its route generation is stale; a circuit's flit enters its router's entry. A control flit frees what it
acknowledges, takes the credit totals, has what was lost sent again, and lets the flits that have credit go; one with
a bad LCRC is lost. Readings and choices of the model that it rests on: log entries 90, 115, 116, 123. -/
def Obligations.Links : Prop :=
  (∀ (s : State) (l : Nat), l < 8 →
    let begins (x : Link) : Prop := x.txSeq = 0 ∧ x.rxSeq = 0 ∧ x.unacked = [] ∧ x.askReplay = false
      ∧ x.sentVc = [0, 0] ∧ x.limitVc = [0, 0]
    let greets (s' : State) : Prop := ∃ c : LinkControl, s'.out = s.out ++ [.linkCtl l c] ∧ c.tag = controlTag
      ∧ c.lcrcOk = true ∧ c.ack = 0xFFFF ∧ c.replay = none
    let serving : LinkSt := if l < 6 ∧ s.bring.fabScale ≤ 1 then .idle else .up
    let others (s' : State) : Prop := (∀ k, k ≠ l → s'.link k = s.link k) ∧ s'.tiles = s.tiles ∧ s'.net = s.net
    (∀ r : TrainResult, (s.link l).state = .training →
      (∀ m, trainMode r = some m → ∃ s', exec (.linkTraining l r) s = .next s'
        ∧ (s'.link l).state = serving ∧ (s'.link l).speed = m.1 ∧ (s'.link l).width = m.2 ∧ (s'.link l).delay = r.delay
        ∧ begins (s'.link l) ∧ greets s' ∧ others s')
      ∧ (trainMode r = none → s.faults.unhandled < 64 → ∃ s', exec (.linkTraining l r) s = .next s'
        ∧ s'.link l = { s.link l with state := .failed } ∧ others s'))
    ∧ (∀ r : RetrainResult, (s.link l).state = .retraining ∨ (s.link l).carries = true ∧ r.lockLost = true →
      (∀ m, r.quick = true ∧ m = ((s.link l).speed, (s.link l).width) ∨ r.quick = false ∧ trainMode r.full = some m →
        ∃ s', exec (.linkRetrain l r) s = .next s'
        ∧ (s'.link l).state = (if (s.link l).state = .retraining then serving else (s.link l).state)
        ∧ (s'.link l).speed = m.1 ∧ (s'.link l).width = m.2
        ∧ (s'.link l).retrains = satAdd (s.link l).retrains 1 0xF
        ∧ (s'.link l).queue = (s.link l).unacked ++ (s.link l).queue ∧ begins (s'.link l) ∧ greets s' ∧ others s')
      ∧ (r.quick = false → trainMode r.full = none → s.faults.unhandled < 63 →
        ∃ s', exec (.linkRetrain l r) s = .next s'
        ∧ (s'.link l).state = .failed ∧ (s'.link l).queue = [] ∧ (s'.link l).unacked = []
        ∧ (s'.link l).retrains = satAdd (s.link l).retrains 1 0xF ∧ others s'))
    ∧ ((s.link l).state ≠ .training → ∀ r, exec (.linkTraining l r) s = .next s)
    ∧ ((s.link l).state = .up ∨ (s.link l).state = .idle →
      exec (.cableInsertion l) s = .next (s.setLink l { s.link l with state := .retraining }))
    ∧ ((s.link l).state ≠ .up → (s.link l).state ≠ .idle → exec (.cableInsertion l) s = .next s))
  ∧ (∀ (s : State) (l : Nat), l < 8 → (s.link l).state = .up →
    let x := s.link l
    (∀ f : LinkFlit,
      let y := x.countFec f
      let bs := (if tagHead f.tag then [] else SMap.get [] x.pieces (tagStream f.tag)) ++ f.data
      let n := tagCirc f.tag
      let answers (s' : State) (ack : BitVec 16) (replay : Option (BitVec 16)) : Prop :=
        ∃ c : LinkControl, s'.out = s.out ++ [.linkCtl l c] ∧ c.ack = ack ∧ c.replay = replay ∧ c.credits = (s'.link l).totalsVc
      let taken (s' : State) : Prop := exec (.linkFlit l f) s = .next s' ∧ (s'.link l).rxSeq = x.rxSeq + 1
        ∧ (s'.link l).askReplay = false ∧ s'.tiles = s.tiles ∧ s'.hbm = s.hbm ∧ answers s' f.lseq none
      (s.flitBad f = true ∨ tagClass f.tag ≠ 3 ∧ f.lseq ≠ x.rxSeq ∧ x.askReplay = false →
        (x.asks < 8 → ∃ s', exec (.linkFlit l f) s = .next s' ∧ (s'.link l).askReplay = true
          ∧ (s'.link l).asks = x.asks + 1 ∧ (s'.link l).rxSeq = x.rxSeq ∧ (s'.link l).fecCorr = y.fecCorr
          ∧ (s'.link l).fecUncorr = y.fecUncorr ∧ s'.tiles = s.tiles ∧ s'.net = s.net
          ∧ answers s' (x.rxSeq - 1) (some x.rxSeq))
        ∧ (8 ≤ x.asks → ∃ s', exec (.linkFlit l f) s = .next s' ∧ s'.link l = { y with state := .retraining }
          ∧ s'.tiles = s.tiles ∧ s'.net = s.net ∧ s'.out = s.out))
      ∧ (s.flitBad f = false → tagClass f.tag = 3 ∨ f.lseq ≠ x.rxSeq ∧ x.askReplay = true →
        exec (.linkFlit l f) s = .next (s.setLink l y))
      ∧ (s.flitBad f = false → f.lseq = x.rxSeq →
        (tagClass f.tag = 0 → tagTail f.tag = false → ∃ s', taken s' ∧ s'.net = s.net
          ∧ SMap.get [] (s'.link l).pieces (tagStream f.tag) = bs ∧ (s'.link l).leftVc = x.leftVc)
        ∧ (tagClass f.tag = 0 → tagTail f.tag = true → s.bring.phase ≠ .alarmed →
          let p := parsePacket bs
          (p.rgen ≠ s.fab.rgen → ∃ s', taken s' ∧ s'.net = s.net ∧ (s'.link l).stale = satAdd x.stale 1 0xFF)
          ∧ (p.rgen = s.fab.rgen → s.inSlack .device = true → ∃ s', taken s' ∧ s'.net = s.net
            ∧ (s'.link l).held = x.held ++ [⟨tagVc f.tag, p, bs.length / 256⟩])
          ∧ (p.rgen = s.fab.rgen → l < 6 → p.fab = false → x.held = [] → s.mayGoOn l p = true →
            ∃ s', taken s' ∧ (s'.link l).held = []
              ∧ s'.net = (s.enter (linkRouter l (p.seq.toNat % 2)) 5 p).net
              ∧ (s'.link l).leftVc = (Link.leave (tagVc f.tag) (bs.length / 256) x).leftVc))
        ∧ (tagClass f.tag = 1 → s.bring.phase ≠ .alarmed → s.inSlack .device = false → s.meshOn = true →
          SMap.get [] x.pool n = [] →
          let site := linkRouter l (flagNat f.upper)
          let c : CFlit := ⟨f.data, tagHead f.tag, tagTail f.tag, false⟩
          bitOf (SMap.get 0 (s.router site).circuits n).toNat 63 = true →
          ((s.router site).entryFlits n < 2 → ∃ s', taken s'
            ∧ SMap.get [] (s'.router site).buffers n = SMap.get [] (s.router site).buffers n ++ [c]
            ∧ SMap.get [] (s'.link l).pool n = [] ∧ SMap.get 0 (s'.link l).leftSched n = SMap.get 0 x.leftSched n + 1)
          ∧ (2 ≤ (s.router site).entryFlits n → ∃ s', taken s' ∧ s'.net = s.net
            ∧ SMap.get [] (s'.link l).pool n = [(f.upper, c)]))))
    ∧ (∀ c : LinkControl, tagClass c.tag = 3 →
      let y := x.hearCredits c
      let kept := dropAcked c.ack x.unacked
      (c.lcrcOk = false → exec (.linkControlFlit l c) s = .next s)
      ∧ (c.lcrcOk = true → x.queue = [] → c.replay = none → ∃ s', exec (.linkControlFlit l c) s = .next s'
        ∧ s'.link l = { y with unacked := kept } ∧ (∀ k, k ≠ l → s'.link k = s.link k) ∧ s'.tiles = s.tiles
        ∧ s'.net = s.net ∧ s'.out = s.out)
      ∧ (∀ seq, c.lcrcOk = true → x.queue = [] → c.replay = some seq →
        let again := kept.dropWhile (fun f => decide (f.lseq ≠ seq))
        again ≠ [] →
        (x.timesAsked seq ≤ 8 → x.position ≠ 0 → x.position + again.length ≤ 32 →
          ∃ s', exec (.linkControlFlit l c) s = .next s' ∧ s'.out = s.out ++ again.map (fun f => .linkData l f.wire)
            ∧ (s'.link l).unacked = kept ∧ (s'.link l).replays = satAdd x.replays 1 0xFF ∧ s'.tiles = s.tiles
            ∧ s'.net = s.net)
        ∧ (8 < x.timesAsked seq → ∃ s', exec (.linkControlFlit l c) s = .next s'
          ∧ s'.link l = { y with unacked := kept, state := .retraining } ∧ s'.tiles = s.tiles ∧ s'.out = s.out))
      ∧ (∀ f, c.lcrcOk = true → c.replay = none → x.queue = [f] → x.position ≠ 0 → kept.length < 4096 → y.hasCredit f = true →
        ∃ s', exec (.linkControlFlit l c) s = .next s' ∧ (s'.link l).queue = []
          ∧ (s'.link l).unacked = kept ++ [{ f with lseq := x.txSeq }] ∧ (s'.link l).txSeq = x.txSeq + 1
          ∧ s'.out = s.out ++ [.linkData l ({ f with lseq := x.txSeq } : TxFlit).wire] ∧ s'.tiles = s.tiles
          ∧ s'.net = s.net)))

/-- From R262, R263, R279 to R281, R283: neighbours and beacons. A torus link whose peer is the neighbour expected
serves; one with another peer is MISWIRED; an idle one only learns its peer. The first beacon from the parent, at a
device that is not locked and has nothing running, sets the tide count to the root's; any other one gives the offset
to steer away, and a beacon from another neighbour only that link's delay. Four beacons missed in a row raise
TIDE_LOST. Readings and choices of the model that it rests on: log entries 30, 91. -/
def Obligations.NeighboursAndBeacons : Prop :=
  ∀ (s : State) (l : Nat), l < 6 →
    (∀ peer,
      ((s.link l).state = .idle → exec (.peerAddressExchange l peer) s
        = .next (s.setLink l { s.link l with peer := some peer }))
      ∧ ((s.link l).state = .up ∨ (s.link l).state = .miswired →
        (s.fab.expects l = some peer → ∃ s', exec (.peerAddressExchange l peer) s = .next s'
          ∧ s'.link l = { s.link l with peer := some peer, state := .up } ∧ (∀ k, k ≠ l → s'.link k = s.link k)
          ∧ s'.tiles = s.tiles)
        ∧ (s.fab.expects l ≠ some peer → s.faults.unhandled < 64 → ∃ s', exec (.peerAddressExchange l peer) s = .next s'
          ∧ s'.link l = { s.link l with peer := some peer, state := .miswired } ∧ s'.tiles = s.tiles)))
    ∧ (∀ b : BeaconData, (s.link l).state = .up ∨ (s.link l).state = .idle →
      let heard := (s.link l).hear b (s.arrivalOf b)
      (s.fab.parent ≠ some l → exec (.beacon l b) s = .next (s.setLink l heard))
      ∧ (s.fab.parent = some l →
        let root := b.tTx + heard.oneWay
        (s.fab.beaconed = false → s.fab.locked = false → s.anyRunning = false → ∃ s', exec (.beacon l b) s = .next s'
          ∧ s'.clk.tide = BitVec.ofNat 64 (root / countUnits).toNat ∧ s'.fab.offset = -(root % countUnits)
          ∧ s'.fab.beaconed = true ∧ s'.fab.missed = 0 ∧ s'.link l = heard ∧ s'.tiles = s.tiles)
        ∧ (s.fab.beaconed = true ∨ s.fab.locked = true ∨ s.anyRunning = true → ∃ s', exec (.beacon l b) s = .next s'
          ∧ s'.clk = s.clk ∧ s'.fab.offset = s.arrivalOf b - root ∧ s'.fab.missed = 0 ∧ s'.link l = heard
          ∧ s'.tiles = s.tiles)))
    ∧ (s.fab.parent = some l → s.fab.missed = 4 → s.faults.unhandled < 64 → ∃ s', exec .tideLost s = .next s'
      ∧ s'.fab = { s.fab with tideLost := true, missed := 5 } ∧ s'.clk = s.clk ∧ s'.tiles = s.tiles)

/-- From R287 to R289, R381, R382: the step collector, record export and PILOT packets. A STEP_SEQ that every tile has
reported, or whose timeout has run, is formed and leaves the collector; its record is lost on an exported port whose
link does not serve, and otherwise waits for that port's link and for its acknowledgement; a record not acknowledged
in time is counted lost; a PILOT packet's hint joins the heavy phases of its partition. Readings and choices of the
model that it rests on: log entry 92. -/
def Obligations.CollectorsAndPilots : Prop :=
  ∀ (s : State),
    (∀ c rest, s.fab.collects = c :: rest → c ∉ rest →
      let left : Fab := { s.fab with collects := rest, formed := s.fab.formed ++ [(c.part, c.ctx, c.stepSeq)] }
      (s.fab.exportA = false → s.fab.exportB = false →
        (s.allReported c = true → exec (.stepCollectorRecord c.stepSeq) s = .next { s with fab := left })
        ∧ (s.waitedOut c.since c.timeout = true → exec (.stepCollectorTimeout c.stepSeq) s = .next { s with fab := left }))
      ∧ (s.fab.exportA = true → s.fab.exportB = true → (s.link 6).state ≠ .up → (s.link 7).state ≠ .up →
        (s.allReported c = true → exec (.stepCollectorRecord c.stepSeq) s
          = .next { s with fab := (left.countLost 0).countLost 1 })
        ∧ (s.waitedOut c.since c.timeout = true → exec (.stepCollectorTimeout c.stepSeq) s
          = .next { s with fab := (left.countLost 0).countLost 1 }))
      ∧ (s.fab.exportA = true → s.fab.exportB = false → (s.link 6).state = .up → (s.link 6).queue = [] →
        (s.link 6).limitVc = (s.link 6).sentVc → s.allReported c = true →
        ∃ s', exec (.stepCollectorRecord c.stepSeq) s = .next s'
          ∧ s'.fab.records = s.fab.records ++ [⟨0, BitVec.ofNat 24 c.stepSeq, s.clk.tide, s.net.ackTimeout⟩]
          ∧ (s'.link 6).queue = packetFlits 0 0 0 false
              (recordPacket left s.parityMode 0 c (deviceRecord left c false))
          ∧ s'.fab.collects = rest ∧ s'.tiles = s.tiles))
    ∧ (∀ r rest, s.fab.records = r :: rest → r ∉ rest → r.port < 2 → s.waitedOut r.since r.timeout = true →
      exec (.recordExportTimeout r.port) s = .next
        { s with fab := { (s.fab.countLost r.port) with records := rest } })
    ∧ (∀ p : Packet, p.typ = tyPilot → s.meshOn = true → ∃ s', exec (.pilotPacket p) s = .next s'
      ∧ (∀ q, leNat ((p.payload.drop 11).take 1) = q → q < 20 →
        SMap.get [] s'.pwr.phases q = addPhase (hintOf p) (SMap.get [] s.pwr.phases q)
        ∧ (∀ k, k ≠ q → SMap.get [] s'.pwr.phases k = SMap.get [] s.pwr.phases k))
      ∧ s'.tiles = s.tiles ∧ s'.hbm = s.hbm)

/-- From R350, R351, R354, R357, R362, R363, R468, R509: the clock. A tide mark that is due applies the pending change
and the marked fields, and the next one falls 4,096 counts on; with no rail's drop out of range and no share at its
limit before, no fault is logged and of the tiles only what they counted goes. One that is not due is no tide mark. A
late rise is cancelled at 400 counts before its instant; at the instant the device falls quiescent. A lost REFCLK no
longer shows as good, and halts the device but in DARK; a failed oscillator is recorded once. With no command waiting,
nothing waiting in the tiles and at the links, the harbour master silent and no event due, the tide count goes on by
one (the model's choice, log entry 3). Readings and choices of the model that it rests on: log entries 3, 29, 85, 109.
-/
def Obligations.Clock : Prop :=
  ∀ (s : State),
    (∀ m : MarkData, (s.markDue = false → exec (.tideMark m) s = .next s)
      ∧ (s.markDue = true → ∃ s' : State, exec (.tideMark m) s = .next s'
        ∧ s'.clk.nextMark = s.clk.nextMark + 4096 ∧ s'.clk.tide = s.clk.tide ∧ s'.clk.quiescent = false
        ∧ s'.clk.bin = (match s.clk.change with | some c => c.newBin | none => s.clk.bin)
        ∧ s'.clk.ceiling = s.clk.ceilingNext.getD s.clk.ceiling ∧ s'.net.ackTimeout = s.net.ackNext.getD s.net.ackTimeout
        ∧ (m.drops = [] → s.pwr.overMarks = [] →
          s'.pwr.cap = s.pwr.capNext.getD s.pwr.cap ∧ s'.pwr.overhead = s.pwr.overhead + m.overhead
          ∧ s'.faults = s.faults ∧ s'.hm = s.hm ∧ s'.sec = s.sec ∧ s'.uci = s.uci ∧ s'.hbm.mem = s.hbm.mem
          ∧ (∀ i, i < 480 → s'.tile i = { s.tile i with counts := [] }))))
    ∧ (∀ late, (late = [] ∨ s.clk.change = none → exec (.riseCancelled late) s = .next s)
      ∧ (∀ c, s.clk.change = some c → c.oldBin < c.newBin → s.clk.tide + 400 = s.clk.target → late ≠ [] →
        s.faults.unhandled < 64 → ∃ s' : State, exec (.riseCancelled late) s = .next s'
          ∧ s'.clk = { s.clk with change := none, riseCancelled := true } ∧ s'.tiles = s.tiles))
    ∧ (s.clk.change.isSome = true ∧ s.clk.tide = s.clk.target →
      exec .quiescentStart s = .next { s with clk := { s.clk with quiescent := true } })
    ∧ (s.clk.change = none ∨ s.clk.tide ≠ s.clk.target → exec .quiescentStart s = .next s)
    ∧ (s.pins.refclk = false ∨ s.pins.vlnk = false ∨ s.pins.resetN = false →
      exec .refclkLost s = .next { s with pins := { s.pins with refclk := false } })
    ∧ (s.pins.refclk = true → s.pins.vlnk = true → s.pins.resetN = true → ∃ s' : State, exec .refclkLost s = .next s'
      ∧ s'.pins = { s.pins with refclk := false } ∧ s'.clk.refOk = false ∧ s'.clk.tide = s.clk.tide
      ∧ (s.bring.phase = .dark → s'.bring = s.bring)
      ∧ (s.bring.phase ∉ [.dark, .halted, .alarmed] → s.hm.silent = false →
        s.faults.mergeAt s.clk.tide (plainNote 4 0x0703) = none →
        s'.bring.phase = .halted ∧ s'.bring.haltCause = causeRefclk))
    ∧ (∀ r, r < 20 →
      (s.clk.meshLocked = false ∨ (s.cregion r).oscFailed = true → exec (.oscFailed r) s = .next s)
      ∧ (s.clk.meshLocked = true → (s.cregion r).oscFailed = false → s.faults.unhandled < 64 →
        ∃ s' : State, exec (.oscFailed r) s = .next s'
        ∧ s'.cregion r = { s.cregion r with oscFailed := true } ∧ (∀ q, q ≠ r → s'.cregion q = s.cregion q)
        ∧ s'.tiles = s.tiles))
    ∧ (s.pending = [] → s.tideRuns = true → s.eventDue = false → s.hm.silent = true →
      (∀ x ∈ s.tiles, clockDue x.2 = false) → (∀ l, l < 8 → (s.link l).held = [] ∧ (s.link l).pool = []) →
      ∃ s' : State, step s = .next s' ∧ s'.clk.tide = s.clk.tide + 1 ∧ s'.hbm = s.hbm ∧ s'.net = s.net ∧ s'.pending = [])

/-- From R366, R367, R379, R384, R385, R389, R515: droop and supply faults. The first threshold fires the armed banks,
which arm again as they recharge, and in hinted mode outside a heavy phase it is an unheralded surge; the others
stretch a period where the limits of a run allow it. A failed phase lowers the rail's limit. A shorted VLOG or VMEM
rail, a failed VHIO rail and a fatal supply switch off what they feed, and a fatal supply halts the device; a dip
shorter than 50 µs is ridden through. Readings and choices of the model that it rests on: log entries 56, 57, 59, 125.
-/
def Obligations.Supplies : Prop :=
  ∀ (s : State),
    (∀ r level, r < 20 → s.pins.railsOn = false ∨ s.vlogOn r = false ∨ s.clk.bin = 0 →
      exec (.droopDetectorTrip r level) s = .next s)
    ∧ (∀ r, r < 20 → s.pins.railsOn = true → s.vlogOn r = true → s.clk.bin ≠ 0 →
      (let surge := s.pwr.hinted && (s.heavyNow r).isNone
       let x := s.pregion r
       ∃ s' : State, exec (.droopDetectorTrip r .reservoir) s = .next s'
        ∧ s'.pregion r = { x with
            fired := x.fired + s.banksArmed r, nowFirings := if 0 < s.banksArmed r then x.nowFirings + 1 else x.nowFirings,
            firedSeen := x.firedSeen || decide (0 < s.banksArmed r),
            unheralded := if surge then satAdd x.unheralded 1 0xFFFF else x.unheralded,
            unheraldedSeen := x.unheraldedSeen || surge, surgeHold := if surge then 16 else x.surgeHold }
        ∧ s'.clk = s.clk ∧ s'.tiles = s.tiles)
      ∧ (∀ level n, (level, n) ∈ [(DroopLevel.half, 1), (DroopLevel.full, 2)] →
        (s.clk.quiescent = true ∨ (s.cregion r).mayStretch = false → exec (.droopDetectorTrip r level) s = .next s)
        ∧ (s.clk.quiescent = false → 56 ≤ (s.cregion r).gap ∨ ((s.cregion r).gap = 0 ∧ (s.cregion r).run ∈ List.range' 1 7) →
          ∃ s' : State, exec (.droopDetectorTrip r level) s = .next s'
          ∧ s'.cregion r = { s.cregion r with
              run := if (s.cregion r).gap = 0 then (s.cregion r).run + 1 else 1, gap := 0, owed := (s.cregion r).owed + 1,
              nowStretches := (s.cregion r).nowStretches + 1, nowSlip := (s.cregion r).nowSlip + n,
              stretchesTotal := satAdd (s.cregion r).stretchesTotal 1 0xFFFFFFFF, stretchSeen := true }
          ∧ s'.pwr = s.pwr ∧ s'.tiles = s.tiles)))
    ∧ (∀ r banks, r < 20 → ∃ s' : State, exec (.reservoirRecharged r banks) s = .next s'
      ∧ s'.pregion r = { s.pregion r with fired := (s.pregion r).fired - banks } ∧ s'.tiles = s.tiles)
    ∧ (∀ i phase, i < 45 → phase < railPhases i →
      (s.pins.railsOn = false ∨ (s.rail i).failed.contains phase = true → exec (.phaseFailed i phase) s = .next s)
      ∧ (s.pins.railsOn = true → (s.rail i).failed.contains phase = false → s.faults.unhandled < 64 →
        ∃ s' : State, exec (.phaseFailed i phase) s = .next s'
        ∧ s'.rail i = { s.rail i with
            failed := (s.rail i).failed ++ [phase], phaseSeen := true,
            phasesOn := min (s.rail i).phasesOn (railPhases i - ((s.rail i).failed.length + 1)) }
        ∧ s'.railLimit i = 40 * (railPhases i - ((s.rail i).failed.length + 1)) ∧ s'.tiles = s.tiles))
    ∧ (∀ i, i < 40 → s.pins.railsOn = false ∨ (s.rail i).short = true → exec (.railShort i) s = .next s)
    ∧ (∀ i, i < 20 → s.pins.railsOn = true → s.faults.unhandled < 64 →
      ((s.rail i).short = false → ∃ s' : State, exec (.railShort i) s = .next s'
        ∧ s'.rail i = { s.rail i with off := true, short := true }
        ∧ (∀ j, j ≠ i → s'.rail j = s.rail j) ∧ s'.hbm = s.hbm ∧ s'.tiles = s.tiles)
      ∧ ((s.rail (20 + i)).short = false → ∃ s' : State, exec (.railShort (20 + i)) s = .next s'
        ∧ s'.rail (20 + i) = { s.rail (20 + i) with off := true, short := true }
        ∧ s'.rail i = { s.rail i with off := true } ∧ s'.hbm = s.hbm
        ∧ (∀ n, n ∈ regionSites i → s'.tile n = loseVmem (s.tile n))
        ∧ (∀ n, n ∉ regionSites i → s'.tile n = s.tile n)))
    ∧ (∀ e, e < 4 →
      (s.pins.railsOn = false ∨ (s.rail (40 + e)).short = true → exec (.vhioFault e) s = .next s)
      ∧ (s.pins.railsOn = true → (s.rail (40 + e)).short = false → ∃ s' : State, exec (.vhioFault e) s = .next s'
        ∧ s'.rail (40 + e) = { s.rail (40 + e) with off := true, short := true }
        ∧ (∀ k, k < 24 → (s'.stack k).state =
            if edgeGroup k = e ∧ (s.stack k).state = .inService then .failed else (s.stack k).state)
        ∧ (s.edgeParts e = [] → (∀ c, (s.ctx c).saved = []) → (∀ k, k < 24 → edgeGroup k = e → s.partsOn k = []) →
          s'.tiles = s.tiles ∧ s'.faults = s.faults)))
    ∧ (∀ unit, unit ∈ [44, 0xFF] →
      (s.pins.vlnk = false → exec (.supplyFatal unit) s = .next s)
      ∧ (s.pins.vlnk = true → ∃ s' : State, exec (.supplyFatal unit) s = .next s' ∧ s'.pins.vlnk = false
        ∧ s'.pins.railsOn = false ∧ s'.pins.pwrgd = false ∧ s'.pins.latchedOff = true
        ∧ (unit = 44 → s'.rail 44 = { s.rail 44 with off := true, short := true })
        ∧ (s.hm.silent = false → s.bring.phase ≠ .alarmed →
          s.faults.mergeAt s.clk.tide (unitNote 4 0x0805 5 unit) = none → s'.bring.phase = .halted)))
    ∧ (∀ mV ns, (s.pins.vlnk = false → exec (.inputDip mV ns) s = .next s)
      ∧ (s.pins.vlnk = true →
        (40000 ≤ mV → exec (.inputDip mV ns) s = .next { s with pins := { s.pins with input := mV } })
        ∧ (mV < 40000 → ns < 50000 → exec (.inputDip mV ns) s = .next s)
        ∧ (mV < 40000 → 50000 ≤ ns → ∃ s' : State, exec (.inputDip mV ns) s = .next s' ∧ s'.pins.vlnk = false
          ∧ s'.pins.railsOn = false ∧ s'.pins.latchedOff = true)))

/-- From R387 to R390, R394: heat, telemetry and the energy model. Every region and edge group read takes the hottest
of its sensors, and a region's SKIP_THERMAL follows it; 120 °C trips the supply. From 110 °C the region's partition
pauses for heat and the region waits for its tiles, or loses its VLOG at once where it has no partition; below 95 °C
VLOG comes back and the cells are reloaded from their holds. A region that waits loses its VLOG once its tiles are
idle. A telemetry window's record goes to the ring, or is lost where the ring is full. Three windows in a row off by
more than 5% raise MODEL_DRIFT. Readings and choices of the model that it rests on: log entries 51, 52, 53, 58, 128.
-/
def Obligations.HeatAndTelemetry : Prop :=
  ∀ (s : State),
    (∀ temps : List (Nat × Int), (∀ x ∈ temps, x.1 < 496) →
      (s.pins.vlnk = false ∨ s.pins.resetN = false → exec (.sensorReading temps) s = .next s)
      ∧ (s.pins.vlnk = true → s.pins.resetN = true → ∃ s' : State, exec (.sensorReading temps) s = .next s'
        ∧ (∀ r, r < 20 → match hottest temps (fun i => decide (sensorRegion i = some r)) with
          | some t => (s'.pregion r).temp = t ∧ (s'.pregion r).skipThermal = skipThermalOf t
          | none => (s'.pregion r).temp = (s.pregion r).temp)
        ∧ (∀ e, e < 4 → SMap.get (0 : Int) s'.pwr.edges e =
            (hottest temps (fun i => decide (sensorEdge i = some e))).getD (SMap.get (0 : Int) s.pwr.edges e))
        ∧ ((∀ r, r < 20 → (s'.pregion r).temp < 120) → (∀ e, e < 4 → SMap.get (0 : Int) s'.pwr.edges e < 120) →
          s'.pins = s.pins)
        ∧ ((∃ r, r < 20 ∧ 120 ≤ (s'.pregion r).temp) ∨ (∃ e, e < 4 ∧ 120 ≤ SMap.get (0 : Int) s'.pwr.edges e) →
          s'.pins.tripLow = true ∧ s'.pins.vlnk = false ∧ s'.pins.railsOn = false ∧ s'.pins.latchedOff = true)))
    ∧ (∀ i t, i < 480 → s.pins.vlnk = true → s.pins.resetN = true → t < 120 → (∀ r, r < 20 → (s.pregion r).temp < 120) →
      (∀ e, e < 4 → SMap.get (0 : Int) s.pwr.edges e < 120) →
      let r := regionOf i
      let x := { s.pregion r with
        temp := t, skipThermal := skipThermalOf t, hotSeen := (s.pregion r).hotSeen || decide (95 ≤ t),
        windowTemp := max (s.pregion r).windowTemp t }
      ∃ s' : State, exec (.sensorReading [(i, t)]) s = .next s' ∧ (∀ q, q ≠ r → s'.pregion q = s.pregion q)
        ∧ (x.thermalOff = false → t < 110 ∨ x.heatDue = true → s'.pregion r = x ∧ s'.tiles = s.tiles ∧ s'.ctxs = s.ctxs)
        ∧ (x.thermalOff = true → 95 ≤ t → s'.pregion r = x ∧ s'.tiles = s.tiles ∧ s'.ctxs = s.ctxs)
        ∧ (x.thermalOff = false → x.heatDue = false → 110 ≤ t → s.partOfRegion r = none →
          s'.pregion r = { x with thermalOff := true, offSeen := true } ∧ s'.tiles = s.tiles)
        ∧ (∀ p, x.thermalOff = false → x.heatDue = false → 110 ≤ t → s.partOfRegion r = some p →
          s'.pregion r = { x with heatDue := true }
          ∧ (∀ n ∈ ctxsOf p, (s.ctx n).state = .running ∨ (s.ctx n).state = .paused → (s'.ctx n).heatPause = true))
        ∧ (x.thermalOff = true → t < 95 → s.partOfRegion r = none →
          s'.pregion r = { x with thermalOff := false, heatDue := false, resetDue := false }
          ∧ (x.resetDue = false → ∀ n ∈ regionSites r, s'.tile n = reloadCells (s.tile n))))
    ∧ (∀ r, r < 20 →
      ((s.pregion r).heatDue = false ∨ s.regionIdle r = false → exec (.vlogSwitchOff r) s = .next s)
      ∧ ((s.pregion r).heatDue = true → s.regionIdle r = true → ∃ s' : State, exec (.vlogSwitchOff r) s = .next s'
        ∧ s'.pregion r = { s.pregion r with thermalOff := true, heatDue := false, offSeen := true }
        ∧ (∀ q, q ≠ r → s'.pregion q = s.pregion q) ∧ s'.tiles = s.tiles))
    ∧ (∀ w : TelemetryData,
      (s.pwr.telem.on = false ∨ s.clk.tide.toNat < s.pwr.telem.windowEnd ∨ s.pins.vlnk = false →
        exec (.telemetryWindow w) s = .next s)
      ∧ (s.pwr.telem.on = true → s.pwr.telem.windowEnd ≤ s.clk.tide.toNat → s.pins.vlnk = true →
        let t := s.pwr.telem
        let interval := t.interval ≤ t.sinceEvent + 1
        (t.full = true → ∃ s' : State, exec (.telemetryWindow w) s = .next s'
          ∧ s'.pwr.telem = { t with lost := true, droppedSince := true, windowEnd := t.windowEnd + 100000 }
          ∧ s'.out = s.out ∧ (∀ r, r < 20 → (s'.pregion r).windowTemp = (s.pregion r).temp) ∧ s'.tiles = s.tiles)
        ∧ (t.full = false → ∃ s' : State, exec (.telemetryWindow w) s = .next s'
          ∧ s'.pwr.telem = { t with
              producer := (t.producer + 1) % t.records, seq := t.seq + 1, lost := false,
              sinceEvent := if interval then 0 else t.sinceEvent + 1,
              droppedSince := if interval then false else t.droppedSince, windowEnd := t.windowEnd + 100000 }
          ∧ (¬ interval → s'.out = (s.hostOut (t.ring + 256 * t.producer) (s.telemRecord w)).out)
          ∧ (∀ r, r < 20 → (s'.pregion r).windowTemp = (s.pregion r).temp) ∧ s'.tiles = s.tiles)))
    ∧ (∀ measured,
      (s.clk.tide.toNat < s.pwr.driftEnd ∨ s.pins.vlnk = false → exec (.modelDrift measured) s = .next s)
      ∧ (s.pwr.driftEnd ≤ s.clk.tide.toNat → s.pins.vlnk = true →
        let m := s.pwr.modelled - s.pwr.modelledAt
        let e := measured * 1000000000000
        (20 * (max m e - min m e) ≤ e → exec (.modelDrift measured) s = .next
          { s with pwr := { s.pwr with
              modelledAt := s.pwr.modelled, driftRun := 0, driftEnd := s.pwr.driftEnd + 100000000 } })
        ∧ (e < 20 * (max m e - min m e) → s.pwr.driftRun < 2 → exec (.modelDrift measured) s = .next
          { s with pwr := { s.pwr with
              modelledAt := s.pwr.modelled, driftRun := s.pwr.driftRun + 1, driftEnd := s.pwr.driftEnd + 100000000 } })
        ∧ (e < 20 * (max m e - min m e) → 2 ≤ s.pwr.driftRun → s.faults.unhandled < 64 →
          ∃ s' : State, exec (.modelDrift measured) s = .next s' ∧ s'.pwr.modelDrift = true
          ∧ s'.pwr.driftRun = s.pwr.driftRun + 1 ∧ s'.tiles = s.tiles)))

/-- From R485, R486, R490: the alarms of the board and the package. A trigger is recorded: its count, its times, its
detail and the response applied, and ALARM_N goes low; where the response is NOTE nothing else of the device changes
but the event, ERASE destroys the keys of every partition, and TERMINAL blows IDENTITY_END as well. A value inside its
window is no trigger, and a device without its supply or held in reset watches nothing. Readings and choices of the
model that it rests on: log entry 82. -/
def Obligations.Alarms : Prop :=
  ∀ (s : State),
    let response (src : Nat) : Nat := (s.sec.alarms.getD src (Alarm.clear 0)).response
    let noted (s' : State) (src : Nat) (detail : List Byte) : Prop :=
      s'.sec.alarms = (s.noteAlarm src (response src) detail).sec.alarms ∧ s'.pins = { s.pins with alarmLow := true }
      ∧ (response src = respNote → s'.sec = (s.noteAlarm src respNote detail).sec ∧ s'.bring = s.bring ∧ s'.tiles = s.tiles
        ∧ s'.hbm = s.hbm ∧ s'.parts = s.parts ∧ s'.ctxs = s.ctxs)
      ∧ (response src = respErase ∨ response src = respTerminal → s.bring.phase ≠ .alarmed → s.sec.erasing = false →
        ∀ p, p < 20 → (s.part p).valid = true → (s'.part p).hbmKey = none ∧ (s'.part p).xferKey = none)
      ∧ (response src = respTerminal → s'.facts.fuses.identityEnd = true)
    (∀ seg pc, seg < 8 → (s.watches = false ∨ 80 ≤ pc ∧ pc ≤ 120 → exec (.lidMesh seg pc) s = .next s)
      ∧ (s.watches = true → pc < 80 ∨ 120 < pc → ∃ s' : State, exec (.lidMesh seg pc) s = .next s'
        ∧ noted s' 0 (leBytes seg 1 ++ leBytes pc 2)))
    ∧ (∀ rail mV, rail < 45 →
      (s.watches = false ∨ (rail = 44 ∧ 600 ≤ mV ∧ mV ≤ 900) ∨ (40 ≤ rail ∧ rail < 44) ∨ (rail < 40 ∧ mV ≤ 1000) →
        exec (.voltageGlitch rail mV) s = .next s)
      ∧ (s.watches = true → rail < 40 ∧ 1000 < mV ∨ rail = 44 ∧ (mV < 600 ∨ 900 < mV) →
        ∃ s' : State, exec (.voltageGlitch rail mV) s = .next s' ∧ noted s' 1 (leBytes rail 1 ++ leBytes mV 2)))
    ∧ (∀ ps, (s.watches = false ∨ 8000 ≤ ps ∧ ps ≤ 12000 → exec (.clockGlitch 0 ps) s = .next s)
      ∧ (s.watches = false ∨ 1600 ≤ ps → exec (.clockGlitch 1 ps) s = .next s)
      ∧ (s.watches = true → ps < 8000 ∨ 12000 < ps → ∃ s' : State, exec (.clockGlitch 0 ps) s = .next s'
        ∧ noted s' 2 (leBytes 0 1 ++ leBytes ps 4))
      ∧ (s.watches = true → ps < 1600 → ∃ s' : State, exec (.clockGlitch 1 ps) s = .next s'
        ∧ noted s' 2 (leBytes 1 1 ++ leBytes ps 4)))
    ∧ (∀ sensor t, sensor < 2 → (s.watches = false ∨ -20 ≤ t ∧ t ≤ 130 → exec (.temperature sensor t) s = .next s)
      ∧ (s.watches = true → t < -20 ∨ 130 < t → ∃ s' : State, exec (.temperature sensor t) s = .next s'
        ∧ noted s' 3 (leBytes sensor 1 ++ leBytes (twosOf t 16) 2)))
    ∧ (s.watches = false ∨ s.facts.fuses.secureDebug = false → exec .debugPort s = .next s)
    ∧ (s.watches = true → s.facts.fuses.secureDebug = true →
      ∃ s' : State, exec .debugPort s = .next s' ∧ noted s' 4 [])

/-- From R494, R500, R504, R512: handling. The entry taken next is handled and done, of any severity, and one in hand
is suspended by an entry of a higher severity: a notice or a corrected fault changes nothing else, a context-fatal
entry begins the end of its running context, and a partition-fatal entry that of every launched context of its
partition, whose context-fatal entries are done with it. In HALTED a device-fatal entry is done and the others stay as
they stand. A router that fails is out of the mesh, its tile is retired and the stacks behind it leave service; where
it concerns no partition and no stack, nothing else changes. Readings and choices of the model that it rests on: log
entries 87, 99. -/
def Obligations.FaultHandling : Prop :=
  ∀ (s : State),
    (s.pins.vlnk = false ∨ s.pins.resetN = false ∨ s.hm.silent = true ∨ s.sec.erasing = true → exec .faultHandling s = .next s)
    ∧ (s.pins.vlnk = true → s.pins.resetN = true → s.hm.silent = false → s.sec.erasing = false → s.bring.phase = .halted →
      (s.faults.first = none → exec .faultHandling s = .next s)
      ∧ (∀ i e, s.faults.first = some i → s.faults.at i = some e → e.note.sev ≠ 4 → exec .faultHandling s = .next s)
      ∧ (∀ i e, s.faults.first = some i → s.faults.at i = some e → e.note.sev = 4 → i < 256 →
        ∃ s' : State, exec .faultHandling s = .next s' ∧ s'.faults.at i = some { e with st := .done }
          ∧ (∀ j, j ≠ i → s'.faults.at j = s.faults.at j) ∧ s'.tiles = s.tiles ∧ s'.ctxs = s.ctxs ∧ s'.bring = s.bring))
    ∧ (s.pins.vlnk = true → s.pins.resetN = true → s.hm.silent = false → s.sec.erasing = false → s.bring.phase ≠ .halted →
      let inHand := (s.faults.inState (fun st => decide (st = .handling))).head?
      (inHand = none → s.faults.first = none → exec .faultHandling s = .next s)
      ∧ (∀ i e, inHand = none → s.faults.first = some i → s.faults.at i = some e → i < 256 →
        (∃ s' : State, exec .faultHandling s = .next s'
          ∧ (∃ x, s'.faults.at i = some x ∧ x.note = e.note ∧ x.st = .done)
          ∧ (e.note.sev ≤ 1 → s'.faults.at i = some { e with st := .done } ∧ s'.tiles = s.tiles ∧ s'.ctxs = s.ctxs ∧ s'.parts = s.parts ∧ s'.bring = s.bring)
          ∧ (∀ p c, e.note.sev = 2 → e.note.part = some p → e.note.ctx = some c → (s.ctx (ctxNo p c)).state = .running →
            (s.ctx (ctxNo p c)).ending = none →
            s'.ctx (ctxNo p c) = { s.ctx (ctxNo p c) with ending := some (endingOf e.note) }
            ∧ (∀ m, m ≠ ctxNo p c → s'.ctx m = s.ctx m) ∧ s'.parts = s.parts)
          ∧ (∀ p, e.note.sev = 3 → e.note.part = some p → (∀ n ∈ ctxsOf p, (s.ctx n).state ≠ .loading) → s.hm.jobs = [] →
            s.hm.held = [] →
            (∀ n ∈ ctxsOf p, (s.ctx n).launched = true → (s'.ctx n).ending.isSome = true) ∧ s'.parts = s.parts)
          ∧ (∀ p j x, e.note.sev = 3 → e.note.part = some p → s'.faults.at j = some x → x.note.sev = 2 →
            x.note.part = some p → x.st = .done)))
      ∧ (∀ h e, inHand = some h → s.faults.at h = some e → h < 256 →
        (∀ i, s.faults.first = some i → s.faults.preempts i h = false) →
        ∃ s' : State, exec .faultHandling s = .next s'
          ∧ ∃ x, s'.faults.at h = some x ∧ x.note = e.note ∧ x.st = .done)
      ∧ (∀ h i e f, inHand = some h → s.faults.first = some i → s.faults.at h = some f → s.faults.at i = some e →
        h < 256 → i < 256 → i ≠ h → s.faults.preempts i h = true →
        ∃ s' : State, exec .faultHandling s = .next s'
          ∧ (∃ x, s'.faults.at i = some x ∧ x.note = e.note ∧ x.st = .done)
          ∧ (∃ y, s'.faults.at h = some y ∧ y.note = f.note
            ∧ (y.st = .done ∧ f.note.sev = 2 ∧ e.note.sev = 3 ∧ f.note.part = e.note.part ∨ y.st = .suspended
              ∧ ¬(f.note.sev = 2 ∧ e.note.sev = 3 ∧ f.note.part = e.note.part ∧ f.note.part.isSome = true)))))
    ∧ (∀ n, n < 480 →
      (s.bring.phase ≠ .ready ∨ s.bypassed n = true ∨ (s.router n).failed = true → exec (.routerFailed n) s = .next s)
      ∧ (s.bring.phase = .ready → s.bypassed n = false → (s.router n).failed = false →
        ∃ s' : State, exec (.routerFailed n) s = .next s' ∧ (s'.router n).failed = true ∧ s'.siteGood n = false
          ∧ (∀ k, k < 24 → (stackRouters k).1 = n ∨ (stackRouters k).2 = n → (s.stack k).state = .inService →
            (s'.stack k).state = .failed)
          ∧ (s.siteGood n = false → s.routerParts n = [] → s.faults.unhandled < 64 →
            (∀ k, k < 24 → (stackRouters k).1 ≠ n ∧ (stackRouters k).2 ≠ n) →
            s'.router n = { s.router n with failed := true } ∧ s'.tiles = s.tiles ∧ s'.hbm = s.hbm ∧ s'.ctxs = s.ctxs)))

/-- From R387, R449, R451, R453 to R457, R468, R472, R519 to R521: power-up and bring-up, phase by phase. The input
brings the rails up where RESET_N is high, and removing it clears the device; RESET_N low for 10 µs resets it, below 1
µs not, and between the two it may. DARK ends in IDENT, or halts for a lost REFCLK, or is never left; an image that
passes runs and any other halts with its cause; CLOCKS_NET, MEMORIES, LINKS and COMPUTE record what failed and give
way to the next phase, or halt, and READY publishes the floor plan and raises the fused SECVER. A row outside its
phase changes nothing. Readings and choices of the model that it rests on: log entries 25, 83, 84, 85, 100. -/
def Obligations.BringUp : Prop :=
  ∀ (s : State),
    (s.pins.input ≠ 0 → exec .inputApplied s = .next s)
    ∧ (s.pins.input = 0 → ∃ s' : State, exec .inputApplied s = .next s' ∧ s'.pins.input = 50000 ∧ s'.pins.latchedOff = false
      ∧ s'.pins.tripLow = false ∧ s'.bring = s.bring ∧ (s.pins.resetN = true →
        s'.pins.vlnk = true ∧ s'.pins.railsOn = true ∧ s'.pins.pwrgd = true))
    ∧ (∃ s' : State, exec .inputRemoved s = .next s' ∧ s'.pins.input = 0 ∧ s'.pins.vlnk = false ∧ s'.bring.phase = .dark
      ∧ s'.facts = s.facts ∧ s'.hbm.mem = [] ∧ s'.tiles = [] ∧ s'.pins.resetN = s.pins.resetN)
    ∧ (∀ ns, (s.pins.resetN = false ∨ ns ≤ 1000 → exec (.resetNAssert ns) s = .next s)
      ∧ (s.pins.resetN = true → 1000 < ns → ns < 10000 → exec (.resetNAssert ns) s = .next
        (if Config.resetTaken s.freeCtr then { s with freeCtr := s.freeCtr + 1 }.holdReset
         else { s with freeCtr := s.freeCtr + 1 }))
      ∧ (s.pins.resetN = true → 10000 ≤ ns →
        (s.pins.latchedOff = true ∨ s.pins.input = 0 → exec (.resetNAssert ns) s = .next
          { s with pins := { s.pins with resetN := false } })
        ∧ (s.pins.latchedOff = false → s.pins.input ≠ 0 → ∃ s' : State, exec (.resetNAssert ns) s = .next s'
          ∧ s'.pins = { s.pins with resetN := false, railsOn := false, alarmLow := false } ∧ s'.bring.phase = .dark
          ∧ s'.bring.verifyFails = s.bring.verifyFails ∧ s'.facts = s.facts ∧ s'.tiles = [])))
    ∧ (s.pins.resetN = true → exec .resetNRelease s = .next s)
    ∧ (s.pins.resetN = false →
      (s.pins.latchedOff = true ∨ s.pins.input < 45000 → exec .resetNRelease s = .next
        { s with pins := { s.pins with resetN := true } })
      ∧ (s.pins.latchedOff = false → 45000 ≤ s.pins.input → ∃ s' : State, exec .resetNRelease s = .next s'
        ∧ s'.pins.resetN = true ∧ s'.pins.vlnk = true ∧ s'.pins.railsOn = true ∧ s'.bring = s.bring))
    ∧ (∀ d : DarkResult, (∀ x ∈ d.temps, x.1 < 496) →
      (s.bring.phase ≠ .dark ∨ s.pins.vlnk = false ∨ s.pins.resetN = false ∨ s.hm.silent = true →
        exec (.darkComplete d) s = .next s)
      ∧ (s.bring.phase = .dark → s.pins.vlnk = true → s.pins.resetN = true → s.hm.silent = false →
        (d.keysMatch = false ∨ d.memoryOk = false →
          exec (.darkComplete d) s = .next { s with hm := { s.hm with silent := true } })
        ∧ (d.keysMatch = true → d.memoryOk = true → (∀ x ∈ d.temps, x.2 < 120) →
          (∀ r, r < 20 → (s.pregion r).temp < 120 ∧ (s.pregion r).thermalOff = false) →
          (∀ e, e < 4 → SMap.get (0 : Int) s.pwr.edges e < 120) →
          (∀ x ∈ d.mesh, meshOut x.2 = false) ∨ (s.sec.alarms.getD 0 (Alarm.clear 0)).response = respNote →
          ∃ s' : State, exec (.darkComplete d) s = .next s' ∧ (∀ m, m < 4 → (s'.uciModule m).state = .sidebandOnly)
          ∧ (s.faults.has 0x0703 = false → s'.bring.phase = .ident)
          ∧ (s.faults.has 0x0703 = true → s'.bring.phase = .halted ∧ s'.bring.haltCause = causeRefclk))
        ∧ (∀ x, d.keysMatch = true → d.memoryOk = true → d.temps = [x] → 120 ≤ x.2 →
          ∃ s' : State, exec (.darkComplete d) s = .next s' ∧ s'.pins.tripLow = true ∧ s'.pins.vlnk = false)))
    ∧ (s.bring.fetch = none ∨ s.bring.phase ≠ .loading → exec .imageFetchComplete s = .next s)
    ∧ (∀ f, s.bring.fetch = some f → s.bring.phase = .loading →
      (f.isOver = false → exec .imageFetchComplete s = .next s)
      ∧ (f.isOver = true →
        (s.imageCause f = none → ∃ s' : State, exec .imageFetchComplete s = .next s' ∧ s'.bring.phase = .clocksNet
          ∧ s'.bring.secver = fieldBytes f.bytes 6 2 ∧ s'.bring.fwver = fieldBytes f.bytes 8 4 ∧ s'.sec.identityOk = true
          ∧ s'.clk.bin = 32 ∧ s'.tiles = s.tiles)
        ∧ (∀ c, s.imageCause f = some c →
          (c ∉ [causeVerify, causeRollback] → ∃ s' : State, exec .imageFetchComplete s = .next s'
            ∧ s'.bring.phase = .halted ∧ s'.bring.haltCause = c ∧ s'.bring.verifyFails = s.bring.verifyFails)
          ∧ (c ∈ [causeVerify, causeRollback] → ∃ s' : State, exec .imageFetchComplete s = .next s'
            ∧ s'.bring.verifyFails = min (s.bring.verifyFails + 1) 3
            ∧ (s.bring.verifyFails < 2 → s'.bring.phase = .halted ∧ s'.bring.haltCause = c)
            ∧ (2 ≤ s.bring.verifyFails → s'.pins.alarmLow = true)))))
    ∧ (∀ d : ClocksNetResult, (s.bring.phase ≠ .clocksNet → exec (.clocksNetComplete d) s = .next s)
      ∧ (s.bring.phase = .clocksNet →
        (d.refOk = false ∨ s.pins.refclk = false → ∃ s' : State, exec (.clocksNetComplete d) s = .next s'
          ∧ s'.bring.phase = .halted ∧ s'.bring.haltCause = causeRefclk)
        ∧ (d.refOk = true → s.pins.refclk = true → d.meshOk = false → ∃ s' : State, exec (.clocksNetComplete d) s = .next s'
          ∧ s'.bring.phase = .halted ∧ s'.bring.haltCause = causeMeshLock)
        ∧ (d.refOk = true → s.pins.refclk = true → d.meshOk = true → ∃ s' : State, exec (.clocksNetComplete d) s = .next s'
          ∧ s'.clk.meshLocked = true ∧ s'.clk.refOk = true
          ∧ (∀ r ∈ d.oscFailed, r < 20 → (s'.cregion r).oscFailed = true)
          ∧ (∀ n ∈ d.deadRouters, n < 480 → s'.bypassed n = true)
          ∧ (s.modulesUp = [] → s'.bring.phase = .halted ∧ s'.bring.haltCause = causeNoUcie)
          ∧ (d.deadRouters = [] → s.modulesUp ≠ [] → (∀ n, s.bypassed n = false) →
            s'.bring = { s.bring with phase := .memories } ∧ s'.tiles = s.tiles))))
    ∧ (∀ d : MemoriesResult, (s.bring.phase ≠ .memories → exec (.memoriesComplete d) s = .next s)
      ∧ (s.bring.phase = .memories →
        let good (k : Nat) : Bool := stackFitted s.facts k && !d.stacksFailed.contains k && !s.bypassed (stackRouters k).1
          && !s.bypassed (stackRouters k).2
        (d.vlnkOk = false → ∃ s' : State, exec (.memoriesComplete d) s = .next s' ∧ s'.pins.vlnk = false
          ∧ s'.pins.latchedOff = true)
        ∧ (d.vlnkOk = true → ∃ s' : State, exec (.memoriesComplete d) s = .next s' ∧ s'.hbm.mem = []
          ∧ (∀ n ∈ d.sramFailed, n < 480 → s'.siteGood n = false)
          ∧ (∀ r ∈ d.regionsDown, r < 20 → ∀ n ∈ regionSites r, s'.siteGood n = false)
          ∧ (∀ k, k < 24 → stackFitted s.facts k = true → (s'.stack k).state = if good k then .inService else .outOfService)
          ∧ ((∀ k, k < 24 → good k = false ∧ (stackFitted s.facts k = false → (s.stack k).state ≠ .inService)) →
            s'.bring.phase = .halted ∧ s'.bring.haltCause = causeNoHbm)
          ∧ (∀ k, k < 24 → good k = true → s'.bring.phase = .links
            ∧ (d.sramFailed = [] → d.regionsDown = [] → s'.bring = { s.bring with phase := .links })
            ∧ ∀ l, l < 8 → linkFitted s.facts l = true → s.bypassed (linkRouters l).1 = false →
              s.bypassed (linkRouters l).2 = false → (s'.link l).state = .training))))
    ∧ (s.bring.phase ≠ .links ∨ (∃ l, l < 8 ∧ (s.link l).state = .training) → exec .linksComplete s = .next s)
    ∧ (s.bring.phase = .links → (∀ l, l < 8 → (s.link l).state ≠ .training) →
      exec .linksComplete s = .next { s with bring := { s.bring with phase := .compute } })
    ∧ (∀ d : ComputeResult,
      (s.bring.phase ≠ .compute ∨ s.clk.bin ≠ 64 ∨ s.clk.quiescent = true → exec (.computeComplete d) s = .next s)
      ∧ (s.bring.phase = .compute → s.clk.bin = 64 → s.clk.quiescent = false →
        ∃ s' : State, exec (.computeComplete d) s = .next s'
        ∧ (∀ n, n ∈ d.columnsFailed ∨ n ∈ d.testFailed → n < 480 → s'.siteGood n = false)
        ∧ (∀ n, n ∉ d.columnsFailed → n ∉ d.testFailed → s'.siteGood n = s.siteGood n)
        ∧ (s'.goodTiles = 0 → s'.bring.phase = .halted ∧ s'.bring.haltCause = causeNoTile)
        ∧ (0 < s'.goodTiles → s'.bring.published = true
          ∧ s'.facts = { s.facts with fuses := { s.facts.fuses with secver := max s.facts.fuses.secver s.bring.secver } })
        ∧ (0 < s'.goodTiles → gradeMinimum s.facts ≤ s'.goodTiles → s'.bring.phase = .ready ∧ s'.tiles = s.tiles)))

/-- From R524 to R526: the management bus. A private read answers bytes of the management record; a common command
sets the address or the interrupt enable, or is taken without effect; a refresh writes the record, and interrupts
where byte 28 or 29 changed. Without the input nothing answers. Readings and choices of the model that it rests on:
log entry 101. -/
def Obligations.ManagementBus : Prop :=
  ∀ (s : State),
    (∀ m : BoardData, (s.mgmtRecord m).length = 64)
    ∧ (s.pins.input = 0 → (∀ offset len, exec (.i3cPrivateRead offset len) s = .next s)
      ∧ (∀ c, exec (.i3cCommonCommand c) s = .next s) ∧ (∀ m, exec (.managementRecordRefresh m) s = .next s))
    ∧ (s.pins.input ≠ 0 →
      (∀ offset len, exec (.i3cPrivateRead offset len) s
        = .next { s with out := s.out ++ [.i3cData ((s.i3c.record.drop offset).take len)] })
      ∧ (∀ a, exec (.i3cCommonCommand (.setDynamicAddress a)) s = .next { s with i3c := { s.i3c with addr := some a } })
      ∧ exec (.i3cCommonCommand .resetDynamicAddress) s = .next { s with i3c := { s.i3c with addr := none } }
      ∧ (∀ on, exec (.i3cCommonCommand (.enableInterrupts on)) s = .next { s with i3c := { s.i3c with ibi := on } })
      ∧ exec (.i3cCommonCommand .otherWrite) s = .next s
      ∧ (∀ m : BoardData, exec (.managementRecordRefresh m) s = .next
          { s with i3c := { s.i3c with record := s.mgmtRecord m },
                   out := if recordChanged s.i3c.record (s.mgmtRecord m) = true ∧ s.i3c.ibi = true
                     then s.out ++ [.i3cInterrupt] else s.out }))

/-- From R497, R498, R500, R501, R503: the fault log. An occurrence that merges counts up its entry and makes no new
one; any other takes the next free index with the next serial number; in a full backlog of unhandled entries outside
READY one below device-fatal is only counted, and in READY it is a storm, which halts the device. Readings and choices
of the model that it rests on: log entry 87. -/
def Obligations.FaultLogging : Prop :=
  ∀ (s : State) (f : FaultNote), s.hm.silent = false →
    (∀ i e, s.faults.mergeAt s.clk.tide f = some i → s.faults.at i = some e →
      s.logFault f = { s with faults := s.faults.put i { e with
        repeats := satAdd e.repeats 1 0xFFFFFFFF, lastAt := s.clk.tide } })
    ∧ (s.faults.mergeAt s.clk.tide f = none →
      (∀ i, s.faults.unhandled < 64 → s.faults.freeAt = some i → f.sev ≤ 3 →
        let e : LogEntry := ⟨f, .unhandled, 0, s.clk.tide, s.clk.tide, s.faults.serial + 1⟩
        (s.logFault f).faults.at i = some e ∧ e.bytes.length = 64
          ∧ (∀ j, j ≠ i → (s.logFault f).faults.at j = s.faults.at j)
          ∧ (s.logFault f).faults.serial = s.faults.serial + 1 ∧ (s.logFault f).faults.next = (i + 1) % 256
          ∧ (s.logFault f).faults.highest = max s.faults.highest f.sev
          ∧ (s.logFault f).tiles = s.tiles ∧ (s.logFault f).hm = s.hm)
      ∧ (64 ≤ s.faults.unhandled → s.bring.phase ≠ .ready → f.sev ≤ 3 →
        s.logFault f = { s with faults := { s.faults with dropped := satAdd s.faults.dropped 1 0xFFFF } })
      ∧ (64 ≤ s.faults.unhandled → s.bring.phase = .ready →
        (s.logFault f).bring.phase = .halted ∧ (s.logFault f).faults.storm = true))

/-- From R137, R177, R212, R290, R346, R354, R395, R427, R519: what reset leaves, read through the registers where the
spec gives them. The device is in DARK with the tide count at 0, nothing queued and no fault held; ACK_TIMEOUT,
HBM_CONFIG, CAP, the direction tables, the ring's PHASE and MODERATION hold their reset values; no context and no
partition exists; every tile is idle at pc 0 with its registers zero. Readings and choices of the model that it rests
on: log entries 7, 18. -/
def Obligations.ResetState : Prop :=
  let s := State.reset
  s.bring.phase = .dark ∧ s.clk.tide = 0 ∧ s.pending = [] ∧ s.tiles = [] ∧ s.hbm.mem = [] ∧ s.clk.bin = 0
    ∧ s.netDevRead 0x8 = 20 ∧ bitsOf (s.hbmRegRead 0) 0 9 = 0x118 ∧ bitsOf (s.pwrRead 0x8) 0 16 = 0x2710
    ∧ (∀ d, d < 3 → s.fabRead (0x8 + 8 * d) = 0xFFFFFFFFFFFFFFFC) ∧ bitOf (s.uciRead 0x20) 16 = true
    ∧ bitsOf (s.uciRead 0x30) 0 8 = 2 ∧ s.faults.unhandled = 0
    ∧ (∀ n, n < 160 → (s.ctx n).state = .none) ∧ (∀ p, p < 20 → (s.part p).valid = false)
    ∧ (∀ t, t < 480 → (s.tile t).seq.mode = .idle ∧ (s.tile t).seq.pc = 0 ∧ ∀ g, (s.tile t).greg g = 0)

/-- From R140 to R169: decoding the words of an instruction gives it back, for every instruction of a tile program
whose fields the encodings admit, at every value of every operand; one word suffices where bit 7 of it is 0. That no
bit of an encoding is dropped is derived from the encodings; the encoder is the model's. -/
def Obligations.TileProgramEncoding : Prop :=
  ∀ i : TInstr, i.wf = true →
    decodeT (encodeT i) = some i ∧ encodeT i < 2 ^ 64
      ∧ (lengthT i = 4 → encodeT i < 2 ^ 32) ∧ (lengthT i = 8 → bitOf (encodeT i) 7 = true)

/-- From R472, R486, R497: whatever a step does, the module's facts stay as they are but for two fuses that are only
ever blown: the fused SECVER never falls, and IDENTITY_END once blown stays so. Readings and choices of the model that
it rests on: log entry 18. -/
def Obligations.FusesAreOnlyBlown : Prop :=
  ∀ s s' : State, step s = .next s' →
    s'.facts = { s.facts with fuses := { s.facts.fuses with
      secver := s'.facts.fuses.secver, identityEnd := s'.facts.fuses.identityEnd } }
    ∧ s.facts.fuses.secver ≤ s'.facts.fuses.secver
    ∧ (s.facts.fuses.identityEnd = true → s'.facts.fuses.identityEnd = true)
end

