-- ==== Sys2Proof/Laws/SMap.lean ====
section
/-! SUPPORT. The laws of sparse files: what a read gives after a write, and that every operation keeps
the canonical form. -/

namespace Sys2Proof.Machine

theorem SMap.get_put_same {α : Type} (d : α) (m : SMap α) (k : Nat) (v : α) :
    SMap.get d (SMap.put k v m) k = v := by
  induction m with
  | nil => simp [SMap.put, SMap.get]
  | cons e m ih =>
    obtain ⟨k', v'⟩ := e
    simp only [SMap.put]
    split
    · simp [SMap.get]
    · split
      · simp [SMap.get]
      · next h => simp [SMap.get, h, ih]

theorem SMap.get_put_other {α : Type} (d : α) (m : SMap α) (k j : Nat) (v : α) (h : j ≠ k) :
    SMap.get d (SMap.put k v m) j = SMap.get d m j := by
  induction m with
  | nil => simp [SMap.put, SMap.get, h]
  | cons e m ih =>
    obtain ⟨k', v'⟩ := e
    simp only [SMap.put]
    split
    · simp [SMap.get, h]
    · split
      · next hk => subst hk; simp [SMap.get, h]
      · simp [SMap.get, ih]

theorem SMap.get_drop_other {α : Type} (d : α) (m : SMap α) (k j : Nat) (h : j ≠ k) :
    SMap.get d (SMap.drop k m) j = SMap.get d m j := by
  induction m with
  | nil => rfl
  | cons e m ih =>
    obtain ⟨k', v'⟩ := e
    simp only [SMap.drop]
    split
    · next hk => subst hk; simp [SMap.get, h, ih]
    · simp [SMap.get, ih]

theorem SMap.get_of_wfFrom_lt {α : Type} [DecidableEq α] (d : α) (m : SMap α) :
    ∀ lo k, SMap.wfFrom d lo m = true → k < lo → SMap.get d m k = d := by
  induction m with
  | nil => intros; rfl
  | cons e m ih =>
    obtain ⟨k', v'⟩ := e
    intro lo k h hk
    simp only [SMap.wfFrom, Bool.and_eq_true, decide_eq_true_eq] at h
    have hne : k ≠ k' := by omega
    simp only [SMap.get, hne, if_false]
    exact ih (k' + 1) k h.2 (by omega)

@[simp] theorem SMap.get_drop_same {α : Type} (d : α) (m : SMap α) (k : Nat) :
    SMap.get d (SMap.drop k m) k = d := by
  induction m with
  | nil => rfl
  | cons e m ih =>
    obtain ⟨k', v'⟩ := e
    simp only [SMap.drop]
    split
    · exact ih
    · next hk => simp only [SMap.get, hk, if_false]; exact ih

/-- A read after a write to the same key gives the value written. -/
@[simp] theorem SMap.get_set_same {α : Type} [DecidableEq α] (d : α) (m : SMap α) (k : Nat) (v : α) :
    SMap.get d (SMap.set d m k v) k = v := by
  unfold SMap.set
  split
  · next hv => rw [SMap.get_drop_same d m k, hv]
  · exact SMap.get_put_same d m k v

/-- A write leaves every other key alone. -/
@[simp] theorem SMap.get_set_other {α : Type} [DecidableEq α] (d : α) (m : SMap α) (k j : Nat) (v : α)
    (h : j ≠ k) : SMap.get d (SMap.set d m k v) j = SMap.get d m j := by
  unfold SMap.set
  split
  · exact SMap.get_drop_other d m k j h
  · exact SMap.get_put_other d m k j v h

theorem SMap.wfFrom_mono {α : Type} [DecidableEq α] (d : α) (m : SMap α) (lo lo' : Nat)
    (hl : lo' ≤ lo) (h : SMap.wfFrom d lo m = true) : SMap.wfFrom d lo' m = true := by
  cases m with
  | nil => rfl
  | cons e m =>
    obtain ⟨k', v'⟩ := e
    simp only [SMap.wfFrom, Bool.and_eq_true, decide_eq_true_eq] at h ⊢
    exact ⟨⟨by omega, h.1.2⟩, h.2⟩

theorem SMap.wfFrom_put {α : Type} [DecidableEq α] (d : α) (k : Nat) (v : α) (hv : v ≠ d) (m : SMap α) :
    ∀ lo, lo ≤ k → SMap.wfFrom d lo m = true → SMap.wfFrom d lo (SMap.put k v m) = true := by
  induction m with
  | nil => intro lo hl _; simp [SMap.put, SMap.wfFrom, hl, hv]
  | cons e m ih =>
    obtain ⟨k', v'⟩ := e
    intro lo hl h
    simp only [SMap.wfFrom, Bool.and_eq_true, decide_eq_true_eq] at h
    simp only [SMap.put]
    split
    · simp only [SMap.wfFrom, Bool.and_eq_true, decide_eq_true_eq]
      exact ⟨⟨hl, hv⟩, ⟨by omega, h.1.2⟩, h.2⟩
    · split
      · next hk =>
        subst hk
        simp only [SMap.wfFrom, Bool.and_eq_true, decide_eq_true_eq]
        exact ⟨⟨hl, hv⟩, h.2⟩
      · simp only [SMap.wfFrom, Bool.and_eq_true, decide_eq_true_eq]
        exact ⟨h.1, ih (k' + 1) (by omega) h.2⟩

theorem SMap.wfFrom_drop {α : Type} [DecidableEq α] (d : α) (k : Nat) (m : SMap α) :
    ∀ lo, SMap.wfFrom d lo m = true → SMap.wfFrom d lo (SMap.drop k m) = true := by
  induction m with
  | nil => intros; rfl
  | cons e m ih =>
    obtain ⟨k', v'⟩ := e
    intro lo h
    simp only [SMap.wfFrom, Bool.and_eq_true, decide_eq_true_eq] at h
    simp only [SMap.drop]
    split
    · exact SMap.wfFrom_mono d _ (k' + 1) lo (by omega) (ih (k' + 1) h.2)
    · simp only [SMap.wfFrom, Bool.and_eq_true, decide_eq_true_eq]
      exact ⟨h.1, ih (k' + 1) h.2⟩

/-- A write keeps the canonical form. -/
theorem SMap.wf_set {α : Type} [DecidableEq α] (d : α) (m : SMap α) (k : Nat) (v : α)
    (h : SMap.wf d m = true) : SMap.wf d (SMap.set d m k v) = true := by
  unfold SMap.set
  split
  · exact SMap.wfFrom_drop d k m 0 h
  · next hv => exact SMap.wfFrom_put d k v hv m 0 (Nat.zero_le k) h

theorem SMap.wf_mod {α : Type} [DecidableEq α] (d : α) (m : SMap α) (k : Nat) (f : α → α)
    (h : SMap.wf d m = true) : SMap.wf d (SMap.mod d m k f) = true := SMap.wf_set d m k _ h

theorem SMap.wfFrom_keep {α : Type} [DecidableEq α] (d : α) (p : Nat → Bool) (m : SMap α) :
    ∀ lo, SMap.wfFrom d lo m = true → SMap.wfFrom d lo (SMap.keep p m) = true := by
  induction m with
  | nil => intros; rfl
  | cons e m ih =>
    obtain ⟨k', v'⟩ := e
    intro lo h
    simp only [SMap.wfFrom, Bool.and_eq_true, decide_eq_true_eq] at h
    simp only [SMap.keep]
    split
    · simp only [SMap.wfFrom, Bool.and_eq_true, decide_eq_true_eq]
      exact ⟨h.1, ih (k' + 1) h.2⟩
    · exact SMap.wfFrom_mono d _ (k' + 1) lo (by omega) (ih (k' + 1) h.2)

theorem SMap.wf_keep {α : Type} [DecidableEq α] (d : α) (p : Nat → Bool) (m : SMap α)
    (h : SMap.wf d m = true) : SMap.wf d (SMap.keep p m) = true := SMap.wfFrom_keep d p m 0 h

theorem SMap.wfFrom_mapAll {α : Type} [DecidableEq α] (d : α) (f : Nat → α → α) (m : SMap α) :
    ∀ lo, SMap.wfFrom d lo m = true → SMap.wfFrom d lo (SMap.mapAll d f m) = true := by
  induction m with
  | nil => intros; rfl
  | cons e m ih =>
    obtain ⟨k', v'⟩ := e
    intro lo h
    simp only [SMap.wfFrom, Bool.and_eq_true, decide_eq_true_eq] at h
    simp only [SMap.mapAll]
    split
    · exact SMap.wfFrom_mono d _ (k' + 1) lo (by omega) (ih (k' + 1) h.2)
    · next hv =>
      simp only [SMap.wfFrom, Bool.and_eq_true, decide_eq_true_eq]
      exact ⟨⟨h.1.1, hv⟩, ih (k' + 1) h.2⟩

theorem SMap.wf_mapAll {α : Type} [DecidableEq α] (d : α) (f : Nat → α → α) (m : SMap α)
    (h : SMap.wf d m = true) : SMap.wf d (SMap.mapAll d f m) = true := SMap.wfFrom_mapAll d f m 0 h

/-- Every memory operation keeps the canonical form: one byte. -/
theorem Memory.wf_write (m : Memory) (a : Nat) (b : Byte) (h : Memory.wf m = true) :
    Memory.wf (Memory.write m a b) = true := SMap.wf_set 0 m a b h

/-- Every memory operation keeps the canonical form: a run of bytes. -/
theorem Memory.wf_writeBytes (bs : List Byte) :
    ∀ (m : Memory) (a : Nat), Memory.wf m = true → Memory.wf (Memory.writeBytes m a bs) = true := by
  induction bs with
  | nil => intro m a h; exact h
  | cons b bs ih => intro m a h; exact ih _ _ (Memory.wf_write m a b h)

/-- Every memory operation keeps the canonical form: zeroing. -/
theorem Memory.wf_zero (m : Memory) (lo hi : Nat) (h : Memory.wf m = true) :
    Memory.wf (Memory.zero m lo hi) = true := SMap.wf_keep 0 _ m h

/-- A byte written reads back. -/
@[simp] theorem Memory.read_write_same (m : Memory) (a : Nat) (b : Byte) :
    Memory.read (Memory.write m a b) a = b := SMap.get_set_same 0 m a b

/-- A byte write leaves every other address alone. -/
@[simp] theorem Memory.read_write_other (m : Memory) (a c : Nat) (b : Byte) (h : c ≠ a) :
    Memory.read (Memory.write m a b) c = Memory.read m c := SMap.get_set_other 0 m a c b h

/-- A run of bytes written leaves every address outside the run alone. -/
theorem Memory.read_writeBytes_other (bs : List Byte) :
    ∀ (m : Memory) (a c : Nat), (c < a ∨ a + bs.length ≤ c) →
      Memory.read (Memory.writeBytes m a bs) c = Memory.read m c := by
  induction bs with
  | nil => intros; rfl
  | cons b bs ih =>
    intro m a c h
    simp only [Memory.writeBytes, List.length_cons] at h ⊢
    rw [ih (Memory.write m a b) (a + 1) c (by omega)]
    exact Memory.read_write_other m a c b (by omega)

/-- A run of bytes written reads back. -/
theorem Memory.read_writeBytes_same (bs : List Byte) :
    ∀ (m : Memory) (a i : Nat) (hi : i < bs.length),
      Memory.read (Memory.writeBytes m a bs) (a + i) = bs[i] := by
  induction bs with
  | nil => intro m a i hi; simp at hi
  | cons b bs ih =>
    intro m a i hi
    simp only [Memory.writeBytes]
    cases i with
    | zero =>
      rw [Memory.read_writeBytes_other bs _ (a + 1) (a + 0) (by omega)]
      simp
    | succ j =>
      have := ih (Memory.write m a b) (a + 1) j (by simpa using hi)
      rw [show a + (j + 1) = a + 1 + j by omega]
      simpa using this

end Sys2Proof.Machine
end

