-- ==== Sys2Proof/Laws/State.lean ====
section
/-! SUPPORT. What each update of the state leaves alone, one lemma for each field, and what a read gives after a write. -/

namespace Sys2Proof.Machine

variable (s : State)

/-! ### setPart -/

@[simp] theorem State.setPart_facts (p : Nat) (v : Partn) : (s.setPart p v).facts = s.facts := rfl
@[simp] theorem State.setPart_pins (p : Nat) (v : Partn) : (s.setPart p v).pins = s.pins := rfl
@[simp] theorem State.setPart_bring (p : Nat) (v : Partn) : (s.setPart p v).bring = s.bring := rfl
@[simp] theorem State.setPart_hm (p : Nat) (v : Partn) : (s.setPart p v).hm = s.hm := rfl
@[simp] theorem State.setPart_uci (p : Nat) (v : Partn) : (s.setPart p v).uci = s.uci := rfl
@[simp] theorem State.setPart_sec (p : Nat) (v : Partn) : (s.setPart p v).sec = s.sec := rfl
@[simp] theorem State.setPart_faults (p : Nat) (v : Partn) : (s.setPart p v).faults = s.faults := rfl
@[simp] theorem State.setPart_clk (p : Nat) (v : Partn) : (s.setPart p v).clk = s.clk := rfl
@[simp] theorem State.setPart_pwr (p : Nat) (v : Partn) : (s.setPart p v).pwr = s.pwr := rfl
@[simp] theorem State.setPart_fab (p : Nat) (v : Partn) : (s.setPart p v).fab = s.fab := rfl
@[simp] theorem State.setPart_net (p : Nat) (v : Partn) : (s.setPart p v).net = s.net := rfl
@[simp] theorem State.setPart_hbm (p : Nat) (v : Partn) : (s.setPart p v).hbm = s.hbm := rfl
@[simp] theorem State.setPart_ctxs (p : Nat) (v : Partn) : (s.setPart p v).ctxs = s.ctxs := rfl
@[simp] theorem State.setPart_tiles (p : Nat) (v : Partn) : (s.setPart p v).tiles = s.tiles := rfl
@[simp] theorem State.setPart_i3c (p : Nat) (v : Partn) : (s.setPart p v).i3c = s.i3c := rfl
@[simp] theorem State.setPart_out (p : Nat) (v : Partn) : (s.setPart p v).out = s.out := rfl
@[simp] theorem State.setPart_freeCtr (p : Nat) (v : Partn) : (s.setPart p v).freeCtr = s.freeCtr := rfl
@[simp] theorem State.setPart_pending (p : Nat) (v : Partn) : (s.setPart p v).pending = s.pending := rfl

/-! ### setCtx -/

@[simp] theorem State.setCtx_facts (n : Nat) (v : Ctxt) : (s.setCtx n v).facts = s.facts := rfl
@[simp] theorem State.setCtx_pins (n : Nat) (v : Ctxt) : (s.setCtx n v).pins = s.pins := rfl
@[simp] theorem State.setCtx_bring (n : Nat) (v : Ctxt) : (s.setCtx n v).bring = s.bring := rfl
@[simp] theorem State.setCtx_hm (n : Nat) (v : Ctxt) : (s.setCtx n v).hm = s.hm := rfl
@[simp] theorem State.setCtx_uci (n : Nat) (v : Ctxt) : (s.setCtx n v).uci = s.uci := rfl
@[simp] theorem State.setCtx_sec (n : Nat) (v : Ctxt) : (s.setCtx n v).sec = s.sec := rfl
@[simp] theorem State.setCtx_faults (n : Nat) (v : Ctxt) : (s.setCtx n v).faults = s.faults := rfl
@[simp] theorem State.setCtx_clk (n : Nat) (v : Ctxt) : (s.setCtx n v).clk = s.clk := rfl
@[simp] theorem State.setCtx_pwr (n : Nat) (v : Ctxt) : (s.setCtx n v).pwr = s.pwr := rfl
@[simp] theorem State.setCtx_fab (n : Nat) (v : Ctxt) : (s.setCtx n v).fab = s.fab := rfl
@[simp] theorem State.setCtx_net (n : Nat) (v : Ctxt) : (s.setCtx n v).net = s.net := rfl
@[simp] theorem State.setCtx_hbm (n : Nat) (v : Ctxt) : (s.setCtx n v).hbm = s.hbm := rfl
@[simp] theorem State.setCtx_parts (n : Nat) (v : Ctxt) : (s.setCtx n v).parts = s.parts := rfl
@[simp] theorem State.setCtx_tiles (n : Nat) (v : Ctxt) : (s.setCtx n v).tiles = s.tiles := rfl
@[simp] theorem State.setCtx_i3c (n : Nat) (v : Ctxt) : (s.setCtx n v).i3c = s.i3c := rfl
@[simp] theorem State.setCtx_out (n : Nat) (v : Ctxt) : (s.setCtx n v).out = s.out := rfl
@[simp] theorem State.setCtx_freeCtr (n : Nat) (v : Ctxt) : (s.setCtx n v).freeCtr = s.freeCtr := rfl
@[simp] theorem State.setCtx_pending (n : Nat) (v : Ctxt) : (s.setCtx n v).pending = s.pending := rfl

/-! ### setTile -/

@[simp] theorem State.setTile_facts (n : Nat) (v : Tile) : (s.setTile n v).facts = s.facts := rfl
@[simp] theorem State.setTile_pins (n : Nat) (v : Tile) : (s.setTile n v).pins = s.pins := rfl
@[simp] theorem State.setTile_bring (n : Nat) (v : Tile) : (s.setTile n v).bring = s.bring := rfl
@[simp] theorem State.setTile_hm (n : Nat) (v : Tile) : (s.setTile n v).hm = s.hm := rfl
@[simp] theorem State.setTile_uci (n : Nat) (v : Tile) : (s.setTile n v).uci = s.uci := rfl
@[simp] theorem State.setTile_sec (n : Nat) (v : Tile) : (s.setTile n v).sec = s.sec := rfl
@[simp] theorem State.setTile_faults (n : Nat) (v : Tile) : (s.setTile n v).faults = s.faults := rfl
@[simp] theorem State.setTile_clk (n : Nat) (v : Tile) : (s.setTile n v).clk = s.clk := rfl
@[simp] theorem State.setTile_pwr (n : Nat) (v : Tile) : (s.setTile n v).pwr = s.pwr := rfl
@[simp] theorem State.setTile_fab (n : Nat) (v : Tile) : (s.setTile n v).fab = s.fab := rfl
@[simp] theorem State.setTile_net (n : Nat) (v : Tile) : (s.setTile n v).net = s.net := rfl
@[simp] theorem State.setTile_hbm (n : Nat) (v : Tile) : (s.setTile n v).hbm = s.hbm := rfl
@[simp] theorem State.setTile_parts (n : Nat) (v : Tile) : (s.setTile n v).parts = s.parts := rfl
@[simp] theorem State.setTile_ctxs (n : Nat) (v : Tile) : (s.setTile n v).ctxs = s.ctxs := rfl
@[simp] theorem State.setTile_i3c (n : Nat) (v : Tile) : (s.setTile n v).i3c = s.i3c := rfl
@[simp] theorem State.setTile_out (n : Nat) (v : Tile) : (s.setTile n v).out = s.out := rfl
@[simp] theorem State.setTile_freeCtr (n : Nat) (v : Tile) : (s.setTile n v).freeCtr = s.freeCtr := rfl
@[simp] theorem State.setTile_pending (n : Nat) (v : Tile) : (s.setTile n v).pending = s.pending := rfl

/-! ### setRouter -/

@[simp] theorem State.setRouter_facts (n : Nat) (v : Router) : (s.setRouter n v).facts = s.facts := rfl
@[simp] theorem State.setRouter_pins (n : Nat) (v : Router) : (s.setRouter n v).pins = s.pins := rfl
@[simp] theorem State.setRouter_bring (n : Nat) (v : Router) : (s.setRouter n v).bring = s.bring := rfl
@[simp] theorem State.setRouter_hm (n : Nat) (v : Router) : (s.setRouter n v).hm = s.hm := rfl
@[simp] theorem State.setRouter_uci (n : Nat) (v : Router) : (s.setRouter n v).uci = s.uci := rfl
@[simp] theorem State.setRouter_sec (n : Nat) (v : Router) : (s.setRouter n v).sec = s.sec := rfl
@[simp] theorem State.setRouter_faults (n : Nat) (v : Router) : (s.setRouter n v).faults = s.faults := rfl
@[simp] theorem State.setRouter_clk (n : Nat) (v : Router) : (s.setRouter n v).clk = s.clk := rfl
@[simp] theorem State.setRouter_pwr (n : Nat) (v : Router) : (s.setRouter n v).pwr = s.pwr := rfl
@[simp] theorem State.setRouter_fab (n : Nat) (v : Router) : (s.setRouter n v).fab = s.fab := rfl
@[simp] theorem State.setRouter_hbm (n : Nat) (v : Router) : (s.setRouter n v).hbm = s.hbm := rfl
@[simp] theorem State.setRouter_parts (n : Nat) (v : Router) : (s.setRouter n v).parts = s.parts := rfl
@[simp] theorem State.setRouter_ctxs (n : Nat) (v : Router) : (s.setRouter n v).ctxs = s.ctxs := rfl
@[simp] theorem State.setRouter_tiles (n : Nat) (v : Router) : (s.setRouter n v).tiles = s.tiles := rfl
@[simp] theorem State.setRouter_i3c (n : Nat) (v : Router) : (s.setRouter n v).i3c = s.i3c := rfl
@[simp] theorem State.setRouter_out (n : Nat) (v : Router) : (s.setRouter n v).out = s.out := rfl
@[simp] theorem State.setRouter_freeCtr (n : Nat) (v : Router) : (s.setRouter n v).freeCtr = s.freeCtr := rfl
@[simp] theorem State.setRouter_pending (n : Nat) (v : Router) : (s.setRouter n v).pending = s.pending := rfl

/-! ### setLink -/

@[simp] theorem State.setLink_facts (n : Nat) (v : Link) : (s.setLink n v).facts = s.facts := rfl
@[simp] theorem State.setLink_pins (n : Nat) (v : Link) : (s.setLink n v).pins = s.pins := rfl
@[simp] theorem State.setLink_bring (n : Nat) (v : Link) : (s.setLink n v).bring = s.bring := rfl
@[simp] theorem State.setLink_hm (n : Nat) (v : Link) : (s.setLink n v).hm = s.hm := rfl
@[simp] theorem State.setLink_uci (n : Nat) (v : Link) : (s.setLink n v).uci = s.uci := rfl
@[simp] theorem State.setLink_sec (n : Nat) (v : Link) : (s.setLink n v).sec = s.sec := rfl
@[simp] theorem State.setLink_faults (n : Nat) (v : Link) : (s.setLink n v).faults = s.faults := rfl
@[simp] theorem State.setLink_clk (n : Nat) (v : Link) : (s.setLink n v).clk = s.clk := rfl
@[simp] theorem State.setLink_pwr (n : Nat) (v : Link) : (s.setLink n v).pwr = s.pwr := rfl
@[simp] theorem State.setLink_net (n : Nat) (v : Link) : (s.setLink n v).net = s.net := rfl
@[simp] theorem State.setLink_hbm (n : Nat) (v : Link) : (s.setLink n v).hbm = s.hbm := rfl
@[simp] theorem State.setLink_parts (n : Nat) (v : Link) : (s.setLink n v).parts = s.parts := rfl
@[simp] theorem State.setLink_ctxs (n : Nat) (v : Link) : (s.setLink n v).ctxs = s.ctxs := rfl
@[simp] theorem State.setLink_tiles (n : Nat) (v : Link) : (s.setLink n v).tiles = s.tiles := rfl
@[simp] theorem State.setLink_i3c (n : Nat) (v : Link) : (s.setLink n v).i3c = s.i3c := rfl
@[simp] theorem State.setLink_out (n : Nat) (v : Link) : (s.setLink n v).out = s.out := rfl
@[simp] theorem State.setLink_freeCtr (n : Nat) (v : Link) : (s.setLink n v).freeCtr = s.freeCtr := rfl
@[simp] theorem State.setLink_pending (n : Nat) (v : Link) : (s.setLink n v).pending = s.pending := rfl

/-! ### setStack -/

@[simp] theorem State.setStack_facts (n : Nat) (v : Stack) : (s.setStack n v).facts = s.facts := rfl
@[simp] theorem State.setStack_pins (n : Nat) (v : Stack) : (s.setStack n v).pins = s.pins := rfl
@[simp] theorem State.setStack_bring (n : Nat) (v : Stack) : (s.setStack n v).bring = s.bring := rfl
@[simp] theorem State.setStack_hm (n : Nat) (v : Stack) : (s.setStack n v).hm = s.hm := rfl
@[simp] theorem State.setStack_uci (n : Nat) (v : Stack) : (s.setStack n v).uci = s.uci := rfl
@[simp] theorem State.setStack_sec (n : Nat) (v : Stack) : (s.setStack n v).sec = s.sec := rfl
@[simp] theorem State.setStack_faults (n : Nat) (v : Stack) : (s.setStack n v).faults = s.faults := rfl
@[simp] theorem State.setStack_clk (n : Nat) (v : Stack) : (s.setStack n v).clk = s.clk := rfl
@[simp] theorem State.setStack_pwr (n : Nat) (v : Stack) : (s.setStack n v).pwr = s.pwr := rfl
@[simp] theorem State.setStack_fab (n : Nat) (v : Stack) : (s.setStack n v).fab = s.fab := rfl
@[simp] theorem State.setStack_net (n : Nat) (v : Stack) : (s.setStack n v).net = s.net := rfl
@[simp] theorem State.setStack_parts (n : Nat) (v : Stack) : (s.setStack n v).parts = s.parts := rfl
@[simp] theorem State.setStack_ctxs (n : Nat) (v : Stack) : (s.setStack n v).ctxs = s.ctxs := rfl
@[simp] theorem State.setStack_tiles (n : Nat) (v : Stack) : (s.setStack n v).tiles = s.tiles := rfl
@[simp] theorem State.setStack_i3c (n : Nat) (v : Stack) : (s.setStack n v).i3c = s.i3c := rfl
@[simp] theorem State.setStack_out (n : Nat) (v : Stack) : (s.setStack n v).out = s.out := rfl
@[simp] theorem State.setStack_freeCtr (n : Nat) (v : Stack) : (s.setStack n v).freeCtr = s.freeCtr := rfl
@[simp] theorem State.setStack_pending (n : Nat) (v : Stack) : (s.setStack n v).pending = s.pending := rfl

/-! ### setRail -/

@[simp] theorem State.setRail_facts (n : Nat) (v : Rail) : (s.setRail n v).facts = s.facts := rfl
@[simp] theorem State.setRail_pins (n : Nat) (v : Rail) : (s.setRail n v).pins = s.pins := rfl
@[simp] theorem State.setRail_bring (n : Nat) (v : Rail) : (s.setRail n v).bring = s.bring := rfl
@[simp] theorem State.setRail_hm (n : Nat) (v : Rail) : (s.setRail n v).hm = s.hm := rfl
@[simp] theorem State.setRail_uci (n : Nat) (v : Rail) : (s.setRail n v).uci = s.uci := rfl
@[simp] theorem State.setRail_sec (n : Nat) (v : Rail) : (s.setRail n v).sec = s.sec := rfl
@[simp] theorem State.setRail_faults (n : Nat) (v : Rail) : (s.setRail n v).faults = s.faults := rfl
@[simp] theorem State.setRail_clk (n : Nat) (v : Rail) : (s.setRail n v).clk = s.clk := rfl
@[simp] theorem State.setRail_fab (n : Nat) (v : Rail) : (s.setRail n v).fab = s.fab := rfl
@[simp] theorem State.setRail_net (n : Nat) (v : Rail) : (s.setRail n v).net = s.net := rfl
@[simp] theorem State.setRail_hbm (n : Nat) (v : Rail) : (s.setRail n v).hbm = s.hbm := rfl
@[simp] theorem State.setRail_parts (n : Nat) (v : Rail) : (s.setRail n v).parts = s.parts := rfl
@[simp] theorem State.setRail_ctxs (n : Nat) (v : Rail) : (s.setRail n v).ctxs = s.ctxs := rfl
@[simp] theorem State.setRail_tiles (n : Nat) (v : Rail) : (s.setRail n v).tiles = s.tiles := rfl
@[simp] theorem State.setRail_i3c (n : Nat) (v : Rail) : (s.setRail n v).i3c = s.i3c := rfl
@[simp] theorem State.setRail_out (n : Nat) (v : Rail) : (s.setRail n v).out = s.out := rfl
@[simp] theorem State.setRail_freeCtr (n : Nat) (v : Rail) : (s.setRail n v).freeCtr = s.freeCtr := rfl
@[simp] theorem State.setRail_pending (n : Nat) (v : Rail) : (s.setRail n v).pending = s.pending := rfl

/-! ### modPart -/

@[simp] theorem State.modPart_facts (p : Nat) (f : Partn → Partn) : (s.modPart p f).facts = s.facts := rfl
@[simp] theorem State.modPart_pins (p : Nat) (f : Partn → Partn) : (s.modPart p f).pins = s.pins := rfl
@[simp] theorem State.modPart_bring (p : Nat) (f : Partn → Partn) : (s.modPart p f).bring = s.bring := rfl
@[simp] theorem State.modPart_hm (p : Nat) (f : Partn → Partn) : (s.modPart p f).hm = s.hm := rfl
@[simp] theorem State.modPart_uci (p : Nat) (f : Partn → Partn) : (s.modPart p f).uci = s.uci := rfl
@[simp] theorem State.modPart_sec (p : Nat) (f : Partn → Partn) : (s.modPart p f).sec = s.sec := rfl
@[simp] theorem State.modPart_faults (p : Nat) (f : Partn → Partn) : (s.modPart p f).faults = s.faults := rfl
@[simp] theorem State.modPart_clk (p : Nat) (f : Partn → Partn) : (s.modPart p f).clk = s.clk := rfl
@[simp] theorem State.modPart_pwr (p : Nat) (f : Partn → Partn) : (s.modPart p f).pwr = s.pwr := rfl
@[simp] theorem State.modPart_fab (p : Nat) (f : Partn → Partn) : (s.modPart p f).fab = s.fab := rfl
@[simp] theorem State.modPart_net (p : Nat) (f : Partn → Partn) : (s.modPart p f).net = s.net := rfl
@[simp] theorem State.modPart_hbm (p : Nat) (f : Partn → Partn) : (s.modPart p f).hbm = s.hbm := rfl
@[simp] theorem State.modPart_ctxs (p : Nat) (f : Partn → Partn) : (s.modPart p f).ctxs = s.ctxs := rfl
@[simp] theorem State.modPart_tiles (p : Nat) (f : Partn → Partn) : (s.modPart p f).tiles = s.tiles := rfl
@[simp] theorem State.modPart_i3c (p : Nat) (f : Partn → Partn) : (s.modPart p f).i3c = s.i3c := rfl
@[simp] theorem State.modPart_out (p : Nat) (f : Partn → Partn) : (s.modPart p f).out = s.out := rfl
@[simp] theorem State.modPart_freeCtr (p : Nat) (f : Partn → Partn) : (s.modPart p f).freeCtr = s.freeCtr := rfl
@[simp] theorem State.modPart_pending (p : Nat) (f : Partn → Partn) : (s.modPart p f).pending = s.pending := rfl

/-! ### modCtx -/

@[simp] theorem State.modCtx_facts (n : Nat) (f : Ctxt → Ctxt) : (s.modCtx n f).facts = s.facts := rfl
@[simp] theorem State.modCtx_pins (n : Nat) (f : Ctxt → Ctxt) : (s.modCtx n f).pins = s.pins := rfl
@[simp] theorem State.modCtx_bring (n : Nat) (f : Ctxt → Ctxt) : (s.modCtx n f).bring = s.bring := rfl
@[simp] theorem State.modCtx_hm (n : Nat) (f : Ctxt → Ctxt) : (s.modCtx n f).hm = s.hm := rfl
@[simp] theorem State.modCtx_uci (n : Nat) (f : Ctxt → Ctxt) : (s.modCtx n f).uci = s.uci := rfl
@[simp] theorem State.modCtx_sec (n : Nat) (f : Ctxt → Ctxt) : (s.modCtx n f).sec = s.sec := rfl
@[simp] theorem State.modCtx_faults (n : Nat) (f : Ctxt → Ctxt) : (s.modCtx n f).faults = s.faults := rfl
@[simp] theorem State.modCtx_clk (n : Nat) (f : Ctxt → Ctxt) : (s.modCtx n f).clk = s.clk := rfl
@[simp] theorem State.modCtx_pwr (n : Nat) (f : Ctxt → Ctxt) : (s.modCtx n f).pwr = s.pwr := rfl
@[simp] theorem State.modCtx_fab (n : Nat) (f : Ctxt → Ctxt) : (s.modCtx n f).fab = s.fab := rfl
@[simp] theorem State.modCtx_net (n : Nat) (f : Ctxt → Ctxt) : (s.modCtx n f).net = s.net := rfl
@[simp] theorem State.modCtx_hbm (n : Nat) (f : Ctxt → Ctxt) : (s.modCtx n f).hbm = s.hbm := rfl
@[simp] theorem State.modCtx_parts (n : Nat) (f : Ctxt → Ctxt) : (s.modCtx n f).parts = s.parts := rfl
@[simp] theorem State.modCtx_tiles (n : Nat) (f : Ctxt → Ctxt) : (s.modCtx n f).tiles = s.tiles := rfl
@[simp] theorem State.modCtx_i3c (n : Nat) (f : Ctxt → Ctxt) : (s.modCtx n f).i3c = s.i3c := rfl
@[simp] theorem State.modCtx_out (n : Nat) (f : Ctxt → Ctxt) : (s.modCtx n f).out = s.out := rfl
@[simp] theorem State.modCtx_freeCtr (n : Nat) (f : Ctxt → Ctxt) : (s.modCtx n f).freeCtr = s.freeCtr := rfl
@[simp] theorem State.modCtx_pending (n : Nat) (f : Ctxt → Ctxt) : (s.modCtx n f).pending = s.pending := rfl

/-! ### modTile -/

@[simp] theorem State.modTile_facts (n : Nat) (f : Tile → Tile) : (s.modTile n f).facts = s.facts := rfl
@[simp] theorem State.modTile_pins (n : Nat) (f : Tile → Tile) : (s.modTile n f).pins = s.pins := rfl
@[simp] theorem State.modTile_bring (n : Nat) (f : Tile → Tile) : (s.modTile n f).bring = s.bring := rfl
@[simp] theorem State.modTile_hm (n : Nat) (f : Tile → Tile) : (s.modTile n f).hm = s.hm := rfl
@[simp] theorem State.modTile_uci (n : Nat) (f : Tile → Tile) : (s.modTile n f).uci = s.uci := rfl
@[simp] theorem State.modTile_sec (n : Nat) (f : Tile → Tile) : (s.modTile n f).sec = s.sec := rfl
@[simp] theorem State.modTile_faults (n : Nat) (f : Tile → Tile) : (s.modTile n f).faults = s.faults := rfl
@[simp] theorem State.modTile_clk (n : Nat) (f : Tile → Tile) : (s.modTile n f).clk = s.clk := rfl
@[simp] theorem State.modTile_pwr (n : Nat) (f : Tile → Tile) : (s.modTile n f).pwr = s.pwr := rfl
@[simp] theorem State.modTile_fab (n : Nat) (f : Tile → Tile) : (s.modTile n f).fab = s.fab := rfl
@[simp] theorem State.modTile_net (n : Nat) (f : Tile → Tile) : (s.modTile n f).net = s.net := rfl
@[simp] theorem State.modTile_hbm (n : Nat) (f : Tile → Tile) : (s.modTile n f).hbm = s.hbm := rfl
@[simp] theorem State.modTile_parts (n : Nat) (f : Tile → Tile) : (s.modTile n f).parts = s.parts := rfl
@[simp] theorem State.modTile_ctxs (n : Nat) (f : Tile → Tile) : (s.modTile n f).ctxs = s.ctxs := rfl
@[simp] theorem State.modTile_i3c (n : Nat) (f : Tile → Tile) : (s.modTile n f).i3c = s.i3c := rfl
@[simp] theorem State.modTile_out (n : Nat) (f : Tile → Tile) : (s.modTile n f).out = s.out := rfl
@[simp] theorem State.modTile_freeCtr (n : Nat) (f : Tile → Tile) : (s.modTile n f).freeCtr = s.freeCtr := rfl
@[simp] theorem State.modTile_pending (n : Nat) (f : Tile → Tile) : (s.modTile n f).pending = s.pending := rfl

/-! ### modRouter -/

@[simp] theorem State.modRouter_facts (n : Nat) (f : Router → Router) : (s.modRouter n f).facts = s.facts := rfl
@[simp] theorem State.modRouter_pins (n : Nat) (f : Router → Router) : (s.modRouter n f).pins = s.pins := rfl
@[simp] theorem State.modRouter_bring (n : Nat) (f : Router → Router) : (s.modRouter n f).bring = s.bring := rfl
@[simp] theorem State.modRouter_hm (n : Nat) (f : Router → Router) : (s.modRouter n f).hm = s.hm := rfl
@[simp] theorem State.modRouter_uci (n : Nat) (f : Router → Router) : (s.modRouter n f).uci = s.uci := rfl
@[simp] theorem State.modRouter_sec (n : Nat) (f : Router → Router) : (s.modRouter n f).sec = s.sec := rfl
@[simp] theorem State.modRouter_faults (n : Nat) (f : Router → Router) : (s.modRouter n f).faults = s.faults := rfl
@[simp] theorem State.modRouter_clk (n : Nat) (f : Router → Router) : (s.modRouter n f).clk = s.clk := rfl
@[simp] theorem State.modRouter_pwr (n : Nat) (f : Router → Router) : (s.modRouter n f).pwr = s.pwr := rfl
@[simp] theorem State.modRouter_fab (n : Nat) (f : Router → Router) : (s.modRouter n f).fab = s.fab := rfl
@[simp] theorem State.modRouter_hbm (n : Nat) (f : Router → Router) : (s.modRouter n f).hbm = s.hbm := rfl
@[simp] theorem State.modRouter_parts (n : Nat) (f : Router → Router) : (s.modRouter n f).parts = s.parts := rfl
@[simp] theorem State.modRouter_ctxs (n : Nat) (f : Router → Router) : (s.modRouter n f).ctxs = s.ctxs := rfl
@[simp] theorem State.modRouter_tiles (n : Nat) (f : Router → Router) : (s.modRouter n f).tiles = s.tiles := rfl
@[simp] theorem State.modRouter_i3c (n : Nat) (f : Router → Router) : (s.modRouter n f).i3c = s.i3c := rfl
@[simp] theorem State.modRouter_out (n : Nat) (f : Router → Router) : (s.modRouter n f).out = s.out := rfl
@[simp] theorem State.modRouter_freeCtr (n : Nat) (f : Router → Router) : (s.modRouter n f).freeCtr = s.freeCtr := rfl
@[simp] theorem State.modRouter_pending (n : Nat) (f : Router → Router) : (s.modRouter n f).pending = s.pending := rfl

/-! ### modLink -/

@[simp] theorem State.modLink_facts (n : Nat) (f : Link → Link) : (s.modLink n f).facts = s.facts := rfl
@[simp] theorem State.modLink_pins (n : Nat) (f : Link → Link) : (s.modLink n f).pins = s.pins := rfl
@[simp] theorem State.modLink_bring (n : Nat) (f : Link → Link) : (s.modLink n f).bring = s.bring := rfl
@[simp] theorem State.modLink_hm (n : Nat) (f : Link → Link) : (s.modLink n f).hm = s.hm := rfl
@[simp] theorem State.modLink_uci (n : Nat) (f : Link → Link) : (s.modLink n f).uci = s.uci := rfl
@[simp] theorem State.modLink_sec (n : Nat) (f : Link → Link) : (s.modLink n f).sec = s.sec := rfl
@[simp] theorem State.modLink_faults (n : Nat) (f : Link → Link) : (s.modLink n f).faults = s.faults := rfl
@[simp] theorem State.modLink_clk (n : Nat) (f : Link → Link) : (s.modLink n f).clk = s.clk := rfl
@[simp] theorem State.modLink_pwr (n : Nat) (f : Link → Link) : (s.modLink n f).pwr = s.pwr := rfl
@[simp] theorem State.modLink_net (n : Nat) (f : Link → Link) : (s.modLink n f).net = s.net := rfl
@[simp] theorem State.modLink_hbm (n : Nat) (f : Link → Link) : (s.modLink n f).hbm = s.hbm := rfl
@[simp] theorem State.modLink_parts (n : Nat) (f : Link → Link) : (s.modLink n f).parts = s.parts := rfl
@[simp] theorem State.modLink_ctxs (n : Nat) (f : Link → Link) : (s.modLink n f).ctxs = s.ctxs := rfl
@[simp] theorem State.modLink_tiles (n : Nat) (f : Link → Link) : (s.modLink n f).tiles = s.tiles := rfl
@[simp] theorem State.modLink_i3c (n : Nat) (f : Link → Link) : (s.modLink n f).i3c = s.i3c := rfl
@[simp] theorem State.modLink_out (n : Nat) (f : Link → Link) : (s.modLink n f).out = s.out := rfl
@[simp] theorem State.modLink_freeCtr (n : Nat) (f : Link → Link) : (s.modLink n f).freeCtr = s.freeCtr := rfl
@[simp] theorem State.modLink_pending (n : Nat) (f : Link → Link) : (s.modLink n f).pending = s.pending := rfl

/-! ### modStack -/

@[simp] theorem State.modStack_facts (n : Nat) (f : Stack → Stack) : (s.modStack n f).facts = s.facts := rfl
@[simp] theorem State.modStack_pins (n : Nat) (f : Stack → Stack) : (s.modStack n f).pins = s.pins := rfl
@[simp] theorem State.modStack_bring (n : Nat) (f : Stack → Stack) : (s.modStack n f).bring = s.bring := rfl
@[simp] theorem State.modStack_hm (n : Nat) (f : Stack → Stack) : (s.modStack n f).hm = s.hm := rfl
@[simp] theorem State.modStack_uci (n : Nat) (f : Stack → Stack) : (s.modStack n f).uci = s.uci := rfl
@[simp] theorem State.modStack_sec (n : Nat) (f : Stack → Stack) : (s.modStack n f).sec = s.sec := rfl
@[simp] theorem State.modStack_faults (n : Nat) (f : Stack → Stack) : (s.modStack n f).faults = s.faults := rfl
@[simp] theorem State.modStack_clk (n : Nat) (f : Stack → Stack) : (s.modStack n f).clk = s.clk := rfl
@[simp] theorem State.modStack_pwr (n : Nat) (f : Stack → Stack) : (s.modStack n f).pwr = s.pwr := rfl
@[simp] theorem State.modStack_fab (n : Nat) (f : Stack → Stack) : (s.modStack n f).fab = s.fab := rfl
@[simp] theorem State.modStack_net (n : Nat) (f : Stack → Stack) : (s.modStack n f).net = s.net := rfl
@[simp] theorem State.modStack_parts (n : Nat) (f : Stack → Stack) : (s.modStack n f).parts = s.parts := rfl
@[simp] theorem State.modStack_ctxs (n : Nat) (f : Stack → Stack) : (s.modStack n f).ctxs = s.ctxs := rfl
@[simp] theorem State.modStack_tiles (n : Nat) (f : Stack → Stack) : (s.modStack n f).tiles = s.tiles := rfl
@[simp] theorem State.modStack_i3c (n : Nat) (f : Stack → Stack) : (s.modStack n f).i3c = s.i3c := rfl
@[simp] theorem State.modStack_out (n : Nat) (f : Stack → Stack) : (s.modStack n f).out = s.out := rfl
@[simp] theorem State.modStack_freeCtr (n : Nat) (f : Stack → Stack) : (s.modStack n f).freeCtr = s.freeCtr := rfl
@[simp] theorem State.modStack_pending (n : Nat) (f : Stack → Stack) : (s.modStack n f).pending = s.pending := rfl

/-! ### modRail -/

@[simp] theorem State.modRail_facts (n : Nat) (f : Rail → Rail) : (s.modRail n f).facts = s.facts := rfl
@[simp] theorem State.modRail_pins (n : Nat) (f : Rail → Rail) : (s.modRail n f).pins = s.pins := rfl
@[simp] theorem State.modRail_bring (n : Nat) (f : Rail → Rail) : (s.modRail n f).bring = s.bring := rfl
@[simp] theorem State.modRail_hm (n : Nat) (f : Rail → Rail) : (s.modRail n f).hm = s.hm := rfl
@[simp] theorem State.modRail_uci (n : Nat) (f : Rail → Rail) : (s.modRail n f).uci = s.uci := rfl
@[simp] theorem State.modRail_sec (n : Nat) (f : Rail → Rail) : (s.modRail n f).sec = s.sec := rfl
@[simp] theorem State.modRail_faults (n : Nat) (f : Rail → Rail) : (s.modRail n f).faults = s.faults := rfl
@[simp] theorem State.modRail_clk (n : Nat) (f : Rail → Rail) : (s.modRail n f).clk = s.clk := rfl
@[simp] theorem State.modRail_fab (n : Nat) (f : Rail → Rail) : (s.modRail n f).fab = s.fab := rfl
@[simp] theorem State.modRail_net (n : Nat) (f : Rail → Rail) : (s.modRail n f).net = s.net := rfl
@[simp] theorem State.modRail_hbm (n : Nat) (f : Rail → Rail) : (s.modRail n f).hbm = s.hbm := rfl
@[simp] theorem State.modRail_parts (n : Nat) (f : Rail → Rail) : (s.modRail n f).parts = s.parts := rfl
@[simp] theorem State.modRail_ctxs (n : Nat) (f : Rail → Rail) : (s.modRail n f).ctxs = s.ctxs := rfl
@[simp] theorem State.modRail_tiles (n : Nat) (f : Rail → Rail) : (s.modRail n f).tiles = s.tiles := rfl
@[simp] theorem State.modRail_i3c (n : Nat) (f : Rail → Rail) : (s.modRail n f).i3c = s.i3c := rfl
@[simp] theorem State.modRail_out (n : Nat) (f : Rail → Rail) : (s.modRail n f).out = s.out := rfl
@[simp] theorem State.modRail_freeCtr (n : Nat) (f : Rail → Rail) : (s.modRail n f).freeCtr = s.freeCtr := rfl
@[simp] theorem State.modRail_pending (n : Nat) (f : Rail → Rail) : (s.modRail n f).pending = s.pending := rfl

/-! ### modPregion -/

@[simp] theorem State.modPregion_facts (n : Nat) (f : PwrRegion → PwrRegion) : (s.modPregion n f).facts = s.facts := rfl
@[simp] theorem State.modPregion_pins (n : Nat) (f : PwrRegion → PwrRegion) : (s.modPregion n f).pins = s.pins := rfl
@[simp] theorem State.modPregion_bring (n : Nat) (f : PwrRegion → PwrRegion) : (s.modPregion n f).bring = s.bring := rfl
@[simp] theorem State.modPregion_hm (n : Nat) (f : PwrRegion → PwrRegion) : (s.modPregion n f).hm = s.hm := rfl
@[simp] theorem State.modPregion_uci (n : Nat) (f : PwrRegion → PwrRegion) : (s.modPregion n f).uci = s.uci := rfl
@[simp] theorem State.modPregion_sec (n : Nat) (f : PwrRegion → PwrRegion) : (s.modPregion n f).sec = s.sec := rfl
@[simp] theorem State.modPregion_faults (n : Nat) (f : PwrRegion → PwrRegion) : (s.modPregion n f).faults = s.faults := rfl
@[simp] theorem State.modPregion_clk (n : Nat) (f : PwrRegion → PwrRegion) : (s.modPregion n f).clk = s.clk := rfl
@[simp] theorem State.modPregion_fab (n : Nat) (f : PwrRegion → PwrRegion) : (s.modPregion n f).fab = s.fab := rfl
@[simp] theorem State.modPregion_net (n : Nat) (f : PwrRegion → PwrRegion) : (s.modPregion n f).net = s.net := rfl
@[simp] theorem State.modPregion_hbm (n : Nat) (f : PwrRegion → PwrRegion) : (s.modPregion n f).hbm = s.hbm := rfl
@[simp] theorem State.modPregion_parts (n : Nat) (f : PwrRegion → PwrRegion) : (s.modPregion n f).parts = s.parts := rfl
@[simp] theorem State.modPregion_ctxs (n : Nat) (f : PwrRegion → PwrRegion) : (s.modPregion n f).ctxs = s.ctxs := rfl
@[simp] theorem State.modPregion_tiles (n : Nat) (f : PwrRegion → PwrRegion) : (s.modPregion n f).tiles = s.tiles := rfl
@[simp] theorem State.modPregion_i3c (n : Nat) (f : PwrRegion → PwrRegion) : (s.modPregion n f).i3c = s.i3c := rfl
@[simp] theorem State.modPregion_out (n : Nat) (f : PwrRegion → PwrRegion) : (s.modPregion n f).out = s.out := rfl
@[simp] theorem State.modPregion_freeCtr (n : Nat) (f : PwrRegion → PwrRegion) : (s.modPregion n f).freeCtr = s.freeCtr := rfl
@[simp] theorem State.modPregion_pending (n : Nat) (f : PwrRegion → PwrRegion) : (s.modPregion n f).pending = s.pending := rfl

/-! ### modCregion -/

@[simp] theorem State.modCregion_facts (n : Nat) (f : ClkRegion → ClkRegion) : (s.modCregion n f).facts = s.facts := rfl
@[simp] theorem State.modCregion_pins (n : Nat) (f : ClkRegion → ClkRegion) : (s.modCregion n f).pins = s.pins := rfl
@[simp] theorem State.modCregion_bring (n : Nat) (f : ClkRegion → ClkRegion) : (s.modCregion n f).bring = s.bring := rfl
@[simp] theorem State.modCregion_hm (n : Nat) (f : ClkRegion → ClkRegion) : (s.modCregion n f).hm = s.hm := rfl
@[simp] theorem State.modCregion_uci (n : Nat) (f : ClkRegion → ClkRegion) : (s.modCregion n f).uci = s.uci := rfl
@[simp] theorem State.modCregion_sec (n : Nat) (f : ClkRegion → ClkRegion) : (s.modCregion n f).sec = s.sec := rfl
@[simp] theorem State.modCregion_faults (n : Nat) (f : ClkRegion → ClkRegion) : (s.modCregion n f).faults = s.faults := rfl
@[simp] theorem State.modCregion_pwr (n : Nat) (f : ClkRegion → ClkRegion) : (s.modCregion n f).pwr = s.pwr := rfl
@[simp] theorem State.modCregion_fab (n : Nat) (f : ClkRegion → ClkRegion) : (s.modCregion n f).fab = s.fab := rfl
@[simp] theorem State.modCregion_net (n : Nat) (f : ClkRegion → ClkRegion) : (s.modCregion n f).net = s.net := rfl
@[simp] theorem State.modCregion_hbm (n : Nat) (f : ClkRegion → ClkRegion) : (s.modCregion n f).hbm = s.hbm := rfl
@[simp] theorem State.modCregion_parts (n : Nat) (f : ClkRegion → ClkRegion) : (s.modCregion n f).parts = s.parts := rfl
@[simp] theorem State.modCregion_ctxs (n : Nat) (f : ClkRegion → ClkRegion) : (s.modCregion n f).ctxs = s.ctxs := rfl
@[simp] theorem State.modCregion_tiles (n : Nat) (f : ClkRegion → ClkRegion) : (s.modCregion n f).tiles = s.tiles := rfl
@[simp] theorem State.modCregion_i3c (n : Nat) (f : ClkRegion → ClkRegion) : (s.modCregion n f).i3c = s.i3c := rfl
@[simp] theorem State.modCregion_out (n : Nat) (f : ClkRegion → ClkRegion) : (s.modCregion n f).out = s.out := rfl
@[simp] theorem State.modCregion_freeCtr (n : Nat) (f : ClkRegion → ClkRegion) : (s.modCregion n f).freeCtr = s.freeCtr := rfl
@[simp] theorem State.modCregion_pending (n : Nat) (f : ClkRegion → ClkRegion) : (s.modCregion n f).pending = s.pending := rfl

/-! ### modUciModule -/

@[simp] theorem State.modUciModule_facts (n : Nat) (f : UciModule → UciModule) : (s.modUciModule n f).facts = s.facts := rfl
@[simp] theorem State.modUciModule_pins (n : Nat) (f : UciModule → UciModule) : (s.modUciModule n f).pins = s.pins := rfl
@[simp] theorem State.modUciModule_bring (n : Nat) (f : UciModule → UciModule) : (s.modUciModule n f).bring = s.bring := rfl
@[simp] theorem State.modUciModule_hm (n : Nat) (f : UciModule → UciModule) : (s.modUciModule n f).hm = s.hm := rfl
@[simp] theorem State.modUciModule_sec (n : Nat) (f : UciModule → UciModule) : (s.modUciModule n f).sec = s.sec := rfl
@[simp] theorem State.modUciModule_faults (n : Nat) (f : UciModule → UciModule) : (s.modUciModule n f).faults = s.faults := rfl
@[simp] theorem State.modUciModule_clk (n : Nat) (f : UciModule → UciModule) : (s.modUciModule n f).clk = s.clk := rfl
@[simp] theorem State.modUciModule_pwr (n : Nat) (f : UciModule → UciModule) : (s.modUciModule n f).pwr = s.pwr := rfl
@[simp] theorem State.modUciModule_fab (n : Nat) (f : UciModule → UciModule) : (s.modUciModule n f).fab = s.fab := rfl
@[simp] theorem State.modUciModule_net (n : Nat) (f : UciModule → UciModule) : (s.modUciModule n f).net = s.net := rfl
@[simp] theorem State.modUciModule_hbm (n : Nat) (f : UciModule → UciModule) : (s.modUciModule n f).hbm = s.hbm := rfl
@[simp] theorem State.modUciModule_parts (n : Nat) (f : UciModule → UciModule) : (s.modUciModule n f).parts = s.parts := rfl
@[simp] theorem State.modUciModule_ctxs (n : Nat) (f : UciModule → UciModule) : (s.modUciModule n f).ctxs = s.ctxs := rfl
@[simp] theorem State.modUciModule_tiles (n : Nat) (f : UciModule → UciModule) : (s.modUciModule n f).tiles = s.tiles := rfl
@[simp] theorem State.modUciModule_i3c (n : Nat) (f : UciModule → UciModule) : (s.modUciModule n f).i3c = s.i3c := rfl
@[simp] theorem State.modUciModule_out (n : Nat) (f : UciModule → UciModule) : (s.modUciModule n f).out = s.out := rfl
@[simp] theorem State.modUciModule_freeCtr (n : Nat) (f : UciModule → UciModule) : (s.modUciModule n f).freeCtr = s.freeCtr := rfl
@[simp] theorem State.modUciModule_pending (n : Nat) (f : UciModule → UciModule) : (s.modUciModule n f).pending = s.pending := rfl

/-! ### modSite -/

@[simp] theorem State.modSite_facts (n : Nat) (f : SiteRec → SiteRec) : (s.modSite n f).facts = s.facts := rfl
@[simp] theorem State.modSite_pins (n : Nat) (f : SiteRec → SiteRec) : (s.modSite n f).pins = s.pins := rfl
@[simp] theorem State.modSite_hm (n : Nat) (f : SiteRec → SiteRec) : (s.modSite n f).hm = s.hm := rfl
@[simp] theorem State.modSite_uci (n : Nat) (f : SiteRec → SiteRec) : (s.modSite n f).uci = s.uci := rfl
@[simp] theorem State.modSite_sec (n : Nat) (f : SiteRec → SiteRec) : (s.modSite n f).sec = s.sec := rfl
@[simp] theorem State.modSite_faults (n : Nat) (f : SiteRec → SiteRec) : (s.modSite n f).faults = s.faults := rfl
@[simp] theorem State.modSite_clk (n : Nat) (f : SiteRec → SiteRec) : (s.modSite n f).clk = s.clk := rfl
@[simp] theorem State.modSite_pwr (n : Nat) (f : SiteRec → SiteRec) : (s.modSite n f).pwr = s.pwr := rfl
@[simp] theorem State.modSite_fab (n : Nat) (f : SiteRec → SiteRec) : (s.modSite n f).fab = s.fab := rfl
@[simp] theorem State.modSite_net (n : Nat) (f : SiteRec → SiteRec) : (s.modSite n f).net = s.net := rfl
@[simp] theorem State.modSite_hbm (n : Nat) (f : SiteRec → SiteRec) : (s.modSite n f).hbm = s.hbm := rfl
@[simp] theorem State.modSite_parts (n : Nat) (f : SiteRec → SiteRec) : (s.modSite n f).parts = s.parts := rfl
@[simp] theorem State.modSite_ctxs (n : Nat) (f : SiteRec → SiteRec) : (s.modSite n f).ctxs = s.ctxs := rfl
@[simp] theorem State.modSite_tiles (n : Nat) (f : SiteRec → SiteRec) : (s.modSite n f).tiles = s.tiles := rfl
@[simp] theorem State.modSite_i3c (n : Nat) (f : SiteRec → SiteRec) : (s.modSite n f).i3c = s.i3c := rfl
@[simp] theorem State.modSite_out (n : Nat) (f : SiteRec → SiteRec) : (s.modSite n f).out = s.out := rfl
@[simp] theorem State.modSite_freeCtr (n : Nat) (f : SiteRec → SiteRec) : (s.modSite n f).freeCtr = s.freeCtr := rfl
@[simp] theorem State.modSite_pending (n : Nat) (f : SiteRec → SiteRec) : (s.modSite n f).pending = s.pending := rfl

/-! ### emit -/

@[simp] theorem State.emit_facts (o : Out) : (s.emit o).facts = s.facts := rfl
@[simp] theorem State.emit_pins (o : Out) : (s.emit o).pins = s.pins := rfl
@[simp] theorem State.emit_bring (o : Out) : (s.emit o).bring = s.bring := rfl
@[simp] theorem State.emit_hm (o : Out) : (s.emit o).hm = s.hm := rfl
@[simp] theorem State.emit_uci (o : Out) : (s.emit o).uci = s.uci := rfl
@[simp] theorem State.emit_sec (o : Out) : (s.emit o).sec = s.sec := rfl
@[simp] theorem State.emit_faults (o : Out) : (s.emit o).faults = s.faults := rfl
@[simp] theorem State.emit_clk (o : Out) : (s.emit o).clk = s.clk := rfl
@[simp] theorem State.emit_pwr (o : Out) : (s.emit o).pwr = s.pwr := rfl
@[simp] theorem State.emit_fab (o : Out) : (s.emit o).fab = s.fab := rfl
@[simp] theorem State.emit_net (o : Out) : (s.emit o).net = s.net := rfl
@[simp] theorem State.emit_hbm (o : Out) : (s.emit o).hbm = s.hbm := rfl
@[simp] theorem State.emit_parts (o : Out) : (s.emit o).parts = s.parts := rfl
@[simp] theorem State.emit_ctxs (o : Out) : (s.emit o).ctxs = s.ctxs := rfl
@[simp] theorem State.emit_tiles (o : Out) : (s.emit o).tiles = s.tiles := rfl
@[simp] theorem State.emit_i3c (o : Out) : (s.emit o).i3c = s.i3c := rfl
@[simp] theorem State.emit_freeCtr (o : Out) : (s.emit o).freeCtr = s.freeCtr := rfl
@[simp] theorem State.emit_pending (o : Out) : (s.emit o).pending = s.pending := rfl

/-! ### hostOut -/

@[simp] theorem State.hostOut_facts (a : Nat) (bs : List Byte) : (s.hostOut a bs).facts = s.facts := rfl
@[simp] theorem State.hostOut_pins (a : Nat) (bs : List Byte) : (s.hostOut a bs).pins = s.pins := rfl
@[simp] theorem State.hostOut_bring (a : Nat) (bs : List Byte) : (s.hostOut a bs).bring = s.bring := rfl
@[simp] theorem State.hostOut_hm (a : Nat) (bs : List Byte) : (s.hostOut a bs).hm = s.hm := rfl
@[simp] theorem State.hostOut_uci (a : Nat) (bs : List Byte) : (s.hostOut a bs).uci = s.uci := rfl
@[simp] theorem State.hostOut_sec (a : Nat) (bs : List Byte) : (s.hostOut a bs).sec = s.sec := rfl
@[simp] theorem State.hostOut_faults (a : Nat) (bs : List Byte) : (s.hostOut a bs).faults = s.faults := rfl
@[simp] theorem State.hostOut_clk (a : Nat) (bs : List Byte) : (s.hostOut a bs).clk = s.clk := rfl
@[simp] theorem State.hostOut_pwr (a : Nat) (bs : List Byte) : (s.hostOut a bs).pwr = s.pwr := rfl
@[simp] theorem State.hostOut_fab (a : Nat) (bs : List Byte) : (s.hostOut a bs).fab = s.fab := rfl
@[simp] theorem State.hostOut_net (a : Nat) (bs : List Byte) : (s.hostOut a bs).net = s.net := rfl
@[simp] theorem State.hostOut_hbm (a : Nat) (bs : List Byte) : (s.hostOut a bs).hbm = s.hbm := rfl
@[simp] theorem State.hostOut_parts (a : Nat) (bs : List Byte) : (s.hostOut a bs).parts = s.parts := rfl
@[simp] theorem State.hostOut_ctxs (a : Nat) (bs : List Byte) : (s.hostOut a bs).ctxs = s.ctxs := rfl
@[simp] theorem State.hostOut_tiles (a : Nat) (bs : List Byte) : (s.hostOut a bs).tiles = s.tiles := rfl
@[simp] theorem State.hostOut_i3c (a : Nat) (bs : List Byte) : (s.hostOut a bs).i3c = s.i3c := rfl
@[simp] theorem State.hostOut_freeCtr (a : Nat) (bs : List Byte) : (s.hostOut a bs).freeCtr = s.freeCtr := rfl
@[simp] theorem State.hostOut_pending (a : Nat) (bs : List Byte) : (s.hostOut a bs).pending = s.pending := rfl

/-! ### Reads after writes -/

@[simp] theorem State.setTile_tile_same (n : Nat) (v : Tile) : (s.setTile n v).tile n = v := SMap.get_set_same _ _ n v
@[simp] theorem State.setTile_tile_other (n m : Nat) (v : Tile) (h : m ≠ n) : (s.setTile n v).tile m = s.tile m :=
  SMap.get_set_other _ _ n m v h
@[simp] theorem State.setPart_part_same (n : Nat) (v : Partn) : (s.setPart n v).part n = v := SMap.get_set_same _ _ n v
@[simp] theorem State.setPart_part_other (n m : Nat) (v : Partn) (h : m ≠ n) : (s.setPart n v).part m = s.part m :=
  SMap.get_set_other _ _ n m v h
@[simp] theorem State.setCtx_ctx_same (n : Nat) (v : Ctxt) : (s.setCtx n v).ctx n = v := SMap.get_set_same _ _ n v
@[simp] theorem State.setCtx_ctx_other (n m : Nat) (v : Ctxt) (h : m ≠ n) : (s.setCtx n v).ctx m = s.ctx m :=
  SMap.get_set_other _ _ n m v h
@[simp] theorem State.setRouter_router_same (n : Nat) (v : Router) : (s.setRouter n v).router n = v := SMap.get_set_same _ _ n v
@[simp] theorem State.setRouter_router_other (n m : Nat) (v : Router) (h : m ≠ n) : (s.setRouter n v).router m = s.router m :=
  SMap.get_set_other _ _ n m v h
@[simp] theorem State.setLink_link_same (n : Nat) (v : Link) : (s.setLink n v).link n = v := SMap.get_set_same _ _ n v
@[simp] theorem State.setLink_link_other (n m : Nat) (v : Link) (h : m ≠ n) : (s.setLink n v).link m = s.link m :=
  SMap.get_set_other _ _ n m v h
@[simp] theorem State.setStack_stack_same (n : Nat) (v : Stack) : (s.setStack n v).stack n = v := SMap.get_set_same _ _ n v
@[simp] theorem State.setStack_stack_other (n m : Nat) (v : Stack) (h : m ≠ n) : (s.setStack n v).stack m = s.stack m :=
  SMap.get_set_other _ _ n m v h
@[simp] theorem State.setRail_rail_same (n : Nat) (v : Rail) : (s.setRail n v).rail n = v := SMap.get_set_same _ _ n v
@[simp] theorem State.setRail_rail_other (n m : Nat) (v : Rail) (h : m ≠ n) : (s.setRail n v).rail m = s.rail m :=
  SMap.get_set_other _ _ n m v h

end Sys2Proof.Machine
end

