-- ==== Sys2Proof/Laws/Log.lean ====
section
/-! SUPPORT. What producing a record, answering a command and logging a fault leave alone. -/

namespace Sys2Proof.Machine

variable (s : State)

/-! ### Records (R404 to R406, R503) -/

@[simp] theorem State.interrupt_facts (b : Bool) : (s.interrupt b).facts = s.facts := by
  unfold State.interrupt; split; · rfl
  simp only; split <;> split <;> rfl
@[simp] theorem State.interrupt_pins (b : Bool) : (s.interrupt b).pins = s.pins := by
  unfold State.interrupt; split; · rfl
  simp only; split <;> split <;> rfl
@[simp] theorem State.interrupt_bring (b : Bool) : (s.interrupt b).bring = s.bring := by
  unfold State.interrupt; split; · rfl
  simp only; split <;> split <;> rfl
@[simp] theorem State.interrupt_hm (b : Bool) : (s.interrupt b).hm = s.hm := by
  unfold State.interrupt; split; · rfl
  simp only; split <;> split <;> rfl
@[simp] theorem State.interrupt_sec (b : Bool) : (s.interrupt b).sec = s.sec := by
  unfold State.interrupt; split; · rfl
  simp only; split <;> split <;> rfl
@[simp] theorem State.interrupt_clk (b : Bool) : (s.interrupt b).clk = s.clk := by
  unfold State.interrupt; split; · rfl
  simp only; split <;> split <;> rfl
@[simp] theorem State.interrupt_pwr (b : Bool) : (s.interrupt b).pwr = s.pwr := by
  unfold State.interrupt; split; · rfl
  simp only; split <;> split <;> rfl
@[simp] theorem State.interrupt_fab (b : Bool) : (s.interrupt b).fab = s.fab := by
  unfold State.interrupt; split; · rfl
  simp only; split <;> split <;> rfl
@[simp] theorem State.interrupt_net (b : Bool) : (s.interrupt b).net = s.net := by
  unfold State.interrupt; split; · rfl
  simp only; split <;> split <;> rfl
@[simp] theorem State.interrupt_hbm (b : Bool) : (s.interrupt b).hbm = s.hbm := by
  unfold State.interrupt; split; · rfl
  simp only; split <;> split <;> rfl
@[simp] theorem State.interrupt_parts (b : Bool) : (s.interrupt b).parts = s.parts := by
  unfold State.interrupt; split; · rfl
  simp only; split <;> split <;> rfl
@[simp] theorem State.interrupt_ctxs (b : Bool) : (s.interrupt b).ctxs = s.ctxs := by
  unfold State.interrupt; split; · rfl
  simp only; split <;> split <;> rfl
@[simp] theorem State.interrupt_tiles (b : Bool) : (s.interrupt b).tiles = s.tiles := by
  unfold State.interrupt; split; · rfl
  simp only; split <;> split <;> rfl
@[simp] theorem State.interrupt_i3c (b : Bool) : (s.interrupt b).i3c = s.i3c := by
  unfold State.interrupt; split; · rfl
  simp only; split <;> split <;> rfl
@[simp] theorem State.interrupt_freeCtr (b : Bool) : (s.interrupt b).freeCtr = s.freeCtr := by
  unfold State.interrupt; split; · rfl
  simp only; split <;> split <;> rfl
@[simp] theorem State.interrupt_pending (b : Bool) : (s.interrupt b).pending = s.pending := by
  unfold State.interrupt; split; · rfl
  simp only; split <;> split <;> rfl
@[simp] theorem State.putRecord_facts (r : Rec) : (s.putRecord r).facts = s.facts := by simp [State.putRecord]
@[simp] theorem State.putRecord_pins (r : Rec) : (s.putRecord r).pins = s.pins := by simp [State.putRecord]
@[simp] theorem State.putRecord_bring (r : Rec) : (s.putRecord r).bring = s.bring := by simp [State.putRecord]
@[simp] theorem State.putRecord_hm (r : Rec) : (s.putRecord r).hm = s.hm := by simp [State.putRecord]
@[simp] theorem State.putRecord_sec (r : Rec) : (s.putRecord r).sec = s.sec := by simp [State.putRecord]
@[simp] theorem State.putRecord_clk (r : Rec) : (s.putRecord r).clk = s.clk := by simp [State.putRecord]
@[simp] theorem State.putRecord_pwr (r : Rec) : (s.putRecord r).pwr = s.pwr := by simp [State.putRecord]
@[simp] theorem State.putRecord_fab (r : Rec) : (s.putRecord r).fab = s.fab := by simp [State.putRecord]
@[simp] theorem State.putRecord_net (r : Rec) : (s.putRecord r).net = s.net := by simp [State.putRecord]
@[simp] theorem State.putRecord_hbm (r : Rec) : (s.putRecord r).hbm = s.hbm := by simp [State.putRecord]
@[simp] theorem State.putRecord_parts (r : Rec) : (s.putRecord r).parts = s.parts := by simp [State.putRecord]
@[simp] theorem State.putRecord_ctxs (r : Rec) : (s.putRecord r).ctxs = s.ctxs := by simp [State.putRecord]
@[simp] theorem State.putRecord_tiles (r : Rec) : (s.putRecord r).tiles = s.tiles := by simp [State.putRecord]
@[simp] theorem State.putRecord_i3c (r : Rec) : (s.putRecord r).i3c = s.i3c := by simp [State.putRecord]
@[simp] theorem State.putRecord_freeCtr (r : Rec) : (s.putRecord r).freeCtr = s.freeCtr := by simp [State.putRecord]
@[simp] theorem State.putRecord_pending (r : Rec) : (s.putRecord r).pending = s.pending := by simp [State.putRecord]
@[simp] theorem State.countDropped_facts : s.countDropped.facts = s.facts := rfl
@[simp] theorem State.countDropped_pins : s.countDropped.pins = s.pins := rfl
@[simp] theorem State.countDropped_bring : s.countDropped.bring = s.bring := rfl
@[simp] theorem State.countDropped_hm : s.countDropped.hm = s.hm := rfl
@[simp] theorem State.countDropped_sec : s.countDropped.sec = s.sec := rfl
@[simp] theorem State.countDropped_clk : s.countDropped.clk = s.clk := rfl
@[simp] theorem State.countDropped_pwr : s.countDropped.pwr = s.pwr := rfl
@[simp] theorem State.countDropped_fab : s.countDropped.fab = s.fab := rfl
@[simp] theorem State.countDropped_net : s.countDropped.net = s.net := rfl
@[simp] theorem State.countDropped_hbm : s.countDropped.hbm = s.hbm := rfl
@[simp] theorem State.countDropped_parts : s.countDropped.parts = s.parts := rfl
@[simp] theorem State.countDropped_ctxs : s.countDropped.ctxs = s.ctxs := rfl
@[simp] theorem State.countDropped_tiles : s.countDropped.tiles = s.tiles := rfl
@[simp] theorem State.countDropped_i3c : s.countDropped.i3c = s.i3c := rfl
@[simp] theorem State.countDropped_freeCtr : s.countDropped.freeCtr = s.freeCtr := rfl
@[simp] theorem State.countDropped_pending : s.countDropped.pending = s.pending := rfl

@[simp] theorem State.record_facts (r : Rec) : (s.record r).facts = s.facts := by
  unfold State.record; split; · rfl
  split; · simp
  simp only; split; · rfl
  split <;> rfl
@[simp] theorem State.record_pins (r : Rec) : (s.record r).pins = s.pins := by
  unfold State.record; split; · rfl
  split; · simp
  simp only; split; · rfl
  split <;> rfl
@[simp] theorem State.record_bring (r : Rec) : (s.record r).bring = s.bring := by
  unfold State.record; split; · rfl
  split; · simp
  simp only; split; · rfl
  split <;> rfl
@[simp] theorem State.record_hm (r : Rec) : (s.record r).hm = s.hm := by
  unfold State.record; split; · rfl
  split; · simp
  simp only; split; · rfl
  split <;> rfl
@[simp] theorem State.record_sec (r : Rec) : (s.record r).sec = s.sec := by
  unfold State.record; split; · rfl
  split; · simp
  simp only; split; · rfl
  split <;> rfl
@[simp] theorem State.record_clk (r : Rec) : (s.record r).clk = s.clk := by
  unfold State.record; split; · rfl
  split; · simp
  simp only; split; · rfl
  split <;> rfl
@[simp] theorem State.record_pwr (r : Rec) : (s.record r).pwr = s.pwr := by
  unfold State.record; split; · rfl
  split; · simp
  simp only; split; · rfl
  split <;> rfl
@[simp] theorem State.record_fab (r : Rec) : (s.record r).fab = s.fab := by
  unfold State.record; split; · rfl
  split; · simp
  simp only; split; · rfl
  split <;> rfl
@[simp] theorem State.record_net (r : Rec) : (s.record r).net = s.net := by
  unfold State.record; split; · rfl
  split; · simp
  simp only; split; · rfl
  split <;> rfl
@[simp] theorem State.record_hbm (r : Rec) : (s.record r).hbm = s.hbm := by
  unfold State.record; split; · rfl
  split; · simp
  simp only; split; · rfl
  split <;> rfl
@[simp] theorem State.record_parts (r : Rec) : (s.record r).parts = s.parts := by
  unfold State.record; split; · rfl
  split; · simp
  simp only; split; · rfl
  split <;> rfl
@[simp] theorem State.record_ctxs (r : Rec) : (s.record r).ctxs = s.ctxs := by
  unfold State.record; split; · rfl
  split; · simp
  simp only; split; · rfl
  split <;> rfl
@[simp] theorem State.record_tiles (r : Rec) : (s.record r).tiles = s.tiles := by
  unfold State.record; split; · rfl
  split; · simp
  simp only; split; · rfl
  split <;> rfl
@[simp] theorem State.record_i3c (r : Rec) : (s.record r).i3c = s.i3c := by
  unfold State.record; split; · rfl
  split; · simp
  simp only; split; · rfl
  split <;> rfl
@[simp] theorem State.record_freeCtr (r : Rec) : (s.record r).freeCtr = s.freeCtr := by
  unfold State.record; split; · rfl
  split; · simp
  simp only; split; · rfl
  split <;> rfl
@[simp] theorem State.record_pending (r : Rec) : (s.record r).pending = s.pending := by
  unfold State.record; split; · rfl
  split; · simp
  simp only; split; · rfl
  split <;> rfl
@[simp] theorem State.event_facts (ty : Nat) (p c : Option Nat) (bs : List Byte) : (s.event ty p c bs).facts = s.facts := by
  simp [State.event]
@[simp] theorem State.event_pins (ty : Nat) (p c : Option Nat) (bs : List Byte) : (s.event ty p c bs).pins = s.pins := by
  simp [State.event]
@[simp] theorem State.event_bring (ty : Nat) (p c : Option Nat) (bs : List Byte) : (s.event ty p c bs).bring = s.bring := by
  simp [State.event]
@[simp] theorem State.event_hm (ty : Nat) (p c : Option Nat) (bs : List Byte) : (s.event ty p c bs).hm = s.hm := by
  simp [State.event]
@[simp] theorem State.event_sec (ty : Nat) (p c : Option Nat) (bs : List Byte) : (s.event ty p c bs).sec = s.sec := by
  simp [State.event]
@[simp] theorem State.event_clk (ty : Nat) (p c : Option Nat) (bs : List Byte) : (s.event ty p c bs).clk = s.clk := by
  simp [State.event]
@[simp] theorem State.event_pwr (ty : Nat) (p c : Option Nat) (bs : List Byte) : (s.event ty p c bs).pwr = s.pwr := by
  simp [State.event]
@[simp] theorem State.event_fab (ty : Nat) (p c : Option Nat) (bs : List Byte) : (s.event ty p c bs).fab = s.fab := by
  simp [State.event]
@[simp] theorem State.event_net (ty : Nat) (p c : Option Nat) (bs : List Byte) : (s.event ty p c bs).net = s.net := by
  simp [State.event]
@[simp] theorem State.event_hbm (ty : Nat) (p c : Option Nat) (bs : List Byte) : (s.event ty p c bs).hbm = s.hbm := by
  simp [State.event]
@[simp] theorem State.event_parts (ty : Nat) (p c : Option Nat) (bs : List Byte) : (s.event ty p c bs).parts = s.parts := by
  simp [State.event]
@[simp] theorem State.event_ctxs (ty : Nat) (p c : Option Nat) (bs : List Byte) : (s.event ty p c bs).ctxs = s.ctxs := by
  simp [State.event]
@[simp] theorem State.event_tiles (ty : Nat) (p c : Option Nat) (bs : List Byte) : (s.event ty p c bs).tiles = s.tiles := by
  simp [State.event]
@[simp] theorem State.event_i3c (ty : Nat) (p c : Option Nat) (bs : List Byte) : (s.event ty p c bs).i3c = s.i3c := by
  simp [State.event]
@[simp] theorem State.event_freeCtr (ty : Nat) (p c : Option Nat) (bs : List Byte) : (s.event ty p c bs).freeCtr = s.freeCtr := by
  simp [State.event]
@[simp] theorem State.event_pending (ty : Nat) (p c : Option Nat) (bs : List Byte) : (s.event ty p c bs).pending = s.pending := by
  simp [State.event]

/-! ### Answers (R403, R433) -/

@[simp] theorem State.cmdRecord_facts (ty : Nat) (h : CmdHdr) (op st : Nat) (bs : List Byte) :
    (s.cmdRecord ty h op st bs).facts = s.facts := by simp [State.cmdRecord]
@[simp] theorem State.cmdRecord_pins (ty : Nat) (h : CmdHdr) (op st : Nat) (bs : List Byte) :
    (s.cmdRecord ty h op st bs).pins = s.pins := by simp [State.cmdRecord]
@[simp] theorem State.cmdRecord_bring (ty : Nat) (h : CmdHdr) (op st : Nat) (bs : List Byte) :
    (s.cmdRecord ty h op st bs).bring = s.bring := by simp [State.cmdRecord]
@[simp] theorem State.cmdRecord_hm (ty : Nat) (h : CmdHdr) (op st : Nat) (bs : List Byte) :
    (s.cmdRecord ty h op st bs).hm = s.hm := by simp [State.cmdRecord]
@[simp] theorem State.cmdRecord_sec (ty : Nat) (h : CmdHdr) (op st : Nat) (bs : List Byte) :
    (s.cmdRecord ty h op st bs).sec = s.sec := by simp [State.cmdRecord]
@[simp] theorem State.cmdRecord_clk (ty : Nat) (h : CmdHdr) (op st : Nat) (bs : List Byte) :
    (s.cmdRecord ty h op st bs).clk = s.clk := by simp [State.cmdRecord]
@[simp] theorem State.cmdRecord_pwr (ty : Nat) (h : CmdHdr) (op st : Nat) (bs : List Byte) :
    (s.cmdRecord ty h op st bs).pwr = s.pwr := by simp [State.cmdRecord]
@[simp] theorem State.cmdRecord_fab (ty : Nat) (h : CmdHdr) (op st : Nat) (bs : List Byte) :
    (s.cmdRecord ty h op st bs).fab = s.fab := by simp [State.cmdRecord]
@[simp] theorem State.cmdRecord_net (ty : Nat) (h : CmdHdr) (op st : Nat) (bs : List Byte) :
    (s.cmdRecord ty h op st bs).net = s.net := by simp [State.cmdRecord]
@[simp] theorem State.cmdRecord_hbm (ty : Nat) (h : CmdHdr) (op st : Nat) (bs : List Byte) :
    (s.cmdRecord ty h op st bs).hbm = s.hbm := by simp [State.cmdRecord]
@[simp] theorem State.cmdRecord_parts (ty : Nat) (h : CmdHdr) (op st : Nat) (bs : List Byte) :
    (s.cmdRecord ty h op st bs).parts = s.parts := by simp [State.cmdRecord]
@[simp] theorem State.cmdRecord_ctxs (ty : Nat) (h : CmdHdr) (op st : Nat) (bs : List Byte) :
    (s.cmdRecord ty h op st bs).ctxs = s.ctxs := by simp [State.cmdRecord]
@[simp] theorem State.cmdRecord_tiles (ty : Nat) (h : CmdHdr) (op st : Nat) (bs : List Byte) :
    (s.cmdRecord ty h op st bs).tiles = s.tiles := by simp [State.cmdRecord]
@[simp] theorem State.cmdRecord_i3c (ty : Nat) (h : CmdHdr) (op st : Nat) (bs : List Byte) :
    (s.cmdRecord ty h op st bs).i3c = s.i3c := by simp [State.cmdRecord]
@[simp] theorem State.cmdRecord_freeCtr (ty : Nat) (h : CmdHdr) (op st : Nat) (bs : List Byte) :
    (s.cmdRecord ty h op st bs).freeCtr = s.freeCtr := by simp [State.cmdRecord]
@[simp] theorem State.cmdRecord_pending (ty : Nat) (h : CmdHdr) (op st : Nat) (bs : List Byte) :
    (s.cmdRecord ty h op st bs).pending = s.pending := by simp [State.cmdRecord]
@[simp] theorem State.answer_facts (c : Call) (st : Nat) (bs : List Byte) : (s.answer c st bs).facts = s.facts := by
  simp [State.answer]
@[simp] theorem State.answer_pins (c : Call) (st : Nat) (bs : List Byte) : (s.answer c st bs).pins = s.pins := by
  simp [State.answer]
@[simp] theorem State.answer_bring (c : Call) (st : Nat) (bs : List Byte) : (s.answer c st bs).bring = s.bring := by
  simp [State.answer]
@[simp] theorem State.answer_hm (c : Call) (st : Nat) (bs : List Byte) : (s.answer c st bs).hm = s.hm := by
  simp [State.answer]
@[simp] theorem State.answer_sec (c : Call) (st : Nat) (bs : List Byte) : (s.answer c st bs).sec = s.sec := by
  simp [State.answer]
@[simp] theorem State.answer_clk (c : Call) (st : Nat) (bs : List Byte) : (s.answer c st bs).clk = s.clk := by
  simp [State.answer]
@[simp] theorem State.answer_pwr (c : Call) (st : Nat) (bs : List Byte) : (s.answer c st bs).pwr = s.pwr := by
  simp [State.answer]
@[simp] theorem State.answer_fab (c : Call) (st : Nat) (bs : List Byte) : (s.answer c st bs).fab = s.fab := by
  simp [State.answer]
@[simp] theorem State.answer_net (c : Call) (st : Nat) (bs : List Byte) : (s.answer c st bs).net = s.net := by
  simp [State.answer]
@[simp] theorem State.answer_hbm (c : Call) (st : Nat) (bs : List Byte) : (s.answer c st bs).hbm = s.hbm := by
  simp [State.answer]
@[simp] theorem State.answer_parts (c : Call) (st : Nat) (bs : List Byte) : (s.answer c st bs).parts = s.parts := by
  simp [State.answer]
@[simp] theorem State.answer_ctxs (c : Call) (st : Nat) (bs : List Byte) : (s.answer c st bs).ctxs = s.ctxs := by
  simp [State.answer]
@[simp] theorem State.answer_tiles (c : Call) (st : Nat) (bs : List Byte) : (s.answer c st bs).tiles = s.tiles := by
  simp [State.answer]
@[simp] theorem State.answer_i3c (c : Call) (st : Nat) (bs : List Byte) : (s.answer c st bs).i3c = s.i3c := by
  simp [State.answer]
@[simp] theorem State.answer_freeCtr (c : Call) (st : Nat) (bs : List Byte) : (s.answer c st bs).freeCtr = s.freeCtr := by
  simp [State.answer]
@[simp] theorem State.answer_pending (c : Call) (st : Nat) (bs : List Byte) : (s.answer c st bs).pending = s.pending := by
  simp [State.answer]

/-! ### The fault log (R496 to R503) -/

@[simp] theorem State.newEntry_facts (f : FaultNote) : (s.newEntry f).facts = s.facts := by
  unfold State.newEntry; split; · rfl
  simp
@[simp] theorem State.newEntry_pins (f : FaultNote) : (s.newEntry f).pins = s.pins := by
  unfold State.newEntry; split; · rfl
  simp
@[simp] theorem State.newEntry_bring (f : FaultNote) : (s.newEntry f).bring = s.bring := by
  unfold State.newEntry; split; · rfl
  simp
@[simp] theorem State.newEntry_hm (f : FaultNote) : (s.newEntry f).hm = s.hm := by
  unfold State.newEntry; split; · rfl
  simp
@[simp] theorem State.newEntry_sec (f : FaultNote) : (s.newEntry f).sec = s.sec := by
  unfold State.newEntry; split; · rfl
  simp
@[simp] theorem State.newEntry_clk (f : FaultNote) : (s.newEntry f).clk = s.clk := by
  unfold State.newEntry; split; · rfl
  simp
@[simp] theorem State.newEntry_pwr (f : FaultNote) : (s.newEntry f).pwr = s.pwr := by
  unfold State.newEntry; split; · rfl
  simp
@[simp] theorem State.newEntry_fab (f : FaultNote) : (s.newEntry f).fab = s.fab := by
  unfold State.newEntry; split; · rfl
  simp
@[simp] theorem State.newEntry_net (f : FaultNote) : (s.newEntry f).net = s.net := by
  unfold State.newEntry; split; · rfl
  simp
@[simp] theorem State.newEntry_hbm (f : FaultNote) : (s.newEntry f).hbm = s.hbm := by
  unfold State.newEntry; split; · rfl
  simp
@[simp] theorem State.newEntry_parts (f : FaultNote) : (s.newEntry f).parts = s.parts := by
  unfold State.newEntry; split; · rfl
  simp
@[simp] theorem State.newEntry_ctxs (f : FaultNote) : (s.newEntry f).ctxs = s.ctxs := by
  unfold State.newEntry; split; · rfl
  simp
@[simp] theorem State.newEntry_tiles (f : FaultNote) : (s.newEntry f).tiles = s.tiles := by
  unfold State.newEntry; split; · rfl
  simp
@[simp] theorem State.newEntry_i3c (f : FaultNote) : (s.newEntry f).i3c = s.i3c := by
  unfold State.newEntry; split; · rfl
  simp
@[simp] theorem State.newEntry_freeCtr (f : FaultNote) : (s.newEntry f).freeCtr = s.freeCtr := by
  unfold State.newEntry; split; · rfl
  simp
@[simp] theorem State.newEntry_pending (f : FaultNote) : (s.newEntry f).pending = s.pending := by
  unfold State.newEntry; split; · rfl
  simp
@[simp] theorem State.mergeEntry_facts (i : Nat) : (s.mergeEntry i).facts = s.facts := by
  unfold State.mergeEntry; split <;> rfl
@[simp] theorem State.mergeEntry_pins (i : Nat) : (s.mergeEntry i).pins = s.pins := by
  unfold State.mergeEntry; split <;> rfl
@[simp] theorem State.mergeEntry_bring (i : Nat) : (s.mergeEntry i).bring = s.bring := by
  unfold State.mergeEntry; split <;> rfl
@[simp] theorem State.mergeEntry_hm (i : Nat) : (s.mergeEntry i).hm = s.hm := by
  unfold State.mergeEntry; split <;> rfl
@[simp] theorem State.mergeEntry_sec (i : Nat) : (s.mergeEntry i).sec = s.sec := by
  unfold State.mergeEntry; split <;> rfl
@[simp] theorem State.mergeEntry_clk (i : Nat) : (s.mergeEntry i).clk = s.clk := by
  unfold State.mergeEntry; split <;> rfl
@[simp] theorem State.mergeEntry_pwr (i : Nat) : (s.mergeEntry i).pwr = s.pwr := by
  unfold State.mergeEntry; split <;> rfl
@[simp] theorem State.mergeEntry_fab (i : Nat) : (s.mergeEntry i).fab = s.fab := by
  unfold State.mergeEntry; split <;> rfl
@[simp] theorem State.mergeEntry_net (i : Nat) : (s.mergeEntry i).net = s.net := by
  unfold State.mergeEntry; split <;> rfl
@[simp] theorem State.mergeEntry_hbm (i : Nat) : (s.mergeEntry i).hbm = s.hbm := by
  unfold State.mergeEntry; split <;> rfl
@[simp] theorem State.mergeEntry_parts (i : Nat) : (s.mergeEntry i).parts = s.parts := by
  unfold State.mergeEntry; split <;> rfl
@[simp] theorem State.mergeEntry_ctxs (i : Nat) : (s.mergeEntry i).ctxs = s.ctxs := by
  unfold State.mergeEntry; split <;> rfl
@[simp] theorem State.mergeEntry_tiles (i : Nat) : (s.mergeEntry i).tiles = s.tiles := by
  unfold State.mergeEntry; split <;> rfl
@[simp] theorem State.mergeEntry_i3c (i : Nat) : (s.mergeEntry i).i3c = s.i3c := by
  unfold State.mergeEntry; split <;> rfl
@[simp] theorem State.mergeEntry_freeCtr (i : Nat) : (s.mergeEntry i).freeCtr = s.freeCtr := by
  unfold State.mergeEntry; split <;> rfl
@[simp] theorem State.mergeEntry_pending (i : Nat) : (s.mergeEntry i).pending = s.pending := by
  unfold State.mergeEntry; split <;> rfl

/-- A fault below severity 4 that finds no storm at hand changes the log and the records alone. -/
theorem State.logFault_calm (f : FaultNote) (hs : f.sev ≠ 4) (hu : s.faults.unhandled < 64) :
    s.logFault f = s ∨ (∃ i, s.logFault f = s.mergeEntry i) ∨ s.logFault f = s.newEntry f := by
  unfold State.logFault
  split
  · exact .inl rfl
  · split
    · exact .inr (.inl ⟨_, rfl⟩)
    · rw [if_neg (by omega), if_neg (by omega)]
      exact .inr (.inr rfl)

theorem State.logFault_facts (f : FaultNote) (hs : f.sev ≠ 4) (hu : s.faults.unhandled < 64) :
    (s.logFault f).facts = s.facts := by
  rcases s.logFault_calm f hs hu with h | ⟨i, h⟩ | h <;> simp [h]
theorem State.logFault_pins (f : FaultNote) (hs : f.sev ≠ 4) (hu : s.faults.unhandled < 64) :
    (s.logFault f).pins = s.pins := by
  rcases s.logFault_calm f hs hu with h | ⟨i, h⟩ | h <;> simp [h]
theorem State.logFault_bring (f : FaultNote) (hs : f.sev ≠ 4) (hu : s.faults.unhandled < 64) :
    (s.logFault f).bring = s.bring := by
  rcases s.logFault_calm f hs hu with h | ⟨i, h⟩ | h <;> simp [h]
theorem State.logFault_hm (f : FaultNote) (hs : f.sev ≠ 4) (hu : s.faults.unhandled < 64) :
    (s.logFault f).hm = s.hm := by
  rcases s.logFault_calm f hs hu with h | ⟨i, h⟩ | h <;> simp [h]
theorem State.logFault_sec (f : FaultNote) (hs : f.sev ≠ 4) (hu : s.faults.unhandled < 64) :
    (s.logFault f).sec = s.sec := by
  rcases s.logFault_calm f hs hu with h | ⟨i, h⟩ | h <;> simp [h]
theorem State.logFault_clk (f : FaultNote) (hs : f.sev ≠ 4) (hu : s.faults.unhandled < 64) :
    (s.logFault f).clk = s.clk := by
  rcases s.logFault_calm f hs hu with h | ⟨i, h⟩ | h <;> simp [h]
theorem State.logFault_pwr (f : FaultNote) (hs : f.sev ≠ 4) (hu : s.faults.unhandled < 64) :
    (s.logFault f).pwr = s.pwr := by
  rcases s.logFault_calm f hs hu with h | ⟨i, h⟩ | h <;> simp [h]
theorem State.logFault_fab (f : FaultNote) (hs : f.sev ≠ 4) (hu : s.faults.unhandled < 64) :
    (s.logFault f).fab = s.fab := by
  rcases s.logFault_calm f hs hu with h | ⟨i, h⟩ | h <;> simp [h]
theorem State.logFault_net (f : FaultNote) (hs : f.sev ≠ 4) (hu : s.faults.unhandled < 64) :
    (s.logFault f).net = s.net := by
  rcases s.logFault_calm f hs hu with h | ⟨i, h⟩ | h <;> simp [h]
theorem State.logFault_hbm (f : FaultNote) (hs : f.sev ≠ 4) (hu : s.faults.unhandled < 64) :
    (s.logFault f).hbm = s.hbm := by
  rcases s.logFault_calm f hs hu with h | ⟨i, h⟩ | h <;> simp [h]
theorem State.logFault_parts (f : FaultNote) (hs : f.sev ≠ 4) (hu : s.faults.unhandled < 64) :
    (s.logFault f).parts = s.parts := by
  rcases s.logFault_calm f hs hu with h | ⟨i, h⟩ | h <;> simp [h]
theorem State.logFault_ctxs (f : FaultNote) (hs : f.sev ≠ 4) (hu : s.faults.unhandled < 64) :
    (s.logFault f).ctxs = s.ctxs := by
  rcases s.logFault_calm f hs hu with h | ⟨i, h⟩ | h <;> simp [h]
theorem State.logFault_tiles (f : FaultNote) (hs : f.sev ≠ 4) (hu : s.faults.unhandled < 64) :
    (s.logFault f).tiles = s.tiles := by
  rcases s.logFault_calm f hs hu with h | ⟨i, h⟩ | h <;> simp [h]
theorem State.logFault_i3c (f : FaultNote) (hs : f.sev ≠ 4) (hu : s.faults.unhandled < 64) :
    (s.logFault f).i3c = s.i3c := by
  rcases s.logFault_calm f hs hu with h | ⟨i, h⟩ | h <;> simp [h]
theorem State.logFault_freeCtr (f : FaultNote) (hs : f.sev ≠ 4) (hu : s.faults.unhandled < 64) :
    (s.logFault f).freeCtr = s.freeCtr := by
  rcases s.logFault_calm f hs hu with h | ⟨i, h⟩ | h <;> simp [h]
theorem State.logFault_pending (f : FaultNote) (hs : f.sev ≠ 4) (hu : s.faults.unhandled < 64) :
    (s.logFault f).pending = s.pending := by
  rcases s.logFault_calm f hs hu with h | ⟨i, h⟩ | h <;> simp [h]

end Sys2Proof.Machine
end

