-- ==== Sys2Proof/Laws/Net.lean ====
section
/-! SUPPORT. What a packet's entry into the network leaves alone (R190 to R192). -/

namespace Sys2Proof.Machine

variable (s : State)

@[simp] theorem State.enter_facts (n port : Nat) (p : Packet) : (s.enter n port p).facts = s.facts := rfl
@[simp] theorem State.enter_pins (n port : Nat) (p : Packet) : (s.enter n port p).pins = s.pins := rfl
@[simp] theorem State.enter_bring (n port : Nat) (p : Packet) : (s.enter n port p).bring = s.bring := rfl
@[simp] theorem State.enter_hm (n port : Nat) (p : Packet) : (s.enter n port p).hm = s.hm := rfl
@[simp] theorem State.enter_uci (n port : Nat) (p : Packet) : (s.enter n port p).uci = s.uci := rfl
@[simp] theorem State.enter_sec (n port : Nat) (p : Packet) : (s.enter n port p).sec = s.sec := rfl
@[simp] theorem State.enter_faults (n port : Nat) (p : Packet) : (s.enter n port p).faults = s.faults := rfl
@[simp] theorem State.enter_clk (n port : Nat) (p : Packet) : (s.enter n port p).clk = s.clk := rfl
@[simp] theorem State.enter_pwr (n port : Nat) (p : Packet) : (s.enter n port p).pwr = s.pwr := rfl
@[simp] theorem State.enter_fab (n port : Nat) (p : Packet) : (s.enter n port p).fab = s.fab := rfl
@[simp] theorem State.enter_hbm (n port : Nat) (p : Packet) : (s.enter n port p).hbm = s.hbm := rfl
@[simp] theorem State.enter_parts (n port : Nat) (p : Packet) : (s.enter n port p).parts = s.parts := rfl
@[simp] theorem State.enter_ctxs (n port : Nat) (p : Packet) : (s.enter n port p).ctxs = s.ctxs := rfl
@[simp] theorem State.enter_tiles (n port : Nat) (p : Packet) : (s.enter n port p).tiles = s.tiles := rfl
@[simp] theorem State.enter_i3c (n port : Nat) (p : Packet) : (s.enter n port p).i3c = s.i3c := rfl
@[simp] theorem State.enter_out (n port : Nat) (p : Packet) : (s.enter n port p).out = s.out := rfl
@[simp] theorem State.enter_freeCtr (n port : Nat) (p : Packet) : (s.enter n port p).freeCtr = s.freeCtr := rfl
@[simp] theorem State.enter_pending (n port : Nat) (p : Packet) : (s.enter n port p).pending = s.pending := rfl
@[simp] theorem State.takeFlight_facts (p : Packet) (w : Spot) : (s.takeFlight p w).facts = s.facts := rfl
@[simp] theorem State.takeFlight_pins (p : Packet) (w : Spot) : (s.takeFlight p w).pins = s.pins := rfl
@[simp] theorem State.takeFlight_bring (p : Packet) (w : Spot) : (s.takeFlight p w).bring = s.bring := rfl
@[simp] theorem State.takeFlight_hm (p : Packet) (w : Spot) : (s.takeFlight p w).hm = s.hm := rfl
@[simp] theorem State.takeFlight_uci (p : Packet) (w : Spot) : (s.takeFlight p w).uci = s.uci := rfl
@[simp] theorem State.takeFlight_sec (p : Packet) (w : Spot) : (s.takeFlight p w).sec = s.sec := rfl
@[simp] theorem State.takeFlight_faults (p : Packet) (w : Spot) : (s.takeFlight p w).faults = s.faults := rfl
@[simp] theorem State.takeFlight_clk (p : Packet) (w : Spot) : (s.takeFlight p w).clk = s.clk := rfl
@[simp] theorem State.takeFlight_pwr (p : Packet) (w : Spot) : (s.takeFlight p w).pwr = s.pwr := rfl
@[simp] theorem State.takeFlight_fab (p : Packet) (w : Spot) : (s.takeFlight p w).fab = s.fab := rfl
@[simp] theorem State.takeFlight_hbm (p : Packet) (w : Spot) : (s.takeFlight p w).hbm = s.hbm := rfl
@[simp] theorem State.takeFlight_parts (p : Packet) (w : Spot) : (s.takeFlight p w).parts = s.parts := rfl
@[simp] theorem State.takeFlight_ctxs (p : Packet) (w : Spot) : (s.takeFlight p w).ctxs = s.ctxs := rfl
@[simp] theorem State.takeFlight_tiles (p : Packet) (w : Spot) : (s.takeFlight p w).tiles = s.tiles := rfl
@[simp] theorem State.takeFlight_i3c (p : Packet) (w : Spot) : (s.takeFlight p w).i3c = s.i3c := rfl
@[simp] theorem State.takeFlight_out (p : Packet) (w : Spot) : (s.takeFlight p w).out = s.out := rfl
@[simp] theorem State.takeFlight_freeCtr (p : Packet) (w : Spot) : (s.takeFlight p w).freeCtr = s.freeCtr := rfl
@[simp] theorem State.takeFlight_pending (p : Packet) (w : Spot) : (s.takeFlight p w).pending = s.pending := rfl
@[simp] theorem State.countAct_facts (n c : Nat) (k : Act) : (s.countAct n k c).facts = s.facts := rfl
@[simp] theorem State.countAct_pins (n c : Nat) (k : Act) : (s.countAct n k c).pins = s.pins := rfl
@[simp] theorem State.countAct_bring (n c : Nat) (k : Act) : (s.countAct n k c).bring = s.bring := rfl
@[simp] theorem State.countAct_hm (n c : Nat) (k : Act) : (s.countAct n k c).hm = s.hm := rfl
@[simp] theorem State.countAct_uci (n c : Nat) (k : Act) : (s.countAct n k c).uci = s.uci := rfl
@[simp] theorem State.countAct_sec (n c : Nat) (k : Act) : (s.countAct n k c).sec = s.sec := rfl
@[simp] theorem State.countAct_faults (n c : Nat) (k : Act) : (s.countAct n k c).faults = s.faults := rfl
@[simp] theorem State.countAct_clk (n c : Nat) (k : Act) : (s.countAct n k c).clk = s.clk := rfl
@[simp] theorem State.countAct_fab (n c : Nat) (k : Act) : (s.countAct n k c).fab = s.fab := rfl
@[simp] theorem State.countAct_hbm (n c : Nat) (k : Act) : (s.countAct n k c).hbm = s.hbm := rfl
@[simp] theorem State.countAct_parts (n c : Nat) (k : Act) : (s.countAct n k c).parts = s.parts := rfl
@[simp] theorem State.countAct_ctxs (n c : Nat) (k : Act) : (s.countAct n k c).ctxs = s.ctxs := rfl
@[simp] theorem State.countAct_tiles (n c : Nat) (k : Act) : (s.countAct n k c).tiles = s.tiles := rfl
@[simp] theorem State.countAct_i3c (n c : Nat) (k : Act) : (s.countAct n k c).i3c = s.i3c := rfl
@[simp] theorem State.countAct_out (n c : Nat) (k : Act) : (s.countAct n k c).out = s.out := rfl
@[simp] theorem State.countAct_freeCtr (n c : Nat) (k : Act) : (s.countAct n k c).freeCtr = s.freeCtr := rfl
@[simp] theorem State.countAct_pending (n c : Nat) (k : Act) : (s.countAct n k c).pending = s.pending := rfl
@[simp] theorem State.countAct_net (n c : Nat) (k : Act) : (s.countAct n k c).net = s.net := rfl

/-- A packet for a destination that its router reaches joins what is in flight, stamped (R186, R190). -/
theorem State.inject_enter (n port : Nat) (p : Packet)
    (h : ∀ d, s.exitOf (s.stamp p) = some d → s.routable n d = true) :
    s.inject n port p = s.enter n port (s.stamp p) := by
  unfold State.inject
  cases hx : s.exitOf (s.stamp p) with
  | none => simp [hx]
  | some d => simp [hx, h d hx]

/-- A packet that enters the network joins what is in flight, or is not injected and the fault is logged (R190, R192). -/
theorem State.inject_cases (n port : Nat) (p : Packet) :
    s.inject n port p = s.enter n port (s.stamp p)
      ∨ ∃ d, s.inject n port p = s.logFault (unroutableAt n d (s.stamp p)) := by
  unfold State.inject
  cases hx : s.exitOf (s.stamp p) with
  | none => exact .inl (by simp [hx])
  | some d =>
    by_cases hr : s.routable n d = true
    · exact .inl (by simp [hx, hr])
    · exact .inr ⟨d, by simp [hx, hr]⟩

@[simp] theorem State.enter_tile (n port m : Nat) (p : Packet) : (s.enter n port p).tile m = s.tile m := by
  simp [State.tile]

end Sys2Proof.Machine
end

