-- ==== Sys2Proof/Laws/Tile.lean ====
section
/-! SUPPORT. What one step of a tile can do: the laws that statements about tile instructions cite. -/

namespace Sys2Proof.Machine

/-! ### Lengths of instructions (R140) -/

theorem bitOf_7 (w : Nat) : bitOf w 7 = decide (w / 128 % 2 = 1) := by
  simp [bitOf, Nat.shiftRight_eq_div_pow]

theorem lengthT_short (i : TInstr) (h : encodeT i / 128 % 2 = 0) : lengthT i = 4 := by
  simp [lengthT, bitOf_7, h]

theorem lengthT_long (i : TInstr) (h : encodeT i / 128 % 2 = 1) : lengthT i = 8 := by
  simp [lengthT, bitOf_7, h]

@[simp] theorem lengthT_alu (o gd ga gb) : lengthT (.alu o gd ga gb) = 4 :=
  lengthT_short _ (by simp only [encodeT]; omega)
@[simp] theorem lengthT_imm (o gd ga v) : lengthT (.imm o gd ga v) = 4 :=
  lengthT_short _ (by cases o <;> simp only [encodeT, opOfImm] <;> omega)
@[simp] theorem lengthT_li (gd v) : lengthT (.li gd v) = 8 := lengthT_long _ (by simp only [encodeT]; omega)
@[simp] theorem lengthT_lih (gd v) : lengthT (.lih gd v) = 8 := lengthT_long _ (by simp only [encodeT]; omega)
@[simp] theorem lengthT_load (o gd ga v) : lengthT (.load o gd ga v) = 4 :=
  lengthT_short _ (by cases o <;> simp only [encodeT, opOfLoad] <;> omega)
@[simp] theorem lengthT_store (o ga gb v) : lengthT (.store o ga gb v) = 4 :=
  lengthT_short _ (by cases o <;> simp only [encodeT, opOfStore] <;> omega)
@[simp] theorem lengthT_branch (o ga gb v) : lengthT (.branch o ga gb v) = 4 :=
  lengthT_short _ (by cases o <;> simp only [encodeT, opOfBranch] <;> omega)
@[simp] theorem lengthT_jal (gd v) : lengthT (.jal gd v) = 4 := lengthT_short _ (by simp only [encodeT]; omega)
@[simp] theorem lengthT_jalr (gd ga v) : lengthT (.jalr gd ga v) = 4 :=
  lengthT_short _ (by simp only [encodeT]; omega)
@[simp] theorem lengthT_hret : lengthT .hret = 4 := by decide
@[simp] theorem lengthT_wload (f) : lengthT (.wload f) = 8 := lengthT_long _ (by simp only [encodeT]; omega)
@[simp] theorem lengthT_stream (f) : lengthT (.stream f) = 8 := lengthT_long _ (by simp only [encodeT]; omega)
@[simp] theorem lengthT_drain (f) : lengthT (.drain f) = 8 := lengthT_long _ (by simp only [encodeT]; omega)
@[simp] theorem lengthT_vec (o f) : lengthT (.vec o f) = 8 := lengthT_long _ (by simp only [encodeT]; omega)
@[simp] theorem lengthT_move (d f) : lengthT (.move d f) = 8 := lengthT_long _ (by simp only [encodeT]; omega)
@[simp] theorem lengthT_movec (f) : lengthT (.movec f) = 8 := lengthT_long _ (by simp only [encodeT]; omega)
@[simp] theorem lengthT_send (f) : lengthT (.send f) = 8 := lengthT_long _ (by simp only [encodeT]; omega)
@[simp] theorem lengthT_recv (f) : lengthT (.recv f) = 4 := lengthT_short _ (by simp only [encodeT]; omega)
@[simp] theorem lengthT_waitc (gd ga n c) : lengthT (.waitc gd ga n c) = 4 :=
  lengthT_short _ (by simp only [encodeT]; omega)
@[simp] theorem lengthT_tidewait (ga m) : lengthT (.tidewait ga m) = 4 :=
  lengthT_short _ (by simp only [encodeT]; omega)
@[simp] theorem lengthT_fence : lengthT .fence = 4 := by decide
@[simp] theorem lengthT_pilot (l c d) : lengthT (.pilot l c d) = 4 :=
  lengthT_short _ (by simp only [encodeT]; omega)
@[simp] theorem lengthT_step (g) : lengthT (.step g) = 4 := lengthT_short _ (by simp only [encodeT]; omega)
@[simp] theorem lengthT_halt (c) : lengthT (.halt c) = 4 := lengthT_short _ (by simp only [encodeT]; omega)

/-- Either branch of a conditional that answers. -/
theorem ite_some {α : Type} {c : Prop} [Decidable c] {a b : Option α} {x : α} (h : (if c then a else b) = some x) :
    c ∧ a = some x ∨ ¬c ∧ b = some x := by
  by_cases hc : c
  · rw [if_pos hc] at h; exact .inl ⟨hc, h⟩
  · rw [if_neg hc] at h; exact .inr ⟨hc, h⟩

/-- A conditional that answers only where its condition holds. -/
theorem if_some {α : Type} {c : Prop} [Decidable c] {a b : α} (h : (if c then some a else none) = some b) : a = b := by
  rcases ite_some h with ⟨_, h⟩ | ⟨_, h⟩
  · exact Option.some.inj h
  · cases h

/-- Bit 7 of a first word says how long the instruction is that it decodes to (R140). -/
theorem decodeT_length (w : Nat) (i : TInstr) (h : decodeT w = some i) : lengthT i = if bitOf w 7 then 8 else 4 := by
  unfold decodeT at h
  extract_lets op gd ga gb imm zero at h
  by_cases hl : bitOf w 7 = opIsLong op
  rotate_left
  · rw [if_pos hl] at h; cases h
  rw [if_neg (fun x => x hl)] at h
  rw [hl]
  clear_value op gd ga gb imm
  simp only [zero] at h
  clear zero
  rcases ite_some h with ⟨c, h⟩ | ⟨_, h⟩
  · obtain ⟨o, _, rfl⟩ := Option.map_eq_some_iff.mp h
    simp [opIsLong]; omega
  rcases ite_some h with ⟨c, h⟩ | ⟨_, h⟩
  · split at h
    · cases h
    · rcases ite_some h with ⟨_, h⟩ | ⟨_, h⟩
      · cases h
      · obtain rfl := Option.some.inj h; simp [opIsLong]; omega
  rcases ite_some h with ⟨c, h⟩ | ⟨_, h⟩
  · obtain rfl := if_some h
    simp [opIsLong, c]
  rcases ite_some h with ⟨c, h⟩ | ⟨_, h⟩
  · obtain rfl := if_some h
    simp [opIsLong, c]
  rcases ite_some h with ⟨c, h⟩ | ⟨_, h⟩
  · obtain ⟨o, _, rfl⟩ := Option.map_eq_some_iff.mp h
    simp [opIsLong]; omega
  rcases ite_some h with ⟨c, h⟩ | ⟨_, h⟩
  · obtain ⟨o, _, rfl⟩ := Option.map_eq_some_iff.mp h
    simp [opIsLong]; omega
  rcases ite_some h with ⟨c, h⟩ | ⟨_, h⟩
  · obtain ⟨o, _, rfl⟩ := Option.map_eq_some_iff.mp h
    simp [opIsLong]; omega
  rcases ite_some h with ⟨c, h⟩ | ⟨_, h⟩
  · obtain rfl := Option.some.inj h
    simp [opIsLong, c]
  rcases ite_some h with ⟨c, h⟩ | ⟨_, h⟩
  · obtain rfl := Option.some.inj h
    simp [opIsLong, c]
  rcases ite_some h with ⟨c, h⟩ | ⟨_, h⟩
  · obtain rfl := if_some h
    simp [opIsLong, c]
  rcases ite_some h with ⟨c, h⟩ | ⟨_, h⟩
  · rcases ite_some h with ⟨_, h⟩ | ⟨_, h⟩
    rotate_left; · cases h
    obtain rfl := if_some h
    simp [opIsLong, c]
  rcases ite_some h with ⟨c, h⟩ | ⟨_, h⟩
  · rcases ite_some h with ⟨_, h⟩ | ⟨_, h⟩
    rotate_left; · cases h
    obtain rfl := if_some h
    simp [opIsLong, c]
  rcases ite_some h with ⟨c, h⟩ | ⟨_, h⟩
  · obtain rfl := if_some h
    simp [opIsLong, c]
  rcases ite_some h with ⟨c, h⟩ | ⟨_, h⟩
  · split at h
    · cases h
    · rcases ite_some h with ⟨_, h⟩ | ⟨_, h⟩
      · obtain rfl := if_some h; simp [opIsLong, c]
      · cases h
  rcases ite_some h with ⟨c, h⟩ | ⟨_, h⟩
  · rcases ite_some h with ⟨_, h⟩ | ⟨_, h⟩
    rotate_left; · cases h
    obtain rfl := if_some h
    simp [opIsLong, c]
  rcases ite_some h with ⟨c, h⟩ | ⟨_, h⟩
  · rcases ite_some h with ⟨_, h⟩ | ⟨_, h⟩
    rotate_left; · cases h
    obtain rfl := if_some h
    simp [opIsLong, c]
  rcases ite_some h with ⟨c, h⟩ | ⟨_, h⟩
  · rcases ite_some h with ⟨_, h⟩ | ⟨_, h⟩
    rotate_left; · cases h
    obtain rfl := if_some h
    simp [opIsLong, c]
  rcases ite_some h with ⟨c, h⟩ | ⟨_, h⟩
  · obtain rfl := if_some h
    simp [opIsLong, c]
  rcases ite_some h with ⟨c, h⟩ | ⟨_, h⟩
  · obtain rfl := if_some h
    simp [opIsLong, c]
  rcases ite_some h with ⟨c, h⟩ | ⟨_, h⟩
  · obtain rfl := if_some h
    simp [opIsLong, c]
  rcases ite_some h with ⟨c, h⟩ | ⟨_, h⟩
  · obtain rfl := if_some h
    simp [opIsLong, c]
  rcases ite_some h with ⟨c, h⟩ | ⟨_, h⟩
  · obtain rfl := if_some h
    simp [opIsLong, c]
  rcases ite_some h with ⟨c, h⟩ | ⟨_, h⟩
  · obtain rfl := if_some h
    simp [opIsLong, c]
  rcases ite_some h with ⟨c, h⟩ | ⟨_, h⟩
  · obtain rfl := if_some h
    simp [opIsLong, c]
  cases h

/-! ### Counted activity and written bytes (R294, R392) -/

@[simp] theorem Tile.count_seq (t : Tile) (k : Act) (n : Nat) : (t.count k n).seq = t.seq := rfl
@[simp] theorem Tile.count_arr (t : Tile) (k : Act) (n : Nat) : (t.count k n).arr = t.arr := rfl
@[simp] theorem Tile.count_spad (t : Tile) (k : Act) (n : Nat) : (t.count k n).spad = t.spad := rfl
@[simp] theorem Tile.count_integ (t : Tile) (k : Act) (n : Nat) : (t.count k n).integ = t.integ := rfl
@[simp] theorem Tile.count_chan (t : Tile) (k : Act) (n : Nat) : (t.count k n).chan = t.chan := rfl
@[simp] theorem Tile.count_vecQ (t : Tile) (k : Act) (n : Nat) : (t.count k n).vecQ = t.vecQ := rfl
@[simp] theorem Tile.count_moveQ (t : Tile) (k : Act) (n : Nat) : (t.count k n).moveQ = t.moveQ := rfl
@[simp] theorem Tile.count_outst (t : Tile) (k : Act) (n : Nat) : (t.count k n).outst = t.outst := rfl
@[simp] theorem Tile.count_nextIdent (t : Tile) (k : Act) (n : Nat) : (t.count k n).nextIdent = t.nextIdent := rfl
@[simp] theorem Tile.count_stopped (t : Tile) (k : Act) (n : Nat) : (t.count k n).stopped = t.stopped := rfl
@[simp] theorem Tile.count_ctx (t : Tile) (k : Act) (n : Nat) : (t.count k n).ctx = t.ctx := rfl
@[simp] theorem Tile.count_owner (t : Tile) (k : Act) (n : Nat) : (t.count k n).owner = t.owner := rfl
@[simp] theorem Tile.count_inReset (t : Tile) (k : Act) (n : Nat) : (t.count k n).inReset = t.inReset := rfl

@[simp] theorem Tile.writeAll_seq (t : Tile) (env : TileEnv) (ws : List (Nat × List Byte)) :
    (t.writeAll env ws).seq = t.seq := rfl
@[simp] theorem Tile.writeAll_arr (t : Tile) (env : TileEnv) (ws : List (Nat × List Byte)) :
    (t.writeAll env ws).arr = t.arr := rfl
@[simp] theorem Tile.writeAll_spad (t : Tile) (env : TileEnv) (ws : List (Nat × List Byte)) :
    (t.writeAll env ws).spad = t.spad.writeAll env.parityMode ws := rfl
@[simp] theorem Tile.writeAll_integ (t : Tile) (env : TileEnv) (ws : List (Nat × List Byte)) :
    (t.writeAll env ws).integ = t.integ := rfl
@[simp] theorem Tile.writeAll_chan (t : Tile) (env : TileEnv) (ws : List (Nat × List Byte)) :
    (t.writeAll env ws).chan = t.chan := rfl
@[simp] theorem Tile.writeAll_vecQ (t : Tile) (env : TileEnv) (ws : List (Nat × List Byte)) :
    (t.writeAll env ws).vecQ = t.vecQ := rfl
@[simp] theorem Tile.writeAll_moveQ (t : Tile) (env : TileEnv) (ws : List (Nat × List Byte)) :
    (t.writeAll env ws).moveQ = t.moveQ := rfl
@[simp] theorem Tile.writeAll_outst (t : Tile) (env : TileEnv) (ws : List (Nat × List Byte)) :
    (t.writeAll env ws).outst = t.outst := rfl
@[simp] theorem Tile.writeAll_nextIdent (t : Tile) (env : TileEnv) (ws : List (Nat × List Byte)) :
    (t.writeAll env ws).nextIdent = t.nextIdent := rfl
@[simp] theorem Tile.writeAll_stopped (t : Tile) (env : TileEnv) (ws : List (Nat × List Byte)) :
    (t.writeAll env ws).stopped = t.stopped := rfl
@[simp] theorem Tile.writeAll_ctx (t : Tile) (env : TileEnv) (ws : List (Nat × List Byte)) :
    (t.writeAll env ws).ctx = t.ctx := rfl
@[simp] theorem Tile.writeAll_owner (t : Tile) (env : TileEnv) (ws : List (Nat × List Byte)) :
    (t.writeAll env ws).owner = t.owner := rfl
@[simp] theorem Tile.writeAll_inReset (t : Tile) (env : TileEnv) (ws : List (Nat × List Byte)) :
    (t.writeAll env ws).inReset = t.inReset := rfl

/-! ### One step of a tile -/

/-- A step that makes no trace record: the tile's new state, then its effects outside in order. -/
theorem State.runTile_effs (s : State) (n : Nat) (f : TileEnv → Tile → TOut) (o : TOut)
    (h : f (s.envOf n) (s.tile n) = o) (ht : traceOf (s.tile n) o.tile = []) :
    s.runTile n f = o.effs.foldl (fun s e => s.applyEff n e) (s.setTile n o.tile) := by
  have hx : s.runTile n f =
      if s.ctxs.any (fun c => c.2.trace.isSome) then
        (o.effs.foldl (fun s e => s.applyEff n e) (s.setTile n o.tile)).traceStep n (s.tile n) o.tile
      else o.effs.foldl (fun s e => s.applyEff n e) (s.setTile n o.tile) := by
    simp only [State.runTile, h]
  rw [hx]
  split
  · simp only [State.traceStep, ht, List.foldl_nil]
    split <;> rfl
  · rfl

/-- A tile's step without an effect outside, and without a traced event, changes that tile alone. -/
theorem State.runTile_pure (s : State) (n : Nat) (f : TileEnv → Tile → TOut) (u : Tile)
    (h : f (s.envOf n) (s.tile n) = TOut.pure u) (ht : traceOf (s.tile n) u = []) :
    s.runTile n f = s.setTile n u := s.runTile_effs n f (TOut.pure u) h ht

/-- A row for a tile whose logic runs is that tile's step. -/
theorem State.tileStep_live (s : State) (n : Nat) (f : TileEnv → Tile → TOut) (h : s.live n) :
    s.tileStep n f = .next (s.runTile n f) := by
  simp [State.tileStep, h.2, Nat.not_le.mpr h.1]

/-- A row for a tile whose logic runs, without an effect outside, changes that tile alone. -/
theorem State.tileStep_pure (s : State) (n : Nat) (f : TileEnv → Tile → TOut) (u : Tile) (h : s.live n)
    (hf : f (s.envOf n) (s.tile n) = TOut.pure u) (ht : traceOf (s.tile n) u = []) :
    s.tileStep n f = .next (s.setTile n u) := by
  rw [s.tileStep_live n f h, s.runTile_pure n f u hf ht]

/-- A row for a tile whose logic runs, without a trace record. -/
theorem State.tileStep_effs (s : State) (n : Nat) (f : TileEnv → Tile → TOut) (o : TOut) (h : s.live n)
    (hf : f (s.envOf n) (s.tile n) = o) (ht : traceOf (s.tile n) o.tile = []) :
    s.tileStep n f = .next (o.effs.foldl (fun s e => s.applyEff n e) (s.setTile n o.tile)) := by
  rw [s.tileStep_live n f h, s.runTile_effs n f o hf ht]

/-- Engines with nothing issued that waits for them leave the tile as it is (R76, R132). -/
theorem enginesRun_idle (t : Tile) (h1 : t.vecQ = []) (h2 : (loadFrom t.arr.queue).2 = none) : enginesRun t = t := by
  have hl : loadsDone t = t := by
    simp only [loadsDone]
    split
    · rfl
    · next h => rw [h] at h2; cases h2
  rw [enginesRun, hl, ← h1]

/-- A tile whose issued work is complete has nothing for its engines to do. -/
theorem enginesRun_done (t : Tile) (h : workDone t = true) : enginesRun t = t := by
  simp only [workDone, Bool.and_eq_true, decide_eq_true_eq] at h
  exact enginesRun_idle t h.1.1.2 (by rw [h.1.1.1]; rfl)

/-- A sequencer that may issue runs, and no exception waits to be recorded. -/
theorem mayIssue_running {env : TileEnv} {t : Tile} (h : mayIssue env t = true) :
    t.seq.mode = .running ∧ t.seq.excDue = none ∧ t.integ.replayPending = none := by
  simp only [mayIssue, Bool.and_eq_true, decide_eq_true_eq, Option.isNone_iff_eq_none] at h
  exact ⟨h.1.1.1.1.1.1, h.1.1.1.1.2, h.1.1.1.2⟩

/-- A step that changes nothing outside goes on as the next one does. -/
@[simp] theorem TOut.pure_andThen (t : Tile) (f : Tile → TOut) : (TOut.pure t).andThen f = f t := by
  simp [TOut.andThen, TOut.pure]

/-- Lines that the cache holds are not filled (R138). -/
theorem fillLines_hit (env : TileEnv) (t : Tile) (n : Nat) (h1 : lineHit t t.seq.pc.toNat = true)
    (h2 : n = 8 → lineHit t (t.seq.pc.toNat + 4) = true) : fillLines env t n = TOut.pure t := by
  by_cases hn : n = 8
  · simp [fillLines, fillLine, h1, h2 hn, hn, TOut.andIf]
  · simp [fillLines, fillLine, h1, hn, TOut.andIf]

/-- An instruction that a tile issues is tried (R131). -/
theorem State.issues_try (s : State) (n : Nat) (i : TInstr) (h : s.issues n (lengthT i)) :
    tileIssue (s.envOf n) i (s.tile n)
      = (settleTried (s.envOf n) (s.tile n) i
          (tryInstr (s.envOf n) (s.tile n) i (markAfter (s.envOf n)))).map settlePause := by
  obtain ⟨⟨_, _, hm, hc, hp, hq⟩, h1, h2⟩ := h
  have hf : fetchFault (s.tile n) i = none := by
    simp only [fetchFault, hp]
    by_cases hl : lengthT i = 8
    · simp [hl, hq hl]
    · simp [hl]
  have hg : fetchGood (s.tile n) = true := by
    simp only [mayIssue, Bool.and_eq_true] at hm
    simp only [fetchGood, hm.1.1.1.1.1.1, hm.1.1.1.1.2, hm.1.1.1.2, Bool.and_self]
  simp [tileIssue, hm, hc, issueAt, hf, fillLines_hit _ _ _ h1 h2, hg]

theorem State.issues.live {s : State} {n len : Nat} (h : s.issues n len) : s.live n := ⟨h.1.1, h.1.2.1⟩

/-- A step that enters no handler, commits no step, raises no exception, does not halt and begins no replay makes
no trace record. -/
theorem traceOf_none (a b : Tile) (h1 : b.seq.handler = true → a.seq.handler = true)
    (h2 : b.integ.stepSeq = a.integ.stepSeq)
    (h3 : b.seq.mode = a.seq.mode ∨ (b.seq.mode ≠ .exception ∧ b.seq.mode ≠ .halted))
    (h4 : b.integ.replayPending.isNone = true → a.integ.replayPending.isSome = true → b.integ.replaying = false) :
    traceOf a b = [] := by
  have e1 : (!a.seq.handler && b.seq.handler) = false := by
    cases hb : b.seq.handler
    · simp
    · simp [h1 hb]
  have e3 : ¬a.seq.mode = .exception → ¬b.seq.mode = .exception := by
    rcases h3 with h | h
    · rw [h]; exact id
    · exact fun _ => h.1
  have e4 : ¬a.seq.mode = .halted → ¬b.seq.mode = .halted := by
    rcases h3 with h | h
    · rw [h]; exact id
    · exact fun _ => h.2
  have e5 : (a.integ.replayPending.isSome && b.integ.replaying && b.integ.replayPending.isNone) = false := by
    cases hx : a.integ.replayPending.isSome <;> cases hy : b.integ.replayPending.isNone <;> simp
    exact h4 hy hx
  simp only [traceOf, h2, e1, e5, List.append_eq_nil_iff]
  simp
  exact ⟨e3, e4⟩

/-- A step that ends as it began in mode, handler, step and replay makes no trace record. -/
theorem traceOf_quiet (a b : Tile) (h1 : b.seq.handler = a.seq.handler) (h2 : b.integ.stepSeq = a.integ.stepSeq)
    (h3 : b.seq.mode = a.seq.mode) (h4 : b.integ.replayPending = a.integ.replayPending) :
    traceOf a b = [] := by
  cases hm : a.seq.handler <;> cases hr : a.integ.replayPending <;> simp [traceOf, h1, h2, h3, h4, hm, hr]

/-! ### A PAUSE that takes effect changes nothing but that (R178) -/

@[simp] theorem settlePause_arr (t : Tile) : (settlePause t).arr = t.arr := by
  unfold settlePause; split <;> rfl
@[simp] theorem settlePause_spad (t : Tile) : (settlePause t).spad = t.spad := by
  unfold settlePause; split <;> rfl
@[simp] theorem settlePause_integ (t : Tile) : (settlePause t).integ = t.integ := by
  unfold settlePause; split <;> rfl
@[simp] theorem settlePause_chan (t : Tile) : (settlePause t).chan = t.chan := by
  unfold settlePause; split <;> rfl
@[simp] theorem settlePause_moveQ (t : Tile) : (settlePause t).moveQ = t.moveQ := by
  unfold settlePause; split <;> rfl
@[simp] theorem settlePause_vecQ (t : Tile) : (settlePause t).vecQ = t.vecQ := by
  unfold settlePause; split <;> rfl
@[simp] theorem settlePause_counts (t : Tile) : (settlePause t).counts = t.counts := by
  unfold settlePause; split <;> rfl
@[simp] theorem settlePause_outst (t : Tile) : (settlePause t).outst = t.outst := by
  unfold settlePause; split <;> rfl
@[simp] theorem settlePause_nextIdent (t : Tile) : (settlePause t).nextIdent = t.nextIdent := by
  unfold settlePause; split <;> rfl
@[simp] theorem settlePause_stopped (t : Tile) : (settlePause t).stopped = t.stopped := by
  unfold settlePause; split <;> rfl
@[simp] theorem settlePause_ctx (t : Tile) : (settlePause t).ctx = t.ctx := by
  unfold settlePause; split <;> rfl
@[simp] theorem settlePause_owner (t : Tile) : (settlePause t).owner = t.owner := by
  unfold settlePause; split <;> rfl
@[simp] theorem settlePause_inReset (t : Tile) : (settlePause t).inReset = t.inReset := by
  unfold settlePause; split <;> rfl
@[simp] theorem settlePause_gregs (t : Tile) : (settlePause t).seq.gregs = t.seq.gregs := by
  unfold settlePause; split <;> rfl
@[simp] theorem settlePause_hbank (t : Tile) : (settlePause t).seq.hbank = t.seq.hbank := by
  unfold settlePause; split <;> rfl
@[simp] theorem settlePause_pc (t : Tile) : (settlePause t).seq.pc = t.seq.pc := by
  unfold settlePause; split <;> rfl
@[simp] theorem settlePause_mode (t : Tile) : (settlePause t).seq.mode = t.seq.mode := by
  unfold settlePause; split <;> rfl
@[simp] theorem settlePause_cur (t : Tile) : (settlePause t).seq.cur = t.seq.cur := by
  unfold settlePause; split <;> rfl
@[simp] theorem settlePause_handler (t : Tile) : (settlePause t).seq.handler = t.seq.handler := by
  unfold settlePause; split <;> rfl
@[simp] theorem settlePause_handlerPc (t : Tile) : (settlePause t).seq.handlerPc = t.seq.handlerPc := by
  unfold settlePause; split <;> rfl
@[simp] theorem settlePause_handlerQ (t : Tile) : (settlePause t).seq.handlerQ = t.seq.handlerQ := by
  unfold settlePause; split <;> rfl
@[simp] theorem settlePause_handlerTaken (t : Tile) : (settlePause t).seq.handlerTaken = t.seq.handlerTaken := by
  unfold settlePause; split <;> rfl
@[simp] theorem settlePause_dispatching (t : Tile) : (settlePause t).seq.dispatching = t.seq.dispatching := by
  unfold settlePause; split <;> rfl
@[simp] theorem settlePause_mainCur (t : Tile) : (settlePause t).seq.mainCur = t.seq.mainCur := by
  unfold settlePause; split <;> rfl
@[simp] theorem settlePause_activeCycles (t : Tile) : (settlePause t).seq.activeCycles = t.seq.activeCycles := by
  unfold settlePause; split <;> rfl
@[simp] theorem settlePause_excCause (t : Tile) : (settlePause t).seq.excCause = t.seq.excCause := by
  unfold settlePause; split <;> rfl
@[simp] theorem settlePause_excDetail (t : Tile) : (settlePause t).seq.excDetail = t.seq.excDetail := by
  unfold settlePause; split <;> rfl
@[simp] theorem settlePause_excPc (t : Tile) : (settlePause t).seq.excPc = t.seq.excPc := by
  unfold settlePause; split <;> rfl
@[simp] theorem settlePause_excMore (t : Tile) : (settlePause t).seq.excMore = t.seq.excMore := by
  unfold settlePause; split <;> rfl
@[simp] theorem settlePause_excDue (t : Tile) : (settlePause t).seq.excDue = t.seq.excDue := by
  unfold settlePause; split <;> rfl
@[simp] theorem settlePause_icache (t : Tile) : (settlePause t).seq.icache = t.seq.icache := by
  unfold settlePause; split <;> rfl
@[simp] theorem settlePause_handlerMask (t : Tile) : (settlePause t).seq.handlerMask = t.seq.handlerMask := by
  unfold settlePause; split <;> rfl
@[simp] theorem settlePause_stepTag (t : Tile) : (settlePause t).seq.stepTag = t.seq.stepTag := by
  unfold settlePause; split <;> rfl
@[simp] theorem settlePause_srSeed (t : Tile) : (settlePause t).seq.srSeed = t.seq.srSeed := by
  unfold settlePause; split <;> rfl
@[simp] theorem settlePause_srCount (t : Tile) : (settlePause t).seq.srCount = t.seq.srCount := by
  unfold settlePause; split <;> rfl
@[simp] theorem settlePause_comps (t : Tile) : (settlePause t).seq.comps = t.seq.comps := by
  unfold settlePause; split <;> rfl
@[simp] theorem settlePause_haltCode (t : Tile) : (settlePause t).seq.haltCode = t.seq.haltCode := by
  unfold settlePause; split <;> rfl
@[simp] theorem settlePause_startAt (t : Tile) : (settlePause t).seq.startAt = t.seq.startAt := by
  unfold settlePause; split <;> rfl

/-- An instruction that completes without an effect outside: the tile's new state, with a due PAUSE settled. -/
theorem State.issue_pure (s : State) (n : Nat) (i : TInstr) (len : Nat) (u : Tile) (hl : lengthT i = len)
    (h : s.issues n len)
    (hd : tryInstr (s.envOf n) (s.tile n) i (markAfter (s.envOf n)) = .done (TOut.pure u))
    (ht : traceOf (s.tile n) (settlePause u) = []) :
    s.tileStep n (fun env tl => tileIssue env i tl) = .next (s.setTile n (settlePause u)) := by
  refine s.tileStep_pure n _ _ h.live ?_ ht
  rw [s.issues_try n i (by rw [hl]; exact h), hd]
  rfl

/-- An instruction that is held or waits (R131): pc stays at it. -/
theorem State.issue_wait (s : State) (n : Nat) (i : TInstr) (len : Nat) (k : WaitKind) (hl : lengthT i = len)
    (h : s.issues n len)
    (hd : tryInstr (s.envOf n) (s.tile n) i (markAfter (s.envOf n)) = .wait k) :
    s.tileStep n (fun env tl => tileIssue env i tl)
      = .next (s.setTile n (settlePause ((s.tile n).holdAt i k))) := by
  refine s.tileStep_pure n _ _ h.live ?_ ?_
  · rw [s.issues_try n i (by rw [hl]; exact h), hd]
    rfl
  · exact traceOf_quiet _ _ (by simp [Tile.holdAt]) (by simp [Tile.holdAt]) (by simp [Tile.holdAt])
      (by simp [Tile.holdAt])

/-! ### Registers (R136) -/

@[simp] theorem settlePause_greg (t : Tile) (r : BitVec 5) : (settlePause t).seq.greg r = t.seq.greg r := by
  simp [Seq.greg, inHandlerBank]


@[simp] theorem Seq.setGreg_pc (q : Seq) (r : BitVec 5) (v : Word) : (q.setGreg r v).pc = q.pc := by
  unfold Seq.setGreg; split; · rfl
  split <;> rfl
@[simp] theorem Seq.setGreg_mode (q : Seq) (r : BitVec 5) (v : Word) : (q.setGreg r v).mode = q.mode := by
  unfold Seq.setGreg; split; · rfl
  split <;> rfl
@[simp] theorem Seq.setGreg_handler (q : Seq) (r : BitVec 5) (v : Word) : (q.setGreg r v).handler = q.handler := by
  unfold Seq.setGreg; split; · rfl
  split <;> rfl
@[simp] theorem Seq.setGreg_cur (q : Seq) (r : BitVec 5) (v : Word) : (q.setGreg r v).cur = q.cur := by
  unfold Seq.setGreg; split; · rfl
  split <;> rfl
@[simp] theorem Seq.setGreg_comps (q : Seq) (r : BitVec 5) (v : Word) : (q.setGreg r v).comps = q.comps := by
  unfold Seq.setGreg; split; · rfl
  split <;> rfl
@[simp] theorem Tile.setGreg_integ (t : Tile) (r : BitVec 5) (v : Word) : (t.setGreg r v).integ = t.integ := rfl
@[simp] theorem Tile.setGreg_spad (t : Tile) (r : BitVec 5) (v : Word) : (t.setGreg r v).spad = t.spad := rfl
@[simp] theorem Tile.setGreg_arr (t : Tile) (r : BitVec 5) (v : Word) : (t.setGreg r v).arr = t.arr := rfl
@[simp] theorem Tile.setGreg_chan (t : Tile) (r : BitVec 5) (v : Word) : (t.setGreg r v).chan = t.chan := rfl
@[simp] theorem Tile.setGreg_pc (t : Tile) (r : BitVec 5) (v : Word) : (t.setGreg r v).seq.pc = t.seq.pc := by
  simp [Tile.setGreg]
@[simp] theorem Tile.setGreg_mode (t : Tile) (r : BitVec 5) (v : Word) : (t.setGreg r v).seq.mode = t.seq.mode := by
  simp [Tile.setGreg]
@[simp] theorem Tile.setGreg_handler (t : Tile) (r : BitVec 5) (v : Word) :
    (t.setGreg r v).seq.handler = t.seq.handler := by simp [Tile.setGreg]
@[simp] theorem Tile.advance_integ (t : Tile) (n : Nat) : (t.advance n).integ = t.integ := rfl
@[simp] theorem Tile.advance_spad (t : Tile) (n : Nat) : (t.advance n).spad = t.spad := rfl
@[simp] theorem Tile.advance_arr (t : Tile) (n : Nat) : (t.advance n).arr = t.arr := rfl
@[simp] theorem Tile.advance_chan (t : Tile) (n : Nat) : (t.advance n).chan = t.chan := rfl
@[simp] theorem Tile.advance_mode (t : Tile) (n : Nat) : (t.advance n).seq.mode = t.seq.mode := rfl
@[simp] theorem Tile.advance_handler (t : Tile) (n : Nat) : (t.advance n).seq.handler = t.seq.handler := rfl
@[simp] theorem Tile.advance_gregs (t : Tile) (n : Nat) : (t.advance n).seq.gregs = t.seq.gregs := rfl

/-- Writing a register and going on to the next instruction: nothing outside the sequencer changes. -/
theorem traceOf_regs (t : Tile) (r : BitVec 5) (v : Word) (n : Nat) :
    traceOf t (settlePause ((t.setGreg r v).advance n)) = [] :=
  traceOf_quiet _ _ (by simp) (by simp) (by simp) (by simp)

/-- An instruction that only writes a register. -/
theorem State.issue_reg (s : State) (n : Nat) (i : TInstr) (len : Nat) (r : BitVec 5) (v : Word)
    (hl : lengthT i = len) (h : s.issues n len)
    (hd : tryInstr (s.envOf n) (s.tile n) i (markAfter (s.envOf n))
      = .done (TOut.pure (((s.tile n).setGreg r v).advance len))) :
    s.tileStep n (fun env tl => tileIssue env i tl) = .next (s.wrote n r v len) :=
  s.issue_pure n i len _ hl h hd (traceOf_regs _ r v _)

end Sys2Proof.Machine
end

