-- ==== Sys2Proof/Laws/TileOps.lean ====
section
/-! SUPPORT. What the operations that tile instructions share can do (R116, R119, R145, R176, R294). -/

namespace Sys2Proof.Machine

theorem slt_int (a b : Word) : BitVec.slt a b = decide (a.toInt < b.toInt) := rfl
theorem ult_nat (a b : Word) : BitVec.ult a b = decide (a.toNat < b.toNat) := rfl


@[simp] theorem addRead_seq (t : Tile) (f l : Nat) : (addRead t f l).seq = t.seq := by
  unfold addRead; split; · rfl
  split <;> rfl
@[simp] theorem addRead_integ (t : Tile) (f l : Nat) : (addRead t f l).integ = t.integ := by
  unfold addRead; split; · rfl
  split <;> rfl
@[simp] theorem addRead_mem (t : Tile) (f l : Nat) : (addRead t f l).spad.mem = t.spad.mem := by
  unfold addRead; split; · rfl
  split <;> rfl

/-- A whole tile register lies where R145 puts it. -/
theorem placeOf_reg (off : Nat) (h8 : off % 8 = 0) (hhi : off < 0x9000)
    (hg : ¬(0x100 ≤ off ∧ off < 0x200)) : placeOf (0x7F00000 + off) 8 = .reg off := by
  have h0 : (0x7F00000 + off) % 8 = 0 := by omega
  have h1 : ¬ 0x7F00000 + off < 0x7000000 := by omega
  have h4 : tileRegBase + off - tileRegBase = off := by omega
  have h2 : ¬ (0x100 ≤ tileRegBase + off - tileRegBase ∧ tileRegBase + off - tileRegBase < 0x200) := by omega
  unfold placeOf
  rw [if_neg (fun hne => hne h0), if_neg h1, if_pos ⟨by simp only [tileRegBase]; omega, by simp only [tileRegBase]; omega, rfl⟩]
  show (if 0x100 ≤ tileRegBase + off - tileRegBase ∧ tileRegBase + off - tileRegBase < 0x200 then Place.outside
    else .reg (tileRegBase + off - tileRegBase)) = _
  rw [if_neg h2, h4]

theorem writeComp_quiet (t : Tile) (n v : Nat) : (writeComp t n v).seq.handler = t.seq.handler
    ∧ (writeComp t n v).seq.mode = t.seq.mode ∧ (writeComp t n v).integ = t.integ := by
  exact ⟨rfl, rfl, rfl⟩
/-- A register write changes neither the handler flag, the mode, the step nor a replay that is due. -/
theorem tsWrite_quiet (t : Tile) (off x : Nat) : (tsWrite t off x).seq.handler = t.seq.handler
    ∧ (tsWrite t off x).seq.mode = t.seq.mode ∧ (tsWrite t off x).integ.stepSeq = t.integ.stepSeq
    ∧ (tsWrite t off x).integ.replayPending = t.integ.replayPending := by
  unfold tsWrite
  repeat' split
  all_goals exact ⟨rfl, rfl, rfl, rfl⟩

@[simp] theorem touchBlocks_mem (pm : Bool) (w : Nat → Bool) (bs : List Nat) :
    ∀ sp : Spad, (touchBlocks pm w sp bs).mem = sp.mem ∧ (touchBlocks pm w sp bs).stores = sp.stores := by
  induction bs with
  | nil => intro sp; exact ⟨rfl, rfl⟩
  | cons b bs ih => intro sp; exact ih _


end Sys2Proof.Machine
end

