-- ==== Sys2Proof/Laws/Trace.lean ====
section
/-! SUPPORT. What a trace record leaves alone (R447). -/

namespace Sys2Proof.Machine

variable (s : State)

/-- A fold keeps what each of its steps keeps. -/
theorem foldl_keep {α β : Type} (g : State → β) (f : State → α → State) (h : ∀ s a, g (f s a) = g s) :
    ∀ (l : List α) (s : State), g (l.foldl f s) = g s := by
  intro l
  induction l with
  | nil => intro s; rfl
  | cons a l ih => intro s; rw [List.foldl_cons, ih, h]

@[simp] theorem State.traceRecord_facts (c n : Nat) (r : Nat × Nat) : (s.traceRecord c n r).facts = s.facts := by
  unfold State.traceRecord; split; · rfl
  split <;> simp
@[simp] theorem State.traceRecord_pins (c n : Nat) (r : Nat × Nat) : (s.traceRecord c n r).pins = s.pins := by
  unfold State.traceRecord; split; · rfl
  split <;> simp
@[simp] theorem State.traceRecord_bring (c n : Nat) (r : Nat × Nat) : (s.traceRecord c n r).bring = s.bring := by
  unfold State.traceRecord; split; · rfl
  split <;> simp
@[simp] theorem State.traceRecord_hm (c n : Nat) (r : Nat × Nat) : (s.traceRecord c n r).hm = s.hm := by
  unfold State.traceRecord; split; · rfl
  split <;> simp
@[simp] theorem State.traceRecord_uci (c n : Nat) (r : Nat × Nat) : (s.traceRecord c n r).uci = s.uci := by
  unfold State.traceRecord; split; · rfl
  split <;> simp
@[simp] theorem State.traceRecord_sec (c n : Nat) (r : Nat × Nat) : (s.traceRecord c n r).sec = s.sec := by
  unfold State.traceRecord; split; · rfl
  split <;> simp
@[simp] theorem State.traceRecord_faults (c n : Nat) (r : Nat × Nat) : (s.traceRecord c n r).faults = s.faults := by
  unfold State.traceRecord; split; · rfl
  split <;> simp
@[simp] theorem State.traceRecord_clk (c n : Nat) (r : Nat × Nat) : (s.traceRecord c n r).clk = s.clk := by
  unfold State.traceRecord; split; · rfl
  split <;> simp
@[simp] theorem State.traceRecord_pwr (c n : Nat) (r : Nat × Nat) : (s.traceRecord c n r).pwr = s.pwr := by
  unfold State.traceRecord; split; · rfl
  split <;> simp
@[simp] theorem State.traceRecord_fab (c n : Nat) (r : Nat × Nat) : (s.traceRecord c n r).fab = s.fab := by
  unfold State.traceRecord; split; · rfl
  split <;> simp
@[simp] theorem State.traceRecord_net (c n : Nat) (r : Nat × Nat) : (s.traceRecord c n r).net = s.net := by
  unfold State.traceRecord; split; · rfl
  split <;> simp
@[simp] theorem State.traceRecord_hbm (c n : Nat) (r : Nat × Nat) : (s.traceRecord c n r).hbm = s.hbm := by
  unfold State.traceRecord; split; · rfl
  split <;> simp
@[simp] theorem State.traceRecord_parts (c n : Nat) (r : Nat × Nat) : (s.traceRecord c n r).parts = s.parts := by
  unfold State.traceRecord; split; · rfl
  split <;> simp
@[simp] theorem State.traceRecord_tiles (c n : Nat) (r : Nat × Nat) : (s.traceRecord c n r).tiles = s.tiles := by
  unfold State.traceRecord; split; · rfl
  split <;> simp
@[simp] theorem State.traceRecord_i3c (c n : Nat) (r : Nat × Nat) : (s.traceRecord c n r).i3c = s.i3c := by
  unfold State.traceRecord; split; · rfl
  split <;> simp
@[simp] theorem State.traceRecord_freeCtr (c n : Nat) (r : Nat × Nat) : (s.traceRecord c n r).freeCtr = s.freeCtr := by
  unfold State.traceRecord; split; · rfl
  split <;> simp
@[simp] theorem State.traceRecord_pending (c n : Nat) (r : Nat × Nat) : (s.traceRecord c n r).pending = s.pending := by
  unfold State.traceRecord; split; · rfl
  split <;> simp
@[simp] theorem State.traceStep_facts (n : Nat) (a b : Tile) : (s.traceStep n a b).facts = s.facts := by
  unfold State.traceStep; split
  · exact foldl_keep (·.facts) _ (fun s r => by simp) _ _
  · rfl
@[simp] theorem State.traceStep_pins (n : Nat) (a b : Tile) : (s.traceStep n a b).pins = s.pins := by
  unfold State.traceStep; split
  · exact foldl_keep (·.pins) _ (fun s r => by simp) _ _
  · rfl
@[simp] theorem State.traceStep_bring (n : Nat) (a b : Tile) : (s.traceStep n a b).bring = s.bring := by
  unfold State.traceStep; split
  · exact foldl_keep (·.bring) _ (fun s r => by simp) _ _
  · rfl
@[simp] theorem State.traceStep_hm (n : Nat) (a b : Tile) : (s.traceStep n a b).hm = s.hm := by
  unfold State.traceStep; split
  · exact foldl_keep (·.hm) _ (fun s r => by simp) _ _
  · rfl
@[simp] theorem State.traceStep_uci (n : Nat) (a b : Tile) : (s.traceStep n a b).uci = s.uci := by
  unfold State.traceStep; split
  · exact foldl_keep (·.uci) _ (fun s r => by simp) _ _
  · rfl
@[simp] theorem State.traceStep_sec (n : Nat) (a b : Tile) : (s.traceStep n a b).sec = s.sec := by
  unfold State.traceStep; split
  · exact foldl_keep (·.sec) _ (fun s r => by simp) _ _
  · rfl
@[simp] theorem State.traceStep_faults (n : Nat) (a b : Tile) : (s.traceStep n a b).faults = s.faults := by
  unfold State.traceStep; split
  · exact foldl_keep (·.faults) _ (fun s r => by simp) _ _
  · rfl
@[simp] theorem State.traceStep_clk (n : Nat) (a b : Tile) : (s.traceStep n a b).clk = s.clk := by
  unfold State.traceStep; split
  · exact foldl_keep (·.clk) _ (fun s r => by simp) _ _
  · rfl
@[simp] theorem State.traceStep_pwr (n : Nat) (a b : Tile) : (s.traceStep n a b).pwr = s.pwr := by
  unfold State.traceStep; split
  · exact foldl_keep (·.pwr) _ (fun s r => by simp) _ _
  · rfl
@[simp] theorem State.traceStep_fab (n : Nat) (a b : Tile) : (s.traceStep n a b).fab = s.fab := by
  unfold State.traceStep; split
  · exact foldl_keep (·.fab) _ (fun s r => by simp) _ _
  · rfl
@[simp] theorem State.traceStep_net (n : Nat) (a b : Tile) : (s.traceStep n a b).net = s.net := by
  unfold State.traceStep; split
  · exact foldl_keep (·.net) _ (fun s r => by simp) _ _
  · rfl
@[simp] theorem State.traceStep_hbm (n : Nat) (a b : Tile) : (s.traceStep n a b).hbm = s.hbm := by
  unfold State.traceStep; split
  · exact foldl_keep (·.hbm) _ (fun s r => by simp) _ _
  · rfl
@[simp] theorem State.traceStep_parts (n : Nat) (a b : Tile) : (s.traceStep n a b).parts = s.parts := by
  unfold State.traceStep; split
  · exact foldl_keep (·.parts) _ (fun s r => by simp) _ _
  · rfl
@[simp] theorem State.traceStep_tiles (n : Nat) (a b : Tile) : (s.traceStep n a b).tiles = s.tiles := by
  unfold State.traceStep; split
  · exact foldl_keep (·.tiles) _ (fun s r => by simp) _ _
  · rfl
@[simp] theorem State.traceStep_i3c (n : Nat) (a b : Tile) : (s.traceStep n a b).i3c = s.i3c := by
  unfold State.traceStep; split
  · exact foldl_keep (·.i3c) _ (fun s r => by simp) _ _
  · rfl
@[simp] theorem State.traceStep_freeCtr (n : Nat) (a b : Tile) : (s.traceStep n a b).freeCtr = s.freeCtr := by
  unfold State.traceStep; split
  · exact foldl_keep (·.freeCtr) _ (fun s r => by simp) _ _
  · rfl
@[simp] theorem State.traceStep_pending (n : Nat) (a b : Tile) : (s.traceStep n a b).pending = s.pending := by
  unfold State.traceStep; split
  · exact foldl_keep (·.pending) _ (fun s r => by simp) _ _
  · rfl

/-- A tile's step, whatever it traces: the tile's new state and its effects outside, seen through anything that a
trace record leaves alone. -/
theorem State.runTile_keep {β : Type} (g : State → β) (n : Nat) (f : TileEnv → Tile → TOut) (o : TOut)
    (h : f (s.envOf n) (s.tile n) = o) (hg : ∀ (s : State) (a b : Tile), g (s.traceStep n a b) = g s) :
    g (s.runTile n f) = g (o.effs.foldl (fun s e => s.applyEff n e) (s.setTile n o.tile)) := by
  simp only [State.runTile, h]
  split
  · exact hg _ _ _
  · rfl

end Sys2Proof.Machine
end

