-- ==== Sys2Proof/Laws/Engines.lean ====
section
/-! SUPPORT. What the operations that engine instructions share can do (R97, R110 to R119, R294, R295). -/

namespace Sys2Proof.Machine

@[simp] theorem addReads_seq (rs : List Range) : ∀ t : Tile, (addReads t rs).seq = t.seq := by
  induction rs with
  | nil => intro t; rfl
  | cons r rs ih => intro t; simp only [addReads]; rw [ih]; split <;> simp
@[simp] theorem addReads_integ (rs : List Range) : ∀ t : Tile, (addReads t rs).integ = t.integ := by
  induction rs with
  | nil => intro t; rfl
  | cons r rs ih => intro t; simp only [addReads]; rw [ih]; split <;> simp
@[simp] theorem addReads_vecQ (rs : List Range) : ∀ t : Tile, (addReads t rs).vecQ = t.vecQ := by
  induction rs with
  | nil => intro t; rfl
  | cons r rs ih =>
    intro t; simp only [addReads]; rw [ih]; split
    · rfl
    · simp only [addRead]; repeat' split
      all_goals rfl

/-- A read that is recorded changes the step read set and its flags alone (R119). -/
theorem addRead_only (t : Tile) (f l : Nat) :
    ∃ rs a b, addRead t f l = { t with spad := { t.spad with readSet := rs, readsetOverflow := a, stepOverflow := b } } := by
  unfold addRead
  split
  · exact ⟨t.spad.readSet, t.spad.readsetOverflow, t.spad.stepOverflow, rfl⟩
  · split
    · exact ⟨_, t.spad.readsetOverflow, t.spad.stepOverflow, rfl⟩
    · exact ⟨t.spad.readSet, true, true, rfl⟩

/-- Reads that are recorded change the step read set and its flags alone (R119). -/
theorem addReads_only (rs : List Range) : ∀ t : Tile,
    ∃ x a b, addReads t rs = { t with spad := { t.spad with readSet := x, readsetOverflow := a, stepOverflow := b } } := by
  induction rs with
  | nil => intro t; exact ⟨t.spad.readSet, t.spad.readsetOverflow, t.spad.stepOverflow, rfl⟩
  | cons r rs ih =>
    intro t
    simp only [addReads]
    obtain ⟨x, a, b, h⟩ := ih (if r.write then t else addRead t r.first r.last)
    rw [h]
    split
    · exact ⟨x, a, b, rfl⟩
    · obtain ⟨y, c, d, h2⟩ := addRead_only t r.first r.last
      rw [h2]
      exact ⟨x, a, b, rfl⟩

/-- Of a tile whose stored check values agree, a covered block does not fail its comparison (R295). -/
theorem crcBad_sound (t : Tile) (c : Cover) (h : t.sound) : crcBad t.spad c = false := by
  unfold crcBad
  rw [List.any_eq_false]
  intro b _
  by_cases hv : (t.spad.sideOf b).st = .valid
  · simp [h.2 b hv]
  · simp [hv]

theorem parityHit_sound (t : Tile) (a n : Nat) (h : t.sound) : t.spad.parityHit a n = false := by
  simp [Spad.parityHit, h.1]

/-- The block checks of a tile that stores no error count UNVERIFIED, and do nothing else (R295). -/
theorem checkBlocks_sound (env : TileEnv) (t : Tile) (spans : List (Nat × Nat)) (h : t.sound) :
    ∃ v, checkBlocks env t spans = TOut.pure { t with integ := { t.integ with unverified := v } } := by
  simp only [checkBlocks, crcBad_sound t (coverOf spans) h, TOut.andIf, Bool.and_false, Bool.false_eq_true, if_false]
  cases env.parityMode
  · exact ⟨_, rfl⟩
  · exact ⟨t.integ.unverified, rfl⟩

/-- One byte is no whole block (R294). -/
theorem coverOf_byte_whole (a b : Nat) : (coverOf [(a, 1)]).whole b = false := by
  have hc : coverOf [(a, 1)] = SMap.mod 0 [] (a / 256) (fun m => m ||| ((2 ^ 1 - 1) <<< (a % 256))) := by
    have h1 : min 1 (256 - a % 256) = 1 := by omega
    simp [coverOf, Cover.addSpan, Cover.addRow, h1]
  unfold Cover.whole
  rw [List.all_eq_false]
  have hi : ∃ i, i < 16 ∧ b * 16 + i ≠ a / 256 := by
    by_cases h : b * 16 = a / 256
    · exact ⟨1, by omega, by omega⟩
    · exact ⟨0, by omega, by omega⟩
  obtain ⟨i, hi, hne⟩ := hi
  refine ⟨i, by simpa using hi, ?_⟩
  rw [hc, SMap.mod, SMap.get_set_other _ _ _ _ _ hne]
  simp [SMap.get]

/-- The check of the block of one byte counts UNVERIFIED, and does nothing else (R295). -/
theorem checkBlocks_byte (env : TileEnv) (t : Tile) (a : Nat) :
    ∃ v, checkBlocks env t [(a, 1)] = TOut.pure { t with integ := { t.integ with unverified := v } } := by
  have hc : crcBad t.spad (coverOf [(a, 1)]) = false := by
    simp [crcBad, coverOf_byte_whole]
  simp only [checkBlocks, hc, TOut.andIf, Bool.and_false, Bool.false_eq_true, if_false]
  cases env.parityMode
  · exact ⟨_, rfl⟩
  · exact ⟨t.integ.unverified, rfl⟩

/-- The reads of a tile that stores no error count UNVERIFIED and wide accesses, and do nothing else (R295, R392). -/
theorem checkReads_sound (env : TileEnv) (t : Tile) (spans : List (Nat × Nat)) (h : t.sound) :
    ∃ v k, checkReads env t spans = TOut.pure { t with integ := { t.integ with unverified := v }, counts := k } := by
  have hp : spans.any (fun s => t.spad.parityHit s.1 s.2) = false := by
    rw [List.any_eq_false]; intro x _; simp [parityHit_sound t _ _ h]
  obtain ⟨v, hv⟩ := checkBlocks_sound env (t.count .wide (wideOf (spans.map (fun s => s.2)))) spans h
  refine ⟨v, (t.count .wide (wideOf (spans.map (fun s => s.2)))).counts, ?_⟩
  simp only [checkReads, hp, TOut.andIf, Bool.false_eq_true, if_false, TOut.pure_andThen]
  exact hv

/-- An engine instruction whose ranges pass and that the scoreboard and the queue let through issues (R97, R113 to
R118). -/
theorem issueWith_done (t : Tile) (rs : List Range) (full : Bool) (go : Tile → TOut)
    (h1 : rangesFault t rs = none) (h2 : boardHolds t rs = false) (h3 : full = false) :
    issueWith t rs full go = .done (go (addReads t rs)) := by
  simp [issueWith, h1, h2, h3]

/-- An issued engine instruction moves pc past it. -/
theorem Tried.past_done (u : Tile) (n : Nat) (h : u.seq.mode = .running) :
    (Tried.done (TOut.pure u)).past n = .done (TOut.pure (u.advance n)) := by
  simp [Tried.past, TOut.map, TOut.pure, h]

/-- A sequencer that may issue runs (R134). -/
theorem State.issues.mode {s : State} {t len : Nat} (h : s.issues t len) : (s.tile t).seq.mode = .running := by
  have := h.1.2.2.1
  simp only [mayIssue, Bool.and_eq_true, decide_eq_true_eq] at this
  exact this.1.1.1.1.1.1

/-- An engine instruction that issues and changes its own tile alone: pc passes it (R131, R140). -/
theorem State.issue_engine (s : State) (t : Nat) (i : TInstr) (hl : lengthT i = 8) (h : s.issues t 8) (r : Tried)
    (u : Tile) (hi : tryInstr (s.envOf t) (s.tile t) i (markAfter (s.envOf t)) = r.past 8)
    (hr : r = .done (TOut.pure u)) (h1 : u.seq.mode = (s.tile t).seq.mode)
    (h2 : u.seq.handler = (s.tile t).seq.handler) (h3 : u.integ.stepSeq = (s.tile t).integ.stepSeq)
    (h4 : u.integ.replayPending = (s.tile t).integ.replayPending) :
    s.tileStep t (fun env tl => tileIssue env i tl) = .next (s.setTile t (settlePause (u.advance 8))) := by
  refine s.issue_pure t i 8 _ hl h ?_ ?_
  · rw [hi, hr]
    exact Tried.past_done u 8 (by rw [h1]; exact h.mode)
  · exact traceOf_quiet _ _ (by simpa using h2) (by simpa using h3) (by simpa using h1) (by simpa using h4)

/-- What reads that are recorded leave alone (R119). -/
theorem addReads_keep (t : Tile) (rs : List Range) :
    (addReads t rs).arr = t.arr ∧ (addReads t rs).chan = t.chan ∧ (addReads t rs).moveQ = t.moveQ
      ∧ (addReads t rs).outst = t.outst ∧ (addReads t rs).spad.mem = t.spad.mem
      ∧ (addReads t rs).spad.parityBad = t.spad.parityBad ∧ (addReads t rs).spad.side = t.spad.side := by
  obtain ⟨x, a, b, h⟩ := addReads_only rs t
  rw [h]
  exact ⟨rfl, rfl, rfl, rfl, rfl, rfl, rfl⟩

theorem Tile.sound_congr (t u : Tile) (h : t.sound) (h1 : u.spad.mem = t.spad.mem)
    (h2 : u.spad.parityBad = t.spad.parityBad) (h3 : u.spad.side = t.spad.side) : u.sound := by
  refine ⟨by rw [h2]; exact h.1, fun b hb => ?_⟩
  have e : u.spad.sideOf b = t.spad.sideOf b := by simp only [Spad.sideOf, h3]
  rw [e] at hb ⊢
  rw [h.2 b hb]
  simp only [blockBytes, h1]

/-- Writes leave every byte outside them as it was. -/
theorem Spad.putAll_other (ws : List (Nat × List Byte)) :
    ∀ (sp : Spad) (b : Nat), (∀ w ∈ ws, b < w.1 ∨ w.1 + w.2.length ≤ b) →
      Memory.read (sp.putAll ws).mem b = Memory.read sp.mem b := by
  induction ws with
  | nil => intros; rfl
  | cons w ws ih =>
    intro sp b h
    show Memory.read (Spad.putAll (sp.putBytes w.1 w.2) ws).mem b = _
    rw [ih _ _ (fun w' hw => h w' (List.mem_cons_of_mem _ hw))]
    exact Memory.read_writeBytes_other _ _ _ _ (h w List.mem_cons_self)

/-- What writes leave in memory depends on memory alone. -/
theorem Spad.putAll_mem (ws : List (Nat × List Byte)) :
    ∀ sp sp' : Spad, sp.mem = sp'.mem → (sp.putAll ws).mem = (sp'.putAll ws).mem := by
  induction ws with
  | nil => intro sp sp' e; exact e
  | cons w ws ih => intro sp sp' e; exact ih _ _ (by simp only [Spad.putBytes, e])

theorem readSpans_mem (xs : List (Nat × Nat)) (sp sp' : Spad) (h : sp.mem = sp'.mem) :
    readSpans sp xs = readSpans sp' xs := by
  induction xs with
  | nil => rfl
  | cons x xs ih => simp only [readSpans, h, ih]

/-- A VEC's writes depend on memory and the seed registers alone (R149 to R155). -/
theorem vecWrites_mem (op : VecOp) (t u : Tile) (f : VecFields) (a : VecArgs) (h : u.spad.mem = t.spad.mem)
    (h2 : u.seq = t.seq) : vecWrites op u f a = vecWrites op t f a := by
  unfold vecWrites
  split
  · simp only [readSpans_mem _ u.spad t.spad h]
  · have e1 : vecS1 u f a = vecS1 t f a := by funext i; simp only [vecS1, h]
    have e2 : vecResults op u f a = vecResults op t f a := by
      simp only [vecResults, vecS2, vecPlain, e1, h]
    simp only [e1, e2, h2]

theorem vecAdvance_keep (op : VecOp) (f : VecFields) (q : Seq) :
    (vecAdvance op f q).pc = q.pc ∧ (vecAdvance op f q).mode = q.mode ∧ (vecAdvance op f q).gregs = q.gregs
      ∧ (vecAdvance op f q).hbank = q.hbank ∧ (vecAdvance op f q).comps = q.comps
      ∧ (vecAdvance op f q).handler = q.handler := by
  unfold vecAdvance
  split <;> exact ⟨rfl, rfl, rfl, rfl, rfl, rfl⟩

end Sys2Proof.Machine
end

