-- ==== Sys2Proof/Laws/Moves.lean ====
section
/-! SUPPORT. What the move engine does with a transfer's packets (R157 to R160, R185, R195, R206). -/

namespace Sys2Proof.Machine

/-- An outstanding packet as the move engine records it (R195). -/
def outstandingOf (env : TileEnv) (t : Tile) (ident : Nat) (p : Packet) : Outstanding :=
  { pkt := { p with payload := [], trailer := [] }, rows := packetRows p, sentAt := t.seq.activeCycles,
    ident := ident, use := .move, timeout := env.ackTimeout }

/-- One packet of the only move in the queue leaves. -/
theorem pump_cons (env : TileEnv) (n : Nat) (t : Tile) (m : MoveOp) (p : Packet) (ps : List Packet)
    (hq : t.moveQ = [{ m with waiting := p :: ps }]) (hi : mayInject t p.circ = true)
    (hr : p.circ = true ∨ routableTo env p = true) :
    pump env (n + 1) t = (launchPacket env { t with moveQ := [] } m.ident p
        (if p.circ then some m.word else none)).andThen
      (fun u => pump env n (settleMove env u { m with waiting := ps } [])) := by
  have hf : (!p.circ && !routableTo env p) = false := by
    rcases hr with h | h <;> simp [h]
  have hm : pumpMove env t = some ((launchPacket env { t with moveQ := [] } m.ident p
      (if p.circ then some m.word else none)).map (fun u => settleMove env u { m with waiting := ps } [])) := by
    simp only [pumpMove, hq, hi, hf, Bool.not_true, Bool.false_eq_true, if_false, Bool.false_and, moveCircuit]
  simp only [pump, hm, Option.some_or]
  rfl

/-- With nothing left to inject, no check copy and no missed entry, the engine does nothing. -/
theorem pump_none (env : TileEnv) (n : Nat) (t : Tile) (h : ∀ m ∈ t.moveQ, m.waiting = [])
    (hc : t.integ.copyOut = []) (he : t.chan.misses = []) : pump env n t = TOut.pure t := by
  cases n with
  | zero => rfl
  | succ n =>
    have e : pumpMove env t = none := by
      unfold pumpMove
      split
      · rfl
      · rename_i m rest hq
        rw [h m (by rw [hq]; exact List.mem_cons_self)]
    have e2 : pumpCopy env t = none := by simp [pumpCopy, hc]
    have e3 : pumpEntry env t = none := by simp [pumpEntry, he]
    simp [pump, e, e2, e3]

/-- A move that has nothing left to inject leaves a queue with nothing to inject. -/
theorem settleMove_waiting (env : TileEnv) (t : Tile) (m : MoveOp) :
    ∀ x ∈ (settleMove env t { m with waiting := [] } []).moveQ, x.waiting = [] := by
  intro x hx
  unfold settleMove at hx
  simp only [if_true] at hx
  split at hx <;> split at hx <;> simp at hx <;> simp [hx]

/-- A move that settles leaves check copies and missed entries alone. -/
theorem settleMove_keep (env : TileEnv) (t : Tile) (m : MoveOp) (rest : List MoveOp) :
    (settleMove env t m rest).integ.copyOut = t.integ.copyOut ∧ (settleMove env t m rest).chan = t.chan := by
  unfold settleMove
  split
  · split <;> simp only <;> split <;> exact ⟨rfl, rfl⟩
  · exact ⟨rfl, rfl⟩

/-- Whether a packet leaves through the mesh at once (R192). -/
def packetFree (env : TileEnv) (p : Packet) : Prop := p.circ = false ∧ routableTo env p = true

/-- A move whose packets all may leave injects them in order; each is outstanding (R195). -/
theorem pump_free (env : TileEnv) (m : MoveOp) : ∀ (ps : List Packet) (n : Nat) (t : Tile), ps ≠ [] → ps.length ≤ n →
    t.moveQ = [{ m with waiting := ps }] → t.stopped = none → t.outst.length + ps.length ≤ 64 →
    t.integ.copyOut = [] → t.chan.misses = [] → (∀ p ∈ ps, packetFree env p) →
    pump env n t = ⟨settleMove env { t with moveQ := [], outst := t.outst ++ ps.map (outstandingOf env t m.ident) }
      { m with waiting := [] } [], ps.map .inject⟩ := by
  intro ps
  induction ps with
  | nil => intro n t h; exact absurd rfl h
  | cons p ps ih =>
    intro n t _ hn hq hs ho hc he hp
    cases n with
    | zero => simp at hn
    | succ n =>
      have hp1 := hp p List.mem_cons_self
      simp only [List.length_cons] at hn ho
      have hi : mayInject t p.circ = true := by
        have h64 : t.outst.length < 64 := by omega
        simp [mayInject, hs, h64]
      rw [pump_cons env n t m p ps hq hi (.inr hp1.2)]
      have hl : launchPacket env { t with moveQ := [] } m.ident p (if p.circ then some m.word else none)
          = ⟨{ t with moveQ := [], outst := t.outst ++ [outstandingOf env t m.ident p] }, [.inject p]⟩ := by
        rw [if_neg (by simp [hp1.1])]
        simp only [launchPacket, hp1.2]
        rfl
      rw [hl]
      cases ps with
      | nil =>
        simp only [TOut.andThen]
        rw [pump_none env n _ (settleMove_waiting env _ m) (by rw [(settleMove_keep env _ _ _).1]; exact hc)
          (by rw [(settleMove_keep env _ _ _).2]; exact he)]
        simp [TOut.pure]
      | cons p2 ps =>
        simp only [TOut.andThen]
        have hset : settleMove env { t with moveQ := [], outst := t.outst ++ [outstandingOf env t m.ident p] }
            { m with waiting := p2 :: ps } []
            = { t with moveQ := [{ m with waiting := p2 :: ps }], outst := t.outst ++ [outstandingOf env t m.ident p] } := by
          simp [settleMove]
        rw [hset, ih n { t with moveQ := [{ m with waiting := p2 :: ps }], outst := t.outst ++ [outstandingOf env t m.ident p] }
          (by simp) (by simpa using hn) rfl hs
          (by simp only [List.length_append, List.length_cons, List.length_nil] at ho ⊢; omega) hc he
          (fun x hx => hp x (List.mem_cons_of_mem _ hx))]
        simp only [List.map_cons, List.append_assoc, List.cons_append, List.nil_append]
        rfl

/-- What a list of packets adds to a counter. -/
def packetsRows (ps : List Packet) : Nat := (ps.map packetRows).sum

/-- A counter after a circuit move's packets left: COUNT grows packet by packet (R206). -/
def addCounts (t : Tile) : List Packet → Tile
  | [] => t
  | p :: ps => addCounts (t.addCount p.scc.toNat (packetRows p)) ps

/-- What counting leaves alone. -/
theorem addCounts_keep (ps : List Packet) : ∀ t : Tile, (addCounts t ps).moveQ = t.moveQ
    ∧ (addCounts t ps).outst = t.outst ∧ (addCounts t ps).spad = t.spad ∧ (addCounts t ps).arr = t.arr
    ∧ (addCounts t ps).chan = t.chan ∧ (addCounts t ps).integ = t.integ ∧ (addCounts t ps).seq.pc = t.seq.pc
    ∧ (addCounts t ps).seq.gregs = t.seq.gregs ∧ (addCounts t ps).seq.mode = t.seq.mode
    ∧ (addCounts t ps).seq.handler = t.seq.handler := by
  induction ps with
  | nil => intro t; exact ⟨rfl, rfl, rfl, rfl, rfl, rfl, rfl, rfl, rfl, rfl⟩
  | cons p ps ih => intro t; exact ih _

/-- What counting adds to the counters, when every packet names the same one. -/
theorem addCounts_comp (c : BitVec 12) (ps : List Packet) : ∀ t : Tile, (∀ p ∈ ps, p.scc = c) →
    ((addCounts t ps).comp c.toNat).count = (t.comp c.toNat).count + BitVec.ofNat 32 (packetsRows ps)
      ∧ ((addCounts t ps).comp c.toNat).failed = (t.comp c.toNat).failed
      ∧ ∀ n, n ≠ c.toNat → (addCounts t ps).comp n = t.comp n := by
  induction ps with
  | nil => intro t _; exact ⟨by simp [addCounts, packetsRows], rfl, fun _ _ => rfl⟩
  | cons p ps ih =>
    intro t h
    have hp := h p List.mem_cons_self
    have := ih (t.addCount p.scc.toNat (packetRows p)) (fun x hx => h x (List.mem_cons_of_mem _ hx))
    refine ⟨?_, ?_, ?_⟩
    · rw [addCounts, this.1, hp]
      simp only [Tile.comp, Tile.addCount, Tile.setComp, SMap.get_set_same, packetsRows, List.map_cons, List.sum_cons]
      apply BitVec.eq_of_toNat_eq
      simp
      omega
    · rw [addCounts, this.2.1, hp]
      simp [Tile.comp, Tile.addCount, Tile.setComp]
    · intro n hn
      rw [addCounts, this.2.2 n hn, hp]
      simp [Tile.comp, Tile.addCount, Tile.setComp, hn]

/-- A circuit move injects its packets in order (R206). -/
theorem pump_circ (env : TileEnv) (m : MoveOp) : ∀ (ps : List Packet) (n : Nat) (t : Tile), ps ≠ [] → ps.length ≤ n →
    t.moveQ = [{ m with waiting := ps }] → t.stopped = none → t.integ.copyOut = [] → t.chan.misses = [] →
    (∀ p ∈ ps, p.circ = true) →
    pump env n t = ⟨settleMove env (addCounts { t with moveQ := [] } ps) { m with waiting := [] } [],
      ps.map (.circuit m.word)⟩ := by
  intro ps
  induction ps with
  | nil => intro n t h; exact absurd rfl h
  | cons p ps ih =>
    intro n t _ hn hq hs hc he hp
    cases n with
    | zero => simp at hn
    | succ n =>
      have hp1 := hp p List.mem_cons_self
      simp only [List.length_cons] at hn
      have hi : mayInject t p.circ = true := by simp [mayInject, hs, hp1]
      rw [pump_cons env n t m p ps hq hi (.inl hp1)]
      simp only [hp1, if_true, launchPacket, TOut.andThen]
      cases ps with
      | nil =>
        rw [pump_none env n _ (settleMove_waiting env _ m) (by rw [(settleMove_keep env _ _ _).1]; exact hc)
          (by rw [(settleMove_keep env _ _ _).2]; exact he)]
        simp [TOut.pure, addCounts]
      | cons p2 ps =>
        have hset : settleMove env (Tile.addCount { t with moveQ := [] } p.scc.toNat (packetRows p))
            { m with waiting := p2 :: ps } []
            = { t.addCount p.scc.toNat (packetRows p) with moveQ := [{ m with waiting := p2 :: ps }] } := by
          simp [settleMove, Tile.addCount, Tile.setComp, Tile.comp]
        rw [hset, ih n { t.addCount p.scc.toNat (packetRows p) with moveQ := [{ m with waiting := p2 :: ps }] }
          (by simp) (by simpa using hn) rfl hs hc he (fun x hx => hp x (List.mem_cons_of_mem _ hx))]
        simp only [List.map_cons, List.cons_append, List.nil_append]
        rfl

/-! ### Cutting a transfer (R185, R330) -/

theorem cutRows_sum (hbm : Bool) : ∀ (n a rows : Nat), rows ≤ n → (cutRows hbm n a rows).sum = rows := by
  intro n
  induction n with
  | zero => intro a rows h; simp [cutRows]; omega
  | succ n ih =>
    intro a rows h
    by_cases h0 : rows = 0
    · simp [cutRows, h0]
    · simp only [cutRows, h0, if_false, List.sum_cons]
      cases hbm
      · simp only [Bool.false_eq_true, if_false]
        rw [ih _ _ (by omega)]
        omega
      · simp only [if_true]
        rw [ih _ _ (by omega)]
        omega

theorem cutRows_ne (hbm : Bool) (n a rows : Nat) (h : 0 < rows) : cutRows hbm (n + 1) a rows ≠ [] := by
  simp [cutRows, Nat.ne_of_gt h]

theorem cutRows_length (n : Nat) : ∀ (a rows : Nat), rows ≤ n → (cutRows false n a rows).length = ceilDiv rows 32 := by
  induction n with
  | zero => intro a rows h; simp [cutRows, ceilDiv]; omega
  | succ n ih =>
    intro a rows h
    by_cases h0 : rows = 0
    · simp [cutRows, h0, ceilDiv]
    · simp only [cutRows, h0, if_false, List.length_cons, Bool.false_eq_true]
      rw [ih _ _ (by omega)]
      simp only [ceilDiv]
      omega

/-! ### The packets of a transfer (R159, R185 to R187) -/

theorem readSpans_append (sp : Spad) (xs ys : List (Nat × Nat)) :
    readSpans sp (xs ++ ys) = readSpans sp xs ++ readSpans sp ys := by
  induction xs with
  | nil => rfl
  | cons x xs ih => simp [readSpans, ih]

theorem range_split (k n : Nat) (g : Nat → List (Nat × Nat)) :
    (List.range (k + n)).flatMap g = (List.range k).flatMap g ++ (List.range n).flatMap (fun i => g (k + i)) := by
  rw [List.range_add, List.flatMap_append]
  congr 1
  induction (List.range n) with
  | nil => rfl
  | cons x xs ih => simp [ih]

theorem pushPackets_length (env : TileEnv) (t : Tile) (f : MoveFields) (d : MoveDest) (c : Cover) (row : Nat)
    (ns : List Nat) : ∀ dn k, (pushPackets env t f d c row dn k ns).length = ns.length := by
  induction ns with
  | nil => intros; rfl
  | cons n ns ih => intro dn k; simp [pushPackets, ih]

theorem pushPackets_bytes (env : TileEnv) (t : Tile) (f : MoveFields) (d : MoveDest) (c : Cover) (row : Nat)
    (ns : List Nat) : ∀ dn k, (pushPackets env t f d c row dn k ns).flatMap (·.payload)
      = readSpans t.spad ((List.range ns.sum).flatMap (fun i => accessSpans f.cola row f.word.toNat (dn + i))) := by
  induction ns with
  | nil => intros; rfl
  | cons n ns ih =>
    intro dn k
    simp only [pushPackets, List.flatMap_cons, List.sum_cons]
    rw [ih, range_split, readSpans_append]
    simp only [Nat.add_assoc]
    rfl

theorem pushPackets_fields (env : TileEnv) (t : Tile) (f : MoveFields) (d : MoveDest) (c : Cover) (row : Nat)
    (ns : List Nat) : ∀ dn k, ∀ p ∈ pushPackets env t f d c row dn k ns,
      p.typ = typeOfRed f.red.toNat ∧ p.scc = f.lcc ∧ p.fab = d.fab ∧ p.fdest = d.fdest ∧ p.circ = false
        ∧ p.ssite = BitVec.ofNat 9 env.site ∧ p.part = env.part
        ∧ ∃ m, p.dsite = BitVec.ofNat 9 (destFields env d m).1 := by
  induction ns with
  | nil => intro dn k p h; simp [pushPackets] at h
  | cons n ns ih =>
    intro dn k p h
    simp only [pushPackets, List.mem_cons] at h
    rcases h with rfl | h
    · exact ⟨rfl, rfl, rfl, rfl, rfl, rfl, rfl, dn, rfl⟩
    · exact ih _ _ p h

theorem fetchPackets_length (env : TileEnv) (t : Tile) (f : MoveFields) (d : MoveDest) (row : Nat)
    (ns : List Nat) : ∀ dn k, (fetchPackets env t f d row dn k ns).length = ns.length := by
  induction ns with
  | nil => intros; rfl
  | cons n ns ih => intro dn k; simp [fetchPackets, ih]

theorem fetchPackets_fields (env : TileEnv) (t : Tile) (f : MoveFields) (d : MoveDest) (row : Nat)
    (ns : List Nat) : ∀ dn k, ∀ p ∈ fetchPackets env t f d row dn k ns,
      p.typ = 0x04 ∧ p.payload = [] ∧ p.scc = f.lcc ∧ p.fab = d.fab ∧ p.fdest = d.fdest ∧ p.circ = false
        ∧ p.ssite = BitVec.ofNat 9 env.site ∧ p.part = env.part
        ∧ ∃ m, p.dsite = BitVec.ofNat 9 (destFields env d m).1 := by
  induction ns with
  | nil => intro dn k p h; simp [fetchPackets] at h
  | cons n ns ih =>
    intro dn k p h
    simp only [fetchPackets, List.mem_cons] at h
    rcases h with rfl | h
    · exact ⟨rfl, rfl, rfl, rfl, rfl, rfl, rfl, rfl, dn, rfl⟩
    · exact ih _ _ p h

theorem circuitPackets_length (env : TileEnv) (t : Tile) (f : MovecFields) (c : Cover) (row dst : Nat)
    (ns : List Nat) : ∀ dn k, (circuitPackets env t f c row dst dn k ns).length = ns.length := by
  induction ns with
  | nil => intros; rfl
  | cons n ns ih => intro dn k; simp [circuitPackets, ih]

theorem circuitPackets_bytes (env : TileEnv) (t : Tile) (f : MovecFields) (c : Cover) (row dst : Nat)
    (ns : List Nat) : ∀ dn k, (circuitPackets env t f c row dst dn k ns).flatMap (·.payload)
      = readSpans t.spad ((List.range ns.sum).flatMap (fun i => accessSpans f.cola row f.word.toNat (dn + i))) := by
  induction ns with
  | nil => intros; rfl
  | cons n ns ih =>
    intro dn k
    simp only [circuitPackets, List.flatMap_cons, List.sum_cons]
    rw [ih, range_split, readSpans_append]
    simp only [Nat.add_assoc]
    rfl

theorem circuitPackets_fields (env : TileEnv) (t : Tile) (f : MovecFields) (c : Cover) (row dst : Nat)
    (ns : List Nat) : ∀ dn k, ∀ p ∈ circuitPackets env t f c row dst dn k ns,
      p.circ = true ∧ p.dcc = f.dcc ∧ p.dsite = 0x1FF ∧ p.scc = f.lcc := by
  induction ns with
  | nil => intro dn k p h; simp [circuitPackets] at h
  | cons n ns ih =>
    intro dn k p h
    simp only [circuitPackets, List.mem_cons] at h
    rcases h with rfl | h
    · exact ⟨rfl, rfl, rfl, rfl⟩
    · exact ih _ _ p h

/-! ### Bytes of a transfer -/

@[simp] theorem Memory.readBytes_length (m : Memory) (n : Nat) : ∀ a, (Memory.readBytes m a n).length = n := by
  induction n with
  | zero => intro a; rfl
  | succ n ih => intro a; simp [Memory.readBytes, ih]

theorem readSpans_length (sp : Spad) (xs : List (Nat × Nat)) :
    (readSpans sp xs).length = (xs.map (·.2)).sum := by
  induction xs with
  | nil => rfl
  | cons x xs ih => simp [readSpans, ih]

theorem sum_map_snd (c : Nat) (xs : List (Nat × Nat)) (h : ∀ x ∈ xs, x.2 = c) : (xs.map (·.2)).sum = xs.length * c := by
  induction xs with
  | nil => simp
  | cons x xs ih =>
    rw [List.map_cons, List.sum_cons, ih (fun y hy => h y (List.mem_cons_of_mem _ hy)), h x List.mem_cons_self,
      List.length_cons, Nat.add_mul]
    omega

/-- An access has 256 bytes (R102, R103). -/
theorem accessSpans_sum (col : Bool) (row word i : Nat) : ((accessSpans col row word i).map (·.2)).sum = 256 := by
  cases col
  · rfl
  · simp only [accessSpans, if_true, walkSpans]
    rw [sum_map_snd 8]
    · simp
    · intro x hx
      simp only [List.mem_map] at hx
      obtain ⟨j, _, rfl⟩ := hx
      rfl

theorem accesses_length (sp : Spad) (col : Bool) (row word : Nat) (g : Nat → Nat) (n : Nat) :
    (readSpans sp ((List.range n).flatMap (fun i => accessSpans col row word (g i)))).length = n * 256 := by
  rw [readSpans_length]
  have : ∀ l : List Nat, ((l.flatMap (fun i => accessSpans col row word (g i))).map (·.2)).sum = l.length * 256 := by
    intro l
    induction l with
    | nil => rfl
    | cons x l ih =>
      rw [List.flatMap_cons, List.map_append, List.sum_append, ih, accessSpans_sum, List.length_cons, Nat.add_mul]
      omega
  rw [this, List.length_range]

/-- A circuit move's packets carry the rows it asks for. -/
theorem circuitPackets_rows (env : TileEnv) (t : Tile) (f : MovecFields) (c : Cover) (row dst : Nat) (ns : List Nat) :
    ∀ dn k, packetsRows (circuitPackets env t f c row dst dn k ns) = ns.sum := by
  induction ns with
  | nil => intros; rfl
  | cons n ns ih =>
    intro dn k
    have hl := accesses_length t.spad f.cola row f.word.toNat (fun i => dn + i) n
    have ht : ∀ r : Nat, typeOfRed r ≠ tyRead := by
      intro r; unfold typeOfRed; split; · decide
      split <;> decide
    have h1 := ih (dn + n) (k + 1)
    simp only [packetsRows] at h1
    simp only [circuitPackets, packetsRows, List.map_cons, List.sum_cons]
    have hr : ∀ q : Packet, q.typ ≠ tyRead → packetRows q = rowsOf q.payload := fun q h => by simp [packetRows, h]
    rw [h1, hr _ (ht f.red.toNat)]
    show (readSpans t.spad ((List.range n).flatMap (fun i => accessSpans f.cola row f.word.toNat (dn + i)))).length / 256
      + ns.sum = n + ns.sum
    rw [hl]
    omega

end Sys2Proof.Machine
end

