-- ==== Sys2Proof/Laws/Channel.lean ====
section
/-! SUPPORT. What a message's arrival does to its queue (R220, R222, R230, R231). -/

namespace Sys2Proof.Machine

/-- A row noted as written from outside changes two flags of the scratchpad alone (R313). -/
theorem noteInbound_only (t : Tile) (a b : Nat) :
    ∃ x y, noteInbound t a b = { t with spad := { t.spad with inboundReadset := x, stepInbound := y } } := by
  unfold noteInbound
  split
  · exact ⟨true, true, rfl⟩
  · exact ⟨t.spad.inboundReadset, t.spad.stepInbound, rfl⟩

theorem noteInbounds_only (rows : List Nat) : ∀ t : Tile,
    ∃ x y, rows.foldl (fun t r => noteInbound t r r) t
      = { t with spad := { t.spad with inboundReadset := x, stepInbound := y } } := by
  induction rows with
  | nil => intro t; exact ⟨t.spad.inboundReadset, t.spad.stepInbound, rfl⟩
  | cons r rows ih =>
    intro t
    obtain ⟨x, y, h⟩ := noteInbound_only t r r
    obtain ⟨x2, y2, h2⟩ := ih (noteInbound t r r)
    refine ⟨x2, y2, ?_⟩
    rw [List.foldl_cons, h2, h]

/-- A message that finds room enters its queue: its stream expects the next number, and the queue holds it last
(R220, R222, R230). -/
theorem enqueueMessage_room (env : TileEnv) (t : Tile) (e : ChEntry) (p : Packet)
    (hr : (t.chan.queue e.rqueue.toNat).used + slotsOf p.payload.length ≤ 32) :
    ∃ u : Tile, enqueueMessage env t e p = TOut.pure u
      ∧ u.chan.queue e.rqueue.toNat = ⟨(t.chan.queue e.rqueue.toNat).head, (t.chan.queue e.rqueue.toNat).msgs
          ++ [QMsg.mk (p.aux.setWidth 16) p.ssite p.seq p.payload.length (slotsOf p.payload.length)]⟩
      ∧ u.chan.expected = SMap.set 0 t.chan.expected (streamKey (p.aux.setWidth 16) p.ssite) (p.seq + 1)
      ∧ u.chan.received = t.chan.received + 1 ∧ u.chan.window = t.chan.window ∧ u.chan.gaps = t.chan.gaps
      ∧ u.chan.streams = t.chan.streams ∧ u.chan.dropped = t.chan.dropped ∧ u.arr = t.arr ∧ u.integ = t.integ
      ∧ u.seq.gregs = t.seq.gregs ∧ u.seq.mode = t.seq.mode ∧ u.seq.handler = t.seq.handler ∧ u.seq.pc = t.seq.pc
      ∧ u.moveQ = t.moveQ ∧ u.outst = t.outst := by
  unfold enqueueMessage
  simp only []
  rw [if_neg (by omega)]
  obtain ⟨x, y, h⟩ := noteInbounds_only ((List.range (slotsOf p.payload.length)).map (fun i =>
      queueByte e.rqueue.toNat (((t.chan.queue e.rqueue.toNat).head + (t.chan.queue e.rqueue.toNat).used) % 32) (i * 128) / 256))
    { t with
      spad := ((List.range (p.payload ++ slotFiller t.chan.useClock p.payload.length).length).zip
          (p.payload ++ slotFiller t.chan.useClock p.payload.length)).foldl
        (fun sp x => sp.putBytes (queueByte e.rqueue.toNat
          (((t.chan.queue e.rqueue.toNat).head + (t.chan.queue e.rqueue.toNat).used) % 32) x.1) [x.2]) t.spad,
      chan := { (t.chan.touch (p.aux.setWidth 16)) with
        queues := SMap.set Queue.empty t.chan.queues e.rqueue.toNat ⟨(t.chan.queue e.rqueue.toNat).head,
          (t.chan.queue e.rqueue.toNat).msgs
            ++ [QMsg.mk (p.aux.setWidth 16) p.ssite p.seq p.payload.length (slotsOf p.payload.length)]⟩,
        expected := SMap.set 0 t.chan.expected (streamKey (p.aux.setWidth 16) p.ssite) (p.seq + 1),
        received := t.chan.received + 1 } }
  rw [h]
  by_cases hc : e.rccEn = true
  · rw [if_pos hc]
    exact ⟨_, rfl, by simp [Chan.queue, Tile.addCount, Tile.setComp], rfl, rfl, rfl, rfl, rfl, rfl, rfl, rfl, rfl,
      rfl, rfl, rfl, rfl, rfl⟩
  · rw [if_neg hc]
    exact ⟨_, rfl, by simp [Chan.queue], rfl, rfl, rfl, rfl, rfl, rfl, rfl, rfl, rfl, rfl, rfl, rfl, rfl, rfl⟩

/-- With no held message next in turn the window stays (R231). -/
theorem drainWindow_none (env : TileEnv) (e : ChEntry) (key n : Nat) (t : Tile)
    (h : t.chan.window.find? (nextInTurn t key) = none) : drainWindow env e key n t = TOut.pure t := by
  cases n with
  | zero => rfl
  | succ n => simp only [drainWindow, h]

end Sys2Proof.Machine
end

