-- ==== Sys2Proof/Laws/Commands.lean ====
section
/-! SUPPORT. How a command row reaches its own work (R403, R430, R434, R436), and what each of its checks does. -/

namespace Sys2Proof.Machine

/-- FENCE clear and bits 7 to 2 zero, as one bound on FLAGS. -/
theorem flags_lt_two {f : BitVec 8} (h : f.toNat < 2) : bitOf f.toNat 1 = false := by
  have : f.toNat = 0 ∨ f.toNat = 1 := by omega
  rcases this with h | h <;> rw [h] <;> decide

/-- A command that is served runs its own work at the state that has counted it. -/
theorem State.command_runs {s : State} {i : Instr} {x : CmdInfo} (hi : cmdInfo i = some x) (hs : s.served x.op x.hdr)
    (hp : x.part.met x.hdr.part = true) (hc : x.ctx.met x.hdr.ctx = true) :
    s.command i = runCommand i (s.call x.op x.hdr) s.begun := by
  obtain ⟨ht, hf, hph⟩ := hs
  have hph' : s.begun.phaseStatus x.op = stOk := hph
  have hhdr : x.headerOk = true := by simp [CmdInfo.headerOk, hp, hc]; omega
  have hfe : s.begun.fenced (s.call x.op x.hdr) = false := by
    simp only [State.fenced, State.call, flags_lt_two hf, Bool.false_and]
  simp only [State.command, ht, if_true, State.submit, hi]
  show (if (!x.headerOk) = true then _ else if s.begun.phaseStatus x.op ≠ stOk then _ else
    if s.begun.fenced (s.call x.op x.hdr) = true then _ else runCommand i (s.call x.op x.hdr) s.begun) = _
  rw [hhdr, hph', hfe]
  simp

/-- Checks that all pass let the command go on. -/
theorem State.check_ok (s : State) (c : Call) (l : List (Bool × Nat)) (go : State → State)
    (h : ∀ x ∈ l, x.1 = true) : s.check c l go = go s := by
  have : firstFail l = stOk := by
    induction l with
    | nil => rfl
    | cons a l ih =>
      simp only [firstFail, h a (by simp), if_true]
      exact ih (fun x hx => h x (by simp [hx]))
  simp only [State.check, this, if_true]

/-- The first check that fails gives the answer. -/
theorem State.check_fails (s : State) (c : Call) (st : Nat) (l : List (Bool × Nat)) (go : State → State) (h : st ≠ stOk) :
    s.check c ((false, st) :: l) go = s.answer c st [] := by
  simp [State.check, firstFail, h]

/-! ### Accepting and completing (R403, R433) -/

variable (s : State)

@[simp] theorem State.accept_facts (c : Call) (w : Work) : (s.accept c w).facts = s.facts := by
  simp only [State.accept]; split <;> simp
@[simp] theorem State.complete_facts (j : Job) (st : Nat) (r : List Byte) : (s.complete j st r).facts = s.facts := by
  simp [State.complete]
@[simp] theorem State.sayAccepted_facts (c : Call) : (s.sayAccepted c).facts = s.facts := by
  simp only [State.sayAccepted]; split <;> simp
@[simp] theorem State.acceptDone_facts (c : Call) (st : Nat) (r : List Byte) : (s.acceptDone c st r).facts = s.facts := by
  simp only [State.acceptDone]; split <;> simp
@[simp] theorem State.accept_pins (c : Call) (w : Work) : (s.accept c w).pins = s.pins := by
  simp only [State.accept]; split <;> simp
@[simp] theorem State.complete_pins (j : Job) (st : Nat) (r : List Byte) : (s.complete j st r).pins = s.pins := by
  simp [State.complete]
@[simp] theorem State.sayAccepted_pins (c : Call) : (s.sayAccepted c).pins = s.pins := by
  simp only [State.sayAccepted]; split <;> simp
@[simp] theorem State.acceptDone_pins (c : Call) (st : Nat) (r : List Byte) : (s.acceptDone c st r).pins = s.pins := by
  simp only [State.acceptDone]; split <;> simp
@[simp] theorem State.accept_bring (c : Call) (w : Work) : (s.accept c w).bring = s.bring := by
  simp only [State.accept]; split <;> simp
@[simp] theorem State.complete_bring (j : Job) (st : Nat) (r : List Byte) : (s.complete j st r).bring = s.bring := by
  simp [State.complete]
@[simp] theorem State.sayAccepted_bring (c : Call) : (s.sayAccepted c).bring = s.bring := by
  simp only [State.sayAccepted]; split <;> simp
@[simp] theorem State.acceptDone_bring (c : Call) (st : Nat) (r : List Byte) : (s.acceptDone c st r).bring = s.bring := by
  simp only [State.acceptDone]; split <;> simp
@[simp] theorem State.accept_sec (c : Call) (w : Work) : (s.accept c w).sec = s.sec := by
  simp only [State.accept]; split <;> simp
@[simp] theorem State.complete_sec (j : Job) (st : Nat) (r : List Byte) : (s.complete j st r).sec = s.sec := by
  simp [State.complete]
@[simp] theorem State.sayAccepted_sec (c : Call) : (s.sayAccepted c).sec = s.sec := by
  simp only [State.sayAccepted]; split <;> simp
@[simp] theorem State.acceptDone_sec (c : Call) (st : Nat) (r : List Byte) : (s.acceptDone c st r).sec = s.sec := by
  simp only [State.acceptDone]; split <;> simp
@[simp] theorem State.accept_clk (c : Call) (w : Work) : (s.accept c w).clk = s.clk := by
  simp only [State.accept]; split <;> simp
@[simp] theorem State.complete_clk (j : Job) (st : Nat) (r : List Byte) : (s.complete j st r).clk = s.clk := by
  simp [State.complete]
@[simp] theorem State.sayAccepted_clk (c : Call) : (s.sayAccepted c).clk = s.clk := by
  simp only [State.sayAccepted]; split <;> simp
@[simp] theorem State.acceptDone_clk (c : Call) (st : Nat) (r : List Byte) : (s.acceptDone c st r).clk = s.clk := by
  simp only [State.acceptDone]; split <;> simp
@[simp] theorem State.accept_pwr (c : Call) (w : Work) : (s.accept c w).pwr = s.pwr := by
  simp only [State.accept]; split <;> simp
@[simp] theorem State.complete_pwr (j : Job) (st : Nat) (r : List Byte) : (s.complete j st r).pwr = s.pwr := by
  simp [State.complete]
@[simp] theorem State.sayAccepted_pwr (c : Call) : (s.sayAccepted c).pwr = s.pwr := by
  simp only [State.sayAccepted]; split <;> simp
@[simp] theorem State.acceptDone_pwr (c : Call) (st : Nat) (r : List Byte) : (s.acceptDone c st r).pwr = s.pwr := by
  simp only [State.acceptDone]; split <;> simp
@[simp] theorem State.accept_fab (c : Call) (w : Work) : (s.accept c w).fab = s.fab := by
  simp only [State.accept]; split <;> simp
@[simp] theorem State.complete_fab (j : Job) (st : Nat) (r : List Byte) : (s.complete j st r).fab = s.fab := by
  simp [State.complete]
@[simp] theorem State.sayAccepted_fab (c : Call) : (s.sayAccepted c).fab = s.fab := by
  simp only [State.sayAccepted]; split <;> simp
@[simp] theorem State.acceptDone_fab (c : Call) (st : Nat) (r : List Byte) : (s.acceptDone c st r).fab = s.fab := by
  simp only [State.acceptDone]; split <;> simp
@[simp] theorem State.accept_net (c : Call) (w : Work) : (s.accept c w).net = s.net := by
  simp only [State.accept]; split <;> simp
@[simp] theorem State.complete_net (j : Job) (st : Nat) (r : List Byte) : (s.complete j st r).net = s.net := by
  simp [State.complete]
@[simp] theorem State.sayAccepted_net (c : Call) : (s.sayAccepted c).net = s.net := by
  simp only [State.sayAccepted]; split <;> simp
@[simp] theorem State.acceptDone_net (c : Call) (st : Nat) (r : List Byte) : (s.acceptDone c st r).net = s.net := by
  simp only [State.acceptDone]; split <;> simp
@[simp] theorem State.accept_hbm (c : Call) (w : Work) : (s.accept c w).hbm = s.hbm := by
  simp only [State.accept]; split <;> simp
@[simp] theorem State.complete_hbm (j : Job) (st : Nat) (r : List Byte) : (s.complete j st r).hbm = s.hbm := by
  simp [State.complete]
@[simp] theorem State.sayAccepted_hbm (c : Call) : (s.sayAccepted c).hbm = s.hbm := by
  simp only [State.sayAccepted]; split <;> simp
@[simp] theorem State.acceptDone_hbm (c : Call) (st : Nat) (r : List Byte) : (s.acceptDone c st r).hbm = s.hbm := by
  simp only [State.acceptDone]; split <;> simp
@[simp] theorem State.accept_parts (c : Call) (w : Work) : (s.accept c w).parts = s.parts := by
  simp only [State.accept]; split <;> simp
@[simp] theorem State.complete_parts (j : Job) (st : Nat) (r : List Byte) : (s.complete j st r).parts = s.parts := by
  simp [State.complete]
@[simp] theorem State.sayAccepted_parts (c : Call) : (s.sayAccepted c).parts = s.parts := by
  simp only [State.sayAccepted]; split <;> simp
@[simp] theorem State.acceptDone_parts (c : Call) (st : Nat) (r : List Byte) : (s.acceptDone c st r).parts = s.parts := by
  simp only [State.acceptDone]; split <;> simp
@[simp] theorem State.accept_ctxs (c : Call) (w : Work) : (s.accept c w).ctxs = s.ctxs := by
  simp only [State.accept]; split <;> simp
@[simp] theorem State.complete_ctxs (j : Job) (st : Nat) (r : List Byte) : (s.complete j st r).ctxs = s.ctxs := by
  simp [State.complete]
@[simp] theorem State.sayAccepted_ctxs (c : Call) : (s.sayAccepted c).ctxs = s.ctxs := by
  simp only [State.sayAccepted]; split <;> simp
@[simp] theorem State.acceptDone_ctxs (c : Call) (st : Nat) (r : List Byte) : (s.acceptDone c st r).ctxs = s.ctxs := by
  simp only [State.acceptDone]; split <;> simp
@[simp] theorem State.accept_tiles (c : Call) (w : Work) : (s.accept c w).tiles = s.tiles := by
  simp only [State.accept]; split <;> simp
@[simp] theorem State.complete_tiles (j : Job) (st : Nat) (r : List Byte) : (s.complete j st r).tiles = s.tiles := by
  simp [State.complete]
@[simp] theorem State.sayAccepted_tiles (c : Call) : (s.sayAccepted c).tiles = s.tiles := by
  simp only [State.sayAccepted]; split <;> simp
@[simp] theorem State.acceptDone_tiles (c : Call) (st : Nat) (r : List Byte) : (s.acceptDone c st r).tiles = s.tiles := by
  simp only [State.acceptDone]; split <;> simp
@[simp] theorem State.accept_i3c (c : Call) (w : Work) : (s.accept c w).i3c = s.i3c := by
  simp only [State.accept]; split <;> simp
@[simp] theorem State.complete_i3c (j : Job) (st : Nat) (r : List Byte) : (s.complete j st r).i3c = s.i3c := by
  simp [State.complete]
@[simp] theorem State.sayAccepted_i3c (c : Call) : (s.sayAccepted c).i3c = s.i3c := by
  simp only [State.sayAccepted]; split <;> simp
@[simp] theorem State.acceptDone_i3c (c : Call) (st : Nat) (r : List Byte) : (s.acceptDone c st r).i3c = s.i3c := by
  simp only [State.acceptDone]; split <;> simp
@[simp] theorem State.accept_freeCtr (c : Call) (w : Work) : (s.accept c w).freeCtr = s.freeCtr := by
  simp only [State.accept]; split <;> simp
@[simp] theorem State.complete_freeCtr (j : Job) (st : Nat) (r : List Byte) : (s.complete j st r).freeCtr = s.freeCtr := by
  simp [State.complete]
@[simp] theorem State.sayAccepted_freeCtr (c : Call) : (s.sayAccepted c).freeCtr = s.freeCtr := by
  simp only [State.sayAccepted]; split <;> simp
@[simp] theorem State.acceptDone_freeCtr (c : Call) (st : Nat) (r : List Byte) : (s.acceptDone c st r).freeCtr = s.freeCtr := by
  simp only [State.acceptDone]; split <;> simp
@[simp] theorem State.accept_pending (c : Call) (w : Work) : (s.accept c w).pending = s.pending := by
  simp only [State.accept]; split <;> simp
@[simp] theorem State.complete_pending (j : Job) (st : Nat) (r : List Byte) : (s.complete j st r).pending = s.pending := by
  simp [State.complete]
@[simp] theorem State.sayAccepted_pending (c : Call) : (s.sayAccepted c).pending = s.pending := by
  simp only [State.sayAccepted]; split <;> simp
@[simp] theorem State.acceptDone_pending (c : Call) (st : Nat) (r : List Byte) : (s.acceptDone c st r).pending = s.pending := by
  simp only [State.acceptDone]; split <;> simp

@[simp] theorem State.record_unhandled (r : Rec) : (s.record r).faults.unhandled = s.faults.unhandled := by
  have h : ∀ (S : State), S.countDropped.faults.unhandled = S.faults.unhandled := fun _ => rfl
  have hi : ∀ (S : State) (b : Bool), (S.interrupt b).faults = S.faults := by
    intro S b; unfold State.interrupt; split; · rfl
    simp only; split <;> split <;> rfl
  have hp : (s.putRecord r).faults = s.faults := by simp [State.putRecord, hi]
  simp only [State.record]
  split; · rfl
  split; · rw [hp]
  split; · rfl
  split <;> simp [h]
@[simp] theorem State.cmdRecord_unhandled (ty : Nat) (h : CmdHdr) (op st : Nat) (bs : List Byte) :
    (s.cmdRecord ty h op st bs).faults.unhandled = s.faults.unhandled := by simp [State.cmdRecord]
@[simp] theorem State.answer_unhandled (c : Call) (st : Nat) (bs : List Byte) :
    (s.answer c st bs).faults.unhandled = s.faults.unhandled := by simp [State.answer]
@[simp] theorem State.accept_unhandled (c : Call) (w : Work) :
    (s.accept c w).faults.unhandled = s.faults.unhandled := by
  simp only [State.accept]; split <;> simp
@[simp] theorem State.complete_unhandled (j : Job) (st : Nat) (r : List Byte) :
    (s.complete j st r).faults.unhandled = s.faults.unhandled := by simp [State.complete]

/-! ### A command in its place (R403) -/

@[simp] theorem State.begun_facts : s.begun.facts = s.facts := rfl
@[simp] theorem State.begun_pins : s.begun.pins = s.pins := rfl
@[simp] theorem State.begun_bring : s.begun.bring = s.bring := rfl
@[simp] theorem State.begun_uci : s.begun.uci = s.uci := rfl
@[simp] theorem State.begun_sec : s.begun.sec = s.sec := rfl
@[simp] theorem State.begun_faults : s.begun.faults = s.faults := rfl
@[simp] theorem State.begun_clk : s.begun.clk = s.clk := rfl
@[simp] theorem State.begun_pwr : s.begun.pwr = s.pwr := rfl
@[simp] theorem State.begun_fab : s.begun.fab = s.fab := rfl
@[simp] theorem State.begun_net : s.begun.net = s.net := rfl
@[simp] theorem State.begun_hbm : s.begun.hbm = s.hbm := rfl
@[simp] theorem State.begun_parts : s.begun.parts = s.parts := rfl
@[simp] theorem State.begun_ctxs : s.begun.ctxs = s.ctxs := rfl
@[simp] theorem State.begun_tiles : s.begun.tiles = s.tiles := rfl
@[simp] theorem State.begun_i3c : s.begun.i3c = s.i3c := rfl
@[simp] theorem State.begun_freeCtr : s.begun.freeCtr = s.freeCtr := rfl
@[simp] theorem State.begun_pending : s.begun.pending = s.pending := rfl
@[simp] theorem State.begun_out : s.begun.out = s.out := rfl

end Sys2Proof.Machine
end

