-- ==== Sys2Proof/Laws/Contexts.lean ====
section
/-! SUPPORT. What work on a list of tiles leaves, and how contexts and partitions read after an update (R413 to
R426). -/

namespace Sys2Proof.Machine

/-- Every tile of a list is changed once, and no other. -/
theorem State.each_modTile (f : Tile → Tile) (ns : List Nat) (hn : ns.Nodup) :
    ∀ (s : State) (i : Nat),
      (s.each (fun s n => s.modTile n f) ns).tile i = if i ∈ ns then f (s.tile i) else s.tile i := by
  induction ns with
  | nil => intro s i; simp [State.each]
  | cons n ns ih =>
    intro s i
    have hnd := List.nodup_cons.mp hn
    show ((s.modTile n f).each (fun s n => s.modTile n f) ns).tile i = _
    rw [ih hnd.2]
    by_cases hi : i = n
    · subst hi
      simp [hnd.1, State.modTile]
    · simp [hi, State.modTile]

/-- Work on tiles changes nothing but the tiles. -/
theorem State.each_modTile_rest (f : Tile → Tile) (ns : List Nat) :
    ∀ s : State, { s.each (fun s n => s.modTile n f) ns with tiles := s.tiles } = s := by
  induction ns with
  | nil => intro s; rfl
  | cons n ns ih =>
    intro s
    have h := ih (s.modTile n f)
    show { (s.modTile n f).each (fun s n => s.modTile n f) ns with tiles := s.tiles } = s
    generalize (s.modTile n f).each (fun s n => s.modTile n f) ns = t at h ⊢
    have h2 : { { t with tiles := (s.modTile n f).tiles } with tiles := s.tiles } = { s.modTile n f with tiles := s.tiles } := by
      rw [h]
    exact h2

variable (s : State)

@[simp] theorem State.modPart_part_same (p : Nat) (f : Partn → Partn) : (s.modPart p f).part p = f (s.part p) := by
  simp [State.modPart]
theorem State.modPart_part_other (p q : Nat) (f : Partn → Partn) (h : q ≠ p) : (s.modPart p f).part q = s.part q := by
  simp [State.modPart, h]
@[simp] theorem State.modCtx_ctx_same (n : Nat) (f : Ctxt → Ctxt) : (s.modCtx n f).ctx n = f (s.ctx n) := by
  simp [State.modCtx]
theorem State.modCtx_ctx_other (n m : Nat) (f : Ctxt → Ctxt) (h : m ≠ n) : (s.modCtx n f).ctx m = s.ctx m := by
  simp [State.modCtx, h]
@[simp] theorem State.modTile_tile_same (n : Nat) (f : Tile → Tile) : (s.modTile n f).tile n = f (s.tile n) := by
  simp [State.modTile]

/-- The contexts of a partition, where none is launched, are left as they are when they are all ended. -/
theorem State.endAll_idle (p : Nat) (h : ∀ n ∈ ctxsOf p, (s.ctx n).launched = false) :
    s.endAll p = s.modPart p (fun x => { x with switching := none, switchDue := none }) := by
  have key : ∀ (ns : List Nat) (f : State → Nat → State) (t : State),
      (∀ n ∈ ns, (t.ctx n).launched = false) →
      t.each (fun s n => if (s.ctx n).launched then f s n else s) ns = t := by
    intro ns f
    induction ns with
    | nil => intro t _; rfl
    | cons n ns ih =>
      intro t ht
      have h1 := ht n (by simp)
      show (if (t.ctx n).launched then f t n else t).each _ ns = t
      rw [h1]
      exact ih t (fun m hm => ht m (by simp [hm]))
  exact key (ctxsOf p) _ _ h

/-- Tiles that miss no channel entry go on, and do nothing else (R178, R241). -/
theorem State.wake_all : ∀ (is : List Nat), is.Nodup → ∀ (S : State), (∀ i ∈ is, (S.tile i).chan.misses = []) →
    S.each State.wakeTile is = S.each (fun s i => s.modTile i unpause) is := by
  intro is
  induction is with
  | nil => intro _ S _; rfl
  | cons i is ih =>
    intro hn S h
    have hnd := List.nodup_cons.mp hn
    have h1 : S.wakeTile i = S.modTile i unpause := by
      simp only [State.wakeTile]
      split
      · rw [State.runTile_effs S i _ (TOut.pure (unpause (S.tile i))) ?_ (traceOf_quiet _ _ rfl rfl rfl rfl)]
        · rfl
        · have : (unpause (S.tile i)).chan.misses = [] := h i (by simp)
          simp only [pumpReads, this, List.length_nil, pumpReadsN]
      · rfl
    show (S.wakeTile i).each State.wakeTile is = (S.modTile i unpause).each _ is
    rw [h1]
    exact ih hnd.2 _ (fun j hj => by
      have : j ≠ i := by rintro rfl; exact hnd.1 hj
      simp only [State.modTile]; rw [show ((S.setTile i (unpause (S.tile i))).tile j) = S.tile j from by simp [this]]; exact h j (by simp [hj]))

/-- What a tile has counted is taken from it, and from no other (R392). -/
theorem State.collectSite_tile (s : State) (i j : Nat) :
    (s.collectSite i).tile j = if j = i then { s.tile j with counts := [] } else s.tile j := by
  by_cases hc : (s.tile i).counts = []
  · have : s.collectSite i = s := by simp only [State.collectSite, hc]; rfl
    rw [this]
    by_cases hj : j = i
    · subst hj; rw [if_pos rfl]; rw [← hc]
    · rw [if_neg hj]
  · simp only [State.collectSite, hc, if_false]
    by_cases hj : j = i
    · subst hj; rw [if_pos rfl, State.modTile_tile_same]; rfl
    · rw [if_neg hj]; simp only [State.modTile]; rw [State.setTile_tile_other _ _ _ _ hj]; rfl

/-- Collecting what a tile has counted changes its counts and those of the accounts alone (R392). -/
theorem State.collectSite_rest (s : State) (i : Nat) :
    { s.collectSite i with tiles := s.tiles, pwr := { (s.collectSite i).pwr with counts := s.pwr.counts } } = s := by
  by_cases hc : (s.tile i).counts = []
  · have : s.collectSite i = s := by simp only [State.collectSite, hc]; rfl
    rw [this]
  · simp only [State.collectSite, hc, if_false]
    rfl

/-- A control packet of the harbour master goes to its tile (R190, R209). -/
theorem State.exitOf_control (s : State) (ty : BitVec 8) (i : Nat) (h : i < 480) :
    s.exitOf (s.stamp (controlPacket s ty i)) = some i := by
  have hd : (BitVec.ofNat 9 i).toNat = i := by simp; omega
  have h1 : ¬(i = 480 ∨ i = 481) := by omega
  simp [State.exitOf, State.target, namesHbm, State.stamp, sealPacket, controlPacket, blankPacket, hd, h1]

/-- A control packet that the harbour master sends joins what is in flight (R190, R209). -/
theorem State.orderTile_enters (s : State) (ty : BitVec 8) (i : Nat) (h : i < 480)
    (hr : s.routable s.harbourRouter i = true) : s.orderTile ty i = s.addFlights [s.ordered ty i] := by
  have he := s.exitOf_control ty i h
  rw [State.orderTile, State.inject_enter _ _ _ _ (fun d hd => by rw [he] at hd; cases hd; exact hr), State.enter, he]
  rfl

/-- Control packets that the harbour master sends join what is in flight, one for each tile (R190, R209). -/
theorem State.orders_enter (ty : BitVec 8) (is : List Nat) :
    ∀ s : State, (∀ i ∈ is, i < 480 ∧ s.routable s.harbourRouter i = true) →
      s.each (fun s i => s.orderTile ty i) is = s.addFlights (is.map (s.ordered ty)) := by
  induction is with
  | nil => intro s _; simp [State.each, State.addFlights]
  | cons i is ih =>
    intro s h
    have h1 := h i (by simp)
    have hr := s.orderTile_enters ty i h1.1 h1.2
    show (s.orderTile ty i).each (fun s i => s.orderTile ty i) is = _
    rw [hr, ih (s.addFlights [s.ordered ty i]) (fun j hj => h j (by simp [hj]))]
    simp only [List.map_cons, State.addFlights, List.append_assoc, List.cons_append, List.nil_append]
    rfl

end Sys2Proof.Machine
end

