-- ==== Sys2Proof/Tests/Witness.lean ====
section
/-! SUPPORT. States and operands that meet the hypotheses of the statements, clause by clause. -/

set_option Elab.async false

open Sys2Proof Sys2Proof.Machine

namespace Sys2Proof.Tests

/-- A module with its input applied, every rail on and RESET_N high. -/
def pinsOn : Pins :=
  { Pins.unpowered with resetN := true, pwrgd := true, input := 50000, vlnk := true, railsOn := true }

/-- Partition 0: region 0, and bands 0 to 7 of every stack. -/
def part0 : Partn :=
  { Partn.none with valid := true, grant := { Grant.none with hbmStacks := List.range 24, first := 0, count := 8 } }

/-- A plan that places sites 17 and 18. -/
def plan0 : Plan :=
  { addr := 0, start := 0, length := 0, places := [⟨17, 0, [], [], true⟩, ⟨18, 0, [], [], true⟩], circuits := [], chans := [], loads := [],
    good := true }

/-- Context 0 of partition 0, RUNNING on sites 17 and 18 with debug on. -/
def ctx0 : Ctxt :=
  { Ctxt.none with state := .running, debug := true, onTiles := true, launch := some ⟨plan0, 0, 0, 0⟩ }

/-- A device in READY with all modules and stacks in service. -/
def dev : State :=
  { State.reset with
    pins := pinsOn,
    bring := { Bring.clear 0 with phase := .ready, published := true, mainband := true },
    clk := { Clk.clear with bin := 64, meshLocked := true, refOk := true },
    hbm := { Hbm.clear with hbmStacks := (List.range 24).map (fun k => (k, Stack.fresh .inService)) },
    uci := { Uci.clear with
      enable := true, modules := (List.range 4).map (fun m => (m, { UciModule.clear with state := .up })) },
    parts := [(0, { part0 with running := some 0 })], ctxs := [(0, ctx0)] }

/-- A tile that runs context 0, with slab 0 a moored code area whose first line the instruction cache holds. -/
def tile0 : Tile :=
  { Tile.clear with
    seq := { Seq.clear with mode := .running, icache := [(0, ⟨true, 0, []⟩)] }, ctx := some 0, owner := some 0,
    spad := { Spad.clear with moors := [(0, ⟨true, true, 0, 1, 0⟩)] } }

/-- The device with a tile at site 17. -/
def on (t : Tile) : State := { dev with tiles := [(17, t)] }

/-- Every hypothesis of an instruction that a tile may fetch. -/
def mayFetch (t : Tile) : Prop :=
  (on t).tileOn 17 = true ∧ mayIssue ((on t).envOf 17) t = true ∧ t.seq.cur = none
    ∧ fetchOk t t.seq.pc.toNat = true ∧ fetchOk t (t.seq.pc.toNat + 4) = true

/-- Every hypothesis of an instruction that issues at the tile. -/
def goes (t : Tile) : Prop :=
  mayFetch t ∧ lineHit t t.seq.pc.toNat = true ∧ lineHit t (t.seq.pc.toNat + 4) = true

theorem goes_issues (t : Tile) (len : Nat) (h : goes t) : (on t).issues 17 len :=
  ⟨⟨by decide, h.1.1, h.1.2.1, h.1.2.2.1, h.1.2.2.2.1, fun _ => h.1.2.2.2.2⟩, h.2.1, fun _ => h.2.2⟩

/-! ### Registers, loads, stores and branches -/

theorem wit_issues : goes tile0 := by unfold goes mayFetch; decide +kernel

theorem wit_GeneralRegisters :
    (24 : BitVec 5) ≠ 0 ∧ 24 ≤ (24 : BitVec 5).toNat ∧ (23 : BitVec 5).toNat < 24 ∧ (23 : BitVec 5) ≠ 24 := by decide

theorem wit_RegisterOperations : (on tile0).issues 17 4 := goes_issues _ _ wit_issues

theorem wit_ImmediateOperations :
    (on tile0).issues 17 4 ∧ (63 : BitVec 14).toNat < 64 ∧ (on tile0).issues 17 8
      ∧ immIsShift .srai = true ∧ 64 ≤ (64 : BitVec 14).toNat :=
  ⟨goes_issues _ _ wit_issues, by decide, goes_issues _ _ wit_issues, by decide, by decide⟩

/-- The base register of a load or store. -/
def based (v : Word) : Tile := tile0.setGreg 1 v

/-- The address of a load or store by register 1. -/
def addrOf (t : Tile) : Nat := (t.greg 1 + (0 : BitVec 14).signExtend 64).toNat

theorem wit_LoadsAndStores_last_byte :
    let tl := based 0x6FFFFFF
    let a := addrOf tl
    goes tl ∧ otherCtxRow tl (a / 256) = false ∧ a < 0x7000000
      ∧ (∀ r ∈ registered tl, r.write = true → ¬(r.first ≤ a / 256 ∧ a / 256 ≤ r.last)) ∧ tl.spad.parityBad = [] := by
  unfold goes mayFetch; decide +kernel

theorem wit_LoadsAndStores_aligned :
    let tl := based 0x6FFFFF8
    let a := addrOf tl
    goes tl ∧ otherCtxRow tl (a / 256) = false ∧ a < 0x7000000 ∧ a % 2 = 0 ∧ a % 4 = 0 ∧ a % 8 = 0
      ∧ (∀ r ∈ registered tl, r.write = true → ¬(r.first ≤ a / 256 ∧ a / 256 ≤ r.last)) ∧ tl.spad.parityBad = [] := by
  unfold goes mayFetch; decide +kernel

theorem wit_LoadsAndStores_tile_register :
    let tl := based 0x7F08FF8
    goes tl ∧ addrOf tl = 0x7F00000 + 0x8FF8 ∧ 0x8FF8 % 8 = 0 ∧ 0x8FF8 < 0x9000 ∧ ¬(0x100 ≤ 0x8FF8 ∧ 0x8FF8 < 0x200) := by
  unfold goes mayFetch; decide +kernel

theorem wit_LoadsAndStores_stores :
    let tl := based 32768
    let a := addrOf tl
    goes tl ∧ a < 0x7000000 ∧ rangeFault tl ⟨a / 256, a / 256, true⟩ = none ∧ tl.spad.stores.length < 4
      ∧ a % 2 = 0 ∧ a % 4 = 0 ∧ a % 8 = 0 ∧ (∀ r ∈ registered tl, ¬(r.first ≤ a / 256 ∧ a / 256 ≤ r.last)) := by
  unfold goes mayFetch; decide +kernel

/-- A tile with a pending store. -/
def storing : Tile := { tile0 with spad := { tile0.spad with stores := [PendingStore.mk 32768 [1, 2]] } }

theorem wit_LoadsAndStores_pending : (on storing).live 17 ∧ storing.spad.stores = PendingStore.mk 32768 [1, 2] :: [] := by
  unfold State.live; decide +kernel

/-- A tile in handler mode, with a message at the head of queue 0. -/
def handling (taken : Bool) : Tile :=
  { tile0 with
    seq := { tile0.seq with handler := true, handlerTaken := taken, handlerPc := 8 },
    chan := { tile0.chan with queues := [(0, ⟨0, [QMsg.mk 1 18 0 5 1]⟩)] } }

theorem wit_ControlFlow :
    goes tile0 ∧ goes (handling true) ∧ (handling true).seq.handler = true ∧ (handling true).seq.handlerTaken = true
      ∧ goes (handling false) ∧ (handling false).seq.handlerTaken = false
      ∧ ((handling false).chan.queue (handling false).seq.handlerQ).msgs = QMsg.mk 1 18 0 5 1 :: [] := by
  unfold goes mayFetch; decide +kernel

/-! ### Waits, steps, dispatch and exceptions -/

/-- A tile that waits at an instruction. -/
def waiting (i : TInstr) (k : WaitKind) : Tile := { tile0 with seq := { tile0.seq with cur := some ⟨i, k, 0⟩ } }

/-- Every hypothesis of a tile that waits and may go on. -/
def goesOn (t : Tile) (h : Held) : Prop :=
  17 < 480 ∧ (on t).tileOn 17 = true ∧ mayIssue ((on t).envOf 17) t = true ∧ t.seq.cur = some h

theorem goesOn_waitsAt (t : Tile) (h : Held) (w : goesOn t h) : (on t).waitsAt 17 h := w

theorem wit_Waits_issue :
    (tile0.greg 1).toNat % 2 ^ 32 ≤ (tile0.comp 4095).count.toNat + (tile0.comp 4095).failed.toNat
      ∧ ((based 1).comp 4095).count.toNat + ((based 1).comp 4095).failed.toNat < ((based 1).greg 1).toNat % 2 ^ 32
      ∧ goes (based 1) ∧ (tile0.greg 1).toNat ≤ dev.clk.tide.toNat ∧ ¬((based 1).greg 1).toNat ≤ dev.clk.tide.toNat
      ∧ ¬(markAfter ((on tile0).envOf 17)).toNat ≤ dev.clk.tide.toNat
      ∧ fenceMet tile0 = true ∧ goes storing ∧ fenceMet storing = false := by
  unfold goes mayFetch; decide +kernel

theorem wit_Waits_end :
    goesOn (waiting (.waitc 2 1 4095 true) .waitc) ⟨.waitc 2 1 4095 true, .waitc, 0⟩
      ∧ goesOn (waiting (.tidewait 1 true) .tidewait) ⟨.tidewait 1 true, .tidewait, 0⟩
      ∧ goesOn (waiting (.tidewait 1 false) .tidewait) ⟨.tidewait 1 false, .tidewait, 0⟩
      ∧ goesOn (waiting .fence .fence) ⟨.fence, .fence, 0⟩ ∧ fenceMet (waiting .fence .fence) = true := by
  unfold goesOn; decide +kernel

theorem wit_PilotInstruction : (on tile0).issues 17 4 ∧ (255 : BitVec 8) ≠ 0 ∧ (4095 : BitVec 12) ≠ 0 :=
  ⟨goes_issues _ _ wit_issues, by decide, by decide⟩

theorem wit_StepsAndHalts :
    goesOn (waiting (.step 7) .fence) ⟨.step 7, .fence, 0⟩ ∧ stepMet (waiting (.step 7) .fence) = true
      ∧ goesOn (waiting (.halt 9) .fence) ⟨.halt 9, .fence, 0⟩ ∧ stepMet (waiting (.halt 9) .fence) = true := by
  unfold goesOn; decide +kernel

/-- A tile whose code area and cache hold ADD g1, g2, g3 at address 0. -/
def coded : Tile :=
  { tile0 with
    seq := { tile0.seq with icache := [(0, ⟨true, 0, leBytes (encodeT (.alu .add 1 2 3)) 4⟩)] }
    spad := { tile0.spad with mem := Memory.writeBytes [] 0 (leBytes (encodeT (.alu .add 1 2 3)) 4) } }

/-- The same tile before its first fetch. -/
def uncached : Tile := { coded with seq := { coded.seq with icache := [] } }

theorem wit_IssueAfterHold :
    goes coded ∧ (fetchAt coded).2 = some (.alu .add 1 2 3) ∧ lengthT (.alu .add 1 2 3) = 4
      ∧ goesOn (waiting (.alu .add 1 2 3) .scoreboard) ⟨.alu .add 1 2 3, .scoreboard, 0⟩
      ∧ WaitKind.scoreboard ≠ .send ∧ mayFetch uncached ∧ lineHit uncached 0 = false
      ∧ uncached.spad.parityHit 0 64 = false := by
  unfold goes mayFetch goesOn; decide +kernel

/-- A channel entry of partition 0 and context 0, OPEN, to queue 15 of site 17. -/
def entry0 : ChEntry :=
  { parseEntry (zeroBytes 64) with
    state := 1, kind := 0, rsite := 17, rqueue := 15, maxlen := 1024, credits := 8, sx0 := 0, sy0 := 0, sx1 := 15,
    sy1 := 29, sccEn := true, scc := 7, handler := 64, good := true }

/-- A tile with entry 5 of the channel table cached. -/
def chanTile : Tile := { tile0 with chan := { tile0.chan with cache := [⟨5, entry0, 1⟩] } }

/-- A tile with a complete message on channel 5 at the head of queue 15, which a handler serves. -/
def calling : Tile :=
  { chanTile with
    seq := { chanTile.seq with handlerMask := 0x8000 },
    chan := { chanTile.chan with queues := [(15, ⟨0, [QMsg.mk 5 18 0 5 1]⟩)] } }

theorem wit_DispatchAndReplay_dispatch :
    (on calling).live 17 ∧ mayIssue ((on calling).envOf 17) calling = true ∧ atDispatchPoint calling = true
      ∧ bitOf calling.seq.handlerMask.toNat 15 = true ∧ (calling.chan.queue 15).msgs = QMsg.mk 5 18 0 5 1 :: []
      ∧ (∀ r, r < 15 → bitOf calling.seq.handlerMask.toNat r = true → (calling.chan.queue r).msgs = [])
      ∧ calling.chan.entry 5 = some entry0 := by
  unfold State.live; decide +kernel

/-- A replay point. -/
def point : ReplayPoint := ReplayPoint.mk [(1, 5)] [] 16 3 0 0 false

/-- A tile with a replay due. -/
def replaying : Tile := { tile0 with integ := { tile0.integ with replayPending := some 2, replayPoint := some point } }

theorem wit_DispatchAndReplay_replay :
    (on replaying).live 17 ∧ (on replaying).faults.unhandled < 64 ∧ replaying.integ.replayPending = some 2
      ∧ replaying.integ.replayPoint = some point ∧ replaying.arr.queue = [] ∧ replaying.moveQ = []
      ∧ replaying.spad.stores = [] := by
  unfold State.live; decide +kernel

/-- A tile whose pc is outside every code area. -/
def astray : Tile := { tile0 with seq := { tile0.seq with pc := 32768 } }

/-- A tile whose exception waits for nothing more. -/
def excused : Tile := { tile0 with seq := { tile0.seq with excDue := some ⟨4, 1, 8, true⟩ } }

theorem wit_TileExceptions :
    (on tile0).faults.unhandled < 64 ∧ goes (based 1) ∧ addrOf (based 1) % 2 ≠ 0 ∧ goes (based 0x7000000)
      ∧ 0x7000000 ≤ addrOf (based 0x7000000) ∧ 64 ≤ (64 : BitVec 14).toNat ∧ tile0.seq.handler = false
      ∧ (on astray).live 17 ∧ mayIssue ((on astray).envOf 17) astray = true ∧ astray.seq.cur = none
      ∧ fetchOk astray astray.seq.pc.toNat = false ∧ workDone tile0 = true ∧ workDone storing = false ∧ workDone excused = true
      ∧ excused.seq.excDue = some ⟨4, 1, 8, true⟩ := by
  unfold goes mayFetch State.live; decide +kernel

/-! ### The array and the vector engine -/

theorem sound_of (t : Tile) (h : t.spad.parityBad = []) (h2 : t.spad.side = []) : t.sound :=
  ⟨h, fun b hb => by
    have : (t.spad.sideOf b).st = .none := by unfold Spad.sideOf; rw [h2]; rfl
    rw [this] at hb; cases hb⟩

/-- A tile whose registers 1 to 5 name rows of their own. -/
def rowsTile : Tile :=
  ((((tile0.setGreg 1 200).setGreg 2 300).setGreg 3 400).setGreg 4 500).setGreg 5 0

/-- WLOAD of LN8, all of the array. -/
def wloadF : WloadFields := { ga := 1, gb := 2, fmt := 0, kcount := 128, ncount := 128 }

theorem wit_ArrayIssue_wload :
    goes rowsTile ∧ rowsTile.sound ∧ rowsTile.arr.queue.length < 8 ∧ arrayFmtOk wloadF.fmt.toNat = true
      ∧ 0 < wloadF.kcount.toNat ∧ wloadF.kcount.toNat ≤ fmtK wloadF.fmt.toNat ∧ 0 < wloadF.ncount.toNat
      ∧ wloadF.ncount.toNat ≤ 128
      ∧ rangesFault rowsTile (wloadRanges wloadF.fmt.toNat wloadF.ncount.toNat 200 300) = none
      ∧ boardHolds rowsTile (wloadRanges wloadF.fmt.toNat wloadF.ncount.toNat 200 300) = false :=
  ⟨by unfold goes mayFetch; decide +kernel, sound_of _ rfl rfl, by decide +kernel, by decide +kernel, by decide +kernel,
    by decide +kernel, by decide +kernel, by decide +kernel, by decide +kernel, by decide +kernel⟩

/-- A weight operand of two columns. -/
def hold0 : WHold :=
  { fmt := 0, kcount := 2, ncount := 2, cols := [[0x08, 0x10], [0x18, 0x20]], scales := [[127], [127]], checked := false,
    c := [], a := [] }

/-- A tile with that operand in the array cells. -/
def loaded : Tile := { rowsTile with arr := { rowsTile.arr with wloadIssued := true, hold := some hold0, cells := some hold0 } }

/-- STREAM of one row to the last slot. -/
def streamF : StreamFields := { ga := 1, gb := 2, fmt := 0, half := false, acc := false, slot := 127, count := 32 }

theorem wit_ArrayIssue_stream :
    goes loaded ∧ loaded.sound ∧ loaded.arr.queue.length < 8 ∧ arrayFmtOk streamF.fmt.toNat = true
      ∧ loaded.arr.wloadIssued = true ∧ streamOperand loaded.arr = some hold0 ∧ arrayPairOk hold0.fmt streamF.fmt.toNat = true
      ∧ 0 < streamF.count.toNat ∧ streamF.slot.toNat + ceilDiv streamF.count.toNat 32 ≤ 128
      ∧ fmtBytes streamF.fmt.toNat (fmtK hold0.fmt) ≤ 128
      ∧ selectedPass loaded.integ.level (loaded.integ.passes + 1) = false
      ∧ rangesFault loaded (streamRanges streamF.fmt.toNat (fmtK hold0.fmt) streamF.count.toNat 200 300) = none
      ∧ boardHolds loaded (streamRanges streamF.fmt.toNat (fmtK hold0.fmt) streamF.count.toNat 200 300) = false :=
  ⟨by unfold goes mayFetch; decide +kernel, sound_of _ rfl rfl, by decide +kernel, by decide +kernel, by decide +kernel,
    by decide +kernel, by decide +kernel, by decide +kernel, by decide +kernel, by decide +kernel, by decide +kernel,
    by decide +kernel, by decide +kernel⟩

/-- A tile of a context at level 3, three passes on, whose partner is site 18. -/
def nearCheck : Tile := { loaded with integ := { loaded.integ with level := 3, passes := 3, partner := 18 } }

theorem wit_ArrayIssue_selected :
    goes nearCheck ∧ selectedPass nearCheck.integ.level (nearCheck.integ.passes + 1) = true
      ∧ partnerReady ((on nearCheck).envOf 17) nearCheck = true := by
  unfold goes mayFetch; decide +kernel

/-- DRAIN of 32 rows of the last slot as LN8. -/
def drainF : DrainFields :=
  { ga := 1, slot := 127, ofmt := 0, round := false, half := false, sbon := false, act := 4, red := 0, rows := 32,
    cols := 128, cont := false, k := 0 }

theorem wit_ArrayIssue_drain :
    goes rowsTile ∧ drainF.ga.toNat + 5 ≤ 32 ∧ drainF.ofmt.toNat ≤ 0xC ∧ 0 < drainF.rows.toNat
      ∧ drainF.slot.toNat + ceilDiv drainF.rows.toNat 32 ≤ 128 ∧ 0 < drainF.cols.toNat ∧ drainF.cols.toNat ≤ 128
      ∧ drainF.act.toNat ≤ 4 ∧ drainF.red.toNat ≠ 2 ∧ fmtBytes drainF.ofmt.toNat drainF.cols.toNat ≤ 128
      ∧ rangesFault rowsTile (drainRanges 0 32 128 0 200 300 500) = none
      ∧ boardHolds rowsTile (drainRanges 0 32 128 0 200 300 500) = false := by
  unfold goes mayFetch; decide +kernel

theorem wit_ArrayIssue_drain_full :
    let f := { drainF with half := true, round := true, sbon := true, red := 2, k := 16 }
    let rs := rangeOf 400 4 false ++ drainRanges 0 32 128 2 200 300 500
    f.round = true ∧ f.half = true ∧ f.ofmt.toNat < 0xA ∧ fmtBytes f.ofmt.toNat f.cols.toNat ≤ 128 ∧ f.k.toNat ≤ 16
      ∧ rangesFault rowsTile rs = none ∧ boardHolds rowsTile rs = false := by
  decide +kernel

/-- The operand with its checksum columns. -/
def checkedHold : WHold := { hold0 with checked := true, c := [0, 0], a := [0x7F000000, 0x7F000000] }

/-- The tile after a STREAM of one row, and after a DRAIN of one row. -/
def streaming : Tile :=
  match exec (.stream 17 { streamF with count := 1 }) (on loaded) with
  | .next s => s.tile 17
  | _ => loaded
/-- Likewise. -/
def draining : Tile :=
  match exec (.drain 17 { drainF with rows := 1, cols := 2 }) (on loaded) with
  | .next s => s.tile 17
  | _ => loaded

theorem wit_ArrayRows :
    (on streaming).live 17 ∧ (on draining).live 17
      ∧ ((splitStream (loadsDone streaming).arr.queue).map
          (fun x => drainBlocks x.1 (x.2.1.slot + x.2.1.next / 32) || x.2.1.w.checked)) = some false
      ∧ ((splitDrain draining.arr.queue).map (fun x => streamBlocks x.1 (x.2.1.slot + x.2.1.next / 32))) = some false
      ∧ draining.spad.parityBad = []
      ∧ checksumFails checkedHold 0 false [0x08, 0x10] [127] (passSums checkedHold 0 false [0x08, 0x10] [127]) ≠ some true := by
  unfold State.live; decide +kernel

/-- The registers of a VEC at binary32. -/
def vecF : VecFields :=
  { ga := 1, sfmt := BitVec.ofNat 4 (vecFmtCode false), dfmt := BitVec.ofNat 4 (vecFmtCode false), round := false,
    cf := false, s2s := false, count := 1, word := 0, cola := false, cold := false }

theorem wit_VectorInstructions :
    goes rowsTile ∧ rowsTile.sound ∧ vecF.ga.toNat + 4 ≤ 32 ∧ rowsTile.vecQ.length < 4
      ∧ (∀ op ∈ [VecOp.movb, .cvt, .add, .sub, .mul, .fma, .max_, .min_, .abs, .neg, .exp2, .log2, .rsqrt, .recip, .exp,
            .rsum, .rmax, .rmin, .rsumsq],
          vecRefusal op vecF (vecArgs rowsTile vecF.ga) = 0
            ∧ rangesFault rowsTile (vecRanges op vecF (vecArgs rowsTile vecF.ga)) = none
            ∧ boardHolds rowsTile (vecRanges op vecF (vecArgs rowsTile vecF.ga)) = false) :=
  ⟨by unfold goes mayFetch; decide +kernel, sound_of _ rfl rfl, by decide +kernel, by decide +kernel, by decide +kernel⟩

end Sys2Proof.Tests
end

