-- ==== Sys2Proof/Tests/WitnessTile.lean ====
section
/-! SUPPORT. States and operands that meet the hypotheses of the statements about a tile's checks, transfers, channels
and packets, clause by clause. -/

set_option Elab.async false

open Sys2Proof Sys2Proof.Machine

namespace Sys2Proof.Tests

/-! ### Cyclic codes of zeros -/

/-- A cyclic code over a byte string goes on over the next. -/
theorem crcRun_append (poly c : Nat) (a b : List Byte) : crcRun poly c (a ++ b) = crcRun poly (crcRun poly c a) b := by
  induction a generalizing c with
  | nil => rfl
  | cons x a ih => exact ih _

/-- A row of zeros in four pieces. -/
theorem zeros256 : zeroBytes 256 = zeroBytes 64 ++ (zeroBytes 64 ++ (zeroBytes 64 ++ zeroBytes 64)) := by decide +kernel

/-- A cyclic code over a row of zeros, from its values after each piece. -/
theorem crcRun_row {poly c c1 c2 c3 c4 : Nat} (h1 : crcRun poly c (zeroBytes 64) = c1) (h2 : crcRun poly c1 (zeroBytes 64) = c2)
    (h3 : crcRun poly c2 (zeroBytes 64) = c3) (h4 : crcRun poly c3 (zeroBytes 64) = c4) :
    crcRun poly c (zeroBytes 256) = c4 := by
  rw [zeros256, crcRun_append, crcRun_append, crcRun_append, h1, h2, h3, h4]

theorem crc32c_run : crcRun 0x82F63B78 0xFFFFFFFF (zeroBytes 256) = 1200442991 :=
  crcRun_row (c1 := 4231468184) (c2 := 4158167844) (c3 := 2345306063) (by decide +kernel) (by decide +kernel)
    (by decide +kernel) (by decide +kernel)

theorem crc32c_row : crc32c (zeroBytes 256) = 3094524304 := by rw [crc32c, crc32c_run]; rfl

theorem crc64_run : crcRun 0xC96C5795D7870F42 0xFFFFFFFFFFFFFFFF (zeroBytes 256) = 3398761635058823459 :=
  crcRun_row (c1 := 2426179449785408509) (c2 := 3493267268554412736) (c3 := 5946974514329938206) (by decide +kernel)
    (by decide +kernel) (by decide +kernel) (by decide +kernel)

theorem crc64_row : crc64 (zeroBytes 256) = 15047982438650728156 := by rw [crc64, crc64_run]; rfl

theorem crc32c_512 : crc32c (zeroBytes 512) = 821882304 := by
  have e : zeroBytes 512 = zeroBytes 256 ++ zeroBytes 256 := by decide +kernel
  rw [crc32c, e, crcRun_append, crc32c_run, crcRun_row (c1 := 64332339) (c2 := 1158271177) (c3 := 3425213895) (c4 := 3473084991) (by decide +kernel)
    (by decide +kernel) (by decide +kernel) (by decide +kernel)]
  rfl

/-! ### Checks -/

/-- A check pass of no row. -/
def job0 : CheckJob :=
  { origin := 17, passNo := 1, w := hold0, fmt := 0, half := false, rows := [], scales := [], digests := [] }

/-- A tile whose selected pass is ready for its partner, site 18. -/
def selecting : Tile := { tile0 with integ := { tile0.integ with partner := 18, checks := [⟨1, false, job0⟩] } }

theorem wit_CheckPasses_copy :
    (on selecting).live 17
      ∧ selecting.integ.checks.find? (fun c => !c.copied && decide (c.job.digests.length = c.job.rows.length))
        = some ⟨1, false, job0⟩
      ∧ ((on selecting).envOf 17).partnerFree = true ∧ selecting.integ.copyOut = [] :=
  ⟨by unfold State.live; decide +kernel, rfl, by decide +kernel, rfl⟩

/-- A tile whose check area holds a whole copy of so many rows of zeros. -/
def checking (rows : Byte) : Tile :=
  { tile0 with
    spad := { tile0.spad with mem := Memory.writeBytes [] ((checkAreaRow + 132) * 256 + 12) [rows] }
    integ := { tile0.integ with checkIn := some ⟨18, [0], some blankPacket⟩ } }

theorem wit_CheckPasses_agree :
    (on (checking 0)).live 17 ∧ (checking 0).integ.checkIn = some ⟨18, [0], some blankPacket⟩
      ∧ (CheckIn.mk 18 [0] (some blankPacket)).whole = true ∧ checkMayRun (checking 0).arr.queue = true
      ∧ (checking 0).spad.parityBad = [] ∧ blankPacket.payload.length ≤ 8192
      ∧ jobDigests (checkJobOf (checking 0)) = (checkJobOf (checking 0)).digests := by
  unfold State.live; decide +kernel

/-- The row digest of sums that are all zero. -/
theorem rowDigest_nil : rowDigest [] = 821882304 := by
  have e : (List.range 128).flatMap (fun n => leBytes (([] : List Nat).getD n 0) 4) = zeroBytes 512 := by decide +kernel
  rw [rowDigest, e, crc32c_512]
  rfl

theorem wit_CheckPasses_differ :
    (on (checking 1)).live 17 ∧ (checking 1).integ.checkIn = some ⟨18, [0], some blankPacket⟩
      ∧ checkMayRun (checking 1).arr.queue = true ∧ (checking 1).spad.parityBad = []
      ∧ jobDigests (checkJobOf (checking 1)) ≠ (checkJobOf (checking 1)).digests :=
  ⟨by unfold State.live; decide +kernel, rfl, by decide +kernel, by decide +kernel, by
    have e : (checkJobOf (checking 1)).rows.length = 1 := by decide +kernel
    have w : (checkJobOf (checking 1)).w.ncount = 0 := by decide +kernel
    have d : (checkJobOf (checking 1)).digests = [0] := by decide +kernel
    generalize checkJobOf (checking 1) = j at e w d ⊢
    simp [jobDigests, e, d, passSums, w, rowDigest_nil]⟩

/-- The origin of a check copy whose last packet is outstanding. -/
def awaiting : Tile :=
  { tile0 with
    integ := { tile0.integ with replayPoint := some point, checks := [⟨1, true, job0⟩] }
    outst := [⟨{ blankPacket with typ := 0x01, dsite := 18, last := true }, 1, 0, 0, .copy 1, 20⟩] }

theorem wit_CheckPasses_answers :
    (on awaiting).live 17 ∧ (on awaiting).siteGood 17 = true ∧ (on awaiting).partOfSite 17 = some 0
      ∧ (on awaiting).onTiles 0 = some 0 ∧ awaiting.ctx ≠ none
      ∧ (∀ p ∈ [{ blankPacket with typ := 0x06, dport := 4, ssite := 18 },
            { blankPacket with typ := 0x06, dport := 4, ssite := 18, aux := 0x80000000 },
            { blankPacket with typ := 0x06, dport := 4, ssite := 18, nack := true }],
          awaiting.outst.any (answers p) = true)
      ∧ awaiting.moveQ = [] ∧ awaiting.chan.misses = [] ∧ awaiting.integ.copyOut = []
      ∧ awaiting.integ.checks.any (fun c => decide (c.passNo = 1)) = true ∧ (on awaiting).faults.unhandled < 64
      ∧ awaiting.seq.mode = .running ∧ awaiting.integ.replayPending = none ∧ replayReason awaiting = 0 := by
  unfold State.live; decide +kernel

/-! ### Transfers -/

/-- A tile with a remote address register in g2 and a row count in g3. -/
def transfer (rem rows : Word) : Tile := ((tile0.setGreg 1 200).setGreg 2 rem).setGreg 3 rows

/-- The address of a row of site 18 in the tile window. -/
def farRow : Word := BitVec.ofNat 64 (tileWindow + 18 * tileWindowSize + 300 * 256)

/-- A MOVE by registers 1 to 3. -/
def moveF : MoveFields := { ga := 1, red := 0, lcc := 7, dcc := 9, word := 0, cola := false }

/-- What a MOVE needs of its operands. -/
def moves (t : Tile) (f : MoveFields) : Bool :=
  let row := (t.greg f.ga).toNat
  let rem := (t.greg (blockReg f.ga 1)).toNat
  let rows := (t.greg (blockReg f.ga 2)).toNat
  let fab := bitOf rem 63
  let hbm := decide (rem % 2 ^ 48 < 0x024000000000)
  let cuts := cutRows hbm (rows + 1) (rem % 2 ^ 48) rows
  let d : MoveDest := ⟨fab, BitVec.ofNat 15 (bitsOf rem 48 15), remoteOf (rem % 2 ^ 48)⟩
  decide (t.moveQ = []) && decide (t.integ.copyOut = []) && decide (t.chan.misses = []) && decide (f.ga.toNat + 3 ≤ 32) && decide (f.red ≠ 3) && decide (0 < rows) && decide (rows ≤ 65536)
    && decide (d.remote ≠ .bad) && (fab || decide (bitsOf rem 48 15 = 0)) && (!f.cola || !walkCrosses row f.word.toNat rows)
    && decide (t.outst.length + cuts.length ≤ 64) && (decide (f.red = 0) || !hbm)
    && decide (rangesFault t (localRange f.cola row f.word.toNat rows false) = none)
    && !boardHolds t (localRange f.cola row f.word.toNat rows false)
    && decide (rangesFault t (localRange f.cola row f.word.toNat rows true) = none)
    && !boardHolds t (localRange f.cola row f.word.toNat rows true)

theorem wit_Moves_tile :
    goes (transfer farRow 33) ∧ (transfer farRow 33).sound ∧ moves (transfer farRow 33) moveF = true
      ∧ (transfer farRow 33).stopped = none
      ∧ ∀ n, (on (transfer farRow 33)).routable 17
          ((destFields ((on (transfer farRow 33)).envOf 17)
            ⟨false, 0, remoteOf ((transfer farRow 33).greg (blockReg 1 1)).toNat⟩ n).1 % 512) = true :=
  ⟨by unfold goes mayFetch; decide +kernel, sound_of _ rfl rfl, by decide +kernel, rfl, fun n => by
    have h : remoteOf ((transfer farRow 33).greg (blockReg 1 1)).toNat = .tile 18 300 := by decide +kernel
    rw [h]
    have : (destFields ((on (transfer farRow 33)).envOf 17) ⟨false, 0, .tile 18 300⟩ n).1 % 512 = 18 := rfl
    rw [this]; decide +kernel⟩

/-- A push of one row with RED 1 to device 5 of the fabric, of which the device has no route. -/
def abroad : Tile := transfer (farRow + 0x8005000000000000) 1

theorem wit_Moves_fabric :
    goes abroad ∧ abroad.sound ∧ moves abroad { moveF with red := 1, cola := true, word := 31 } = true
      ∧ bitOf (abroad.greg (blockReg 1 1)).toNat 63 = true
      ∧ ∀ k, (on abroad).routable 17 (((on abroad).exitSite 17 5 k).getD 18) = true :=
  ⟨by unfold goes mayFetch; decide +kernel, sound_of _ rfl rfl, by decide +kernel, by decide +kernel, fun k => by
    have h : ∀ k, (on abroad).exitSite 17 5 k = (on abroad).exitSite 17 5 (k % 2) := fun k => by
      unfold State.exitSite; rw [Nat.mod_mod]
    rw [h]
    rcases (by omega : k % 2 = 0 ∨ k % 2 = 1) with e | e <;> rw [e] <;> decide +kernel⟩

theorem wit_Moves_stopped :
    let tl := { transfer 0xF00 2 with stopped := some 0 }
    goes tl ∧ tl.sound ∧ moves tl moveF = true ∧ tl.stopped = some 0 :=
  ⟨by unfold goes mayFetch; decide +kernel, sound_of _ rfl rfl, by decide +kernel, rfl⟩

/-- A MOVEC into circuit 255. -/
def movecF : MovecFields := { ga := 1, red := 2, lcc := 4095, dcc := 0, circ := 255, word := 0, cola := false }

/-- The device with circuit 255 of site 17 open for context 0 of partition 0 from the tile port. -/
def onCircuit (t : Tile) : State :=
  { on t with net := { dev.net with routers := [(17, { Router.clear with circuits := [(255, 0x8000000000000200)] })] } }

theorem wit_CircuitMoves :
    (onCircuit (transfer 0 33)).tileOn 17 = true ∧ mayIssue ((onCircuit (transfer 0 33)).envOf 17) (transfer 0 33) = true
      ∧ goes (transfer 0 33) ∧ (transfer 0 33).sound ∧ movecF.ga.toNat + 3 ≤ 32 ∧ movecF.red ≠ 3
      ∧ circuitUsable ((onCircuit (transfer 0 33)).envOf 17) (transfer 0 33) movecF.circ.toNat = true
      ∧ rangesFault (transfer 0 33) (localRange false 200 0 33 false) = none
      ∧ boardHolds (transfer 0 33) (localRange false 200 0 33 false) = false :=
  ⟨by decide +kernel, by decide +kernel, by unfold goes mayFetch; decide +kernel, sound_of _ rfl rfl, by decide +kernel,
    by decide +kernel, by decide +kernel, by decide +kernel, by decide +kernel⟩

/-! ### Timeouts -/

/-- A tile with two packets outstanding, the second of which times out now. -/
def unanswered : Tile :=
  { tile0 with
    seq := { tile0.seq with activeCycles := 2 ^ 20 }
    outst := [⟨blankPacket, 1, 1, 0, .move, 20⟩, ⟨{ blankPacket with scc := 4095 }, 32, 0, 0, .move, 20⟩] }

/-- A tile with a message outstanding on channel 5 since its first active cycle. -/
def unanswered5 : Tile :=
  { chanTile with
    seq := { chanTile.seq with activeCycles := 2 ^ 20 }
    chan := { chanTile.chan with streams := [(5, ⟨1, [⟨0, 8, 0, 20, [], 1, some 4095⟩]⟩)] } }

/-- A message of site 18 on channel 5. -/
def msg5 (n : BitVec 24) : Packet :=
  { blankPacket with typ := 0x07, aux := 5, ssite := 18, dsite := 17, dport := 4, seq := n, payload := zeroBytes 1024 }

/-- A tile that holds message 1 of channel 5 while it waits for message 0. -/
def gapped : Tile :=
  { chanTile with
    seq := { chanTile.seq with activeCycles := 2 ^ 20 }
    chan := { chanTile.chan with
      window := [⟨msg5 1, 0, 20⟩], queues := [(15, ⟨0, [⟨1, 18, 0, 1024, 8⟩, ⟨1, 18, 1, 1024, 8⟩, ⟨1, 18, 2, 1024, 8⟩]⟩)] } }

theorem wit_Timeouts :
    (on unanswered).live 17
      ∧ unanswered.outst = [⟨blankPacket, 1, 1, 0, .move, 20⟩]
          ++ ⟨{ blankPacket with scc := 4095 }, 32, 0, 0, .move, 20⟩ :: []
      ∧ (unanswered.seq.activeCycles - 1).toNat < 2 ^ 20 ∧ 2 ^ 20 ≤ (unanswered.seq.activeCycles - 0).toNat
      ∧ unanswered.moveQ = [] ∧ unanswered.chan.misses = [] ∧ unanswered.integ.copyOut = []
      ∧ (on { awaiting with seq := { awaiting.seq with activeCycles := 2 ^ 20 } }).live 17
      ∧ awaiting.outst.map (·.use) = [.copy 1] ∧ awaiting.integ.checks.any (fun c => decide (c.passNo = 1)) = true
      ∧ (on unanswered5).live 17 ∧ unanswered5.chan.cur = none ∧ unanswered5.chan.misses = []
      ∧ (unanswered5.chan.stream 5).out = ⟨0, 8, 0, 20, [], 1, some 4095⟩ :: []
      ∧ 2 ^ 20 ≤ (unanswered5.seq.activeCycles - 0).toNat
      ∧ (on gapped).live 17 ∧ gapped.chan.entry 5 = some entry0 ∧ gapped.chan.window = [⟨msg5 1, 0, 20⟩]
      ∧ (msg5 1).aux.setWidth 16 = (5 : BitVec 16) ∧ (msg5 1).ssite = BitVec.ofNat 9 18
      ∧ 2 ^ 20 ≤ (gapped.seq.activeCycles - 0).toNat
      ∧ (gapped.chan.queue entry0.rqueue.toNat).used + slotsOf (msg5 1).payload.length ≤ 32
      ∧ (on gapped).faults.unhandled < 64 := by
  unfold State.live; decide +kernel

/-! ### Channels -/

/-- The device with a channel table of 64 entries for partition 0. -/
def onCh (t : Tile) : State := { on t with parts := [(0, { part0 with chCount := 64, running := some 0 })] }

/-- A SEND of 1,024 bytes. -/
def sendF : SendFields := { gd := 4, ga := 1, gb := 2, len := 1024, ny := false }

/-- A tile ready to send on channel 5, with so many slots outstanding. -/
def sender (used : Nat) : Tile :=
  ((({ chanTile with chan := { chanTile.chan with streams := [(5, ⟨9, [⟨8, used, 0, 20, [], 1, none⟩]⟩)] } } : Tile).setGreg 1 5).setGreg 2
    200).setGreg 3 0

/-- The SEND of it in the channel engine. -/
def cur5 (ph : SendPhase) : SendCur := ⟨4, false, 5, 200, 1024, false, ph, 0, 0, 0⟩

/-- A tile with that SEND parked. -/
def parking : Tile := { sender 0 with chan := { (sender 0).chan with parked := some (cur5 .credits) } }

/-- A tile at that SEND, with its timer run out or its outcome known. -/
def atSend (ph : SendPhase) : Tile :=
  { sender 8 with
    seq := { (sender 8).seq with activeCycles := 2 ^ 40, cur := some ⟨.send sendF, .send, 0⟩ }
    chan := { (sender 8).chan with cur := some (cur5 ph) } }

/-- What a SEND on channel 5 needs of the entry. -/
def admits5 (t : Tile) : Bool :=
  decide ((5 : BitVec 16).toNat < ((onCh t).envOf 17).chCount) && decide (t.chan.entry 5 = some entry0)
    && decide (entry0.part = ((onCh t).envOf 17).part) && decide (some entry0.ctx = t.ctx)
    && isSender ((onCh t).envOf 17).placement entry0 17 && decide (1024 ≤ entry0.maxlen.toNat) && decide (entry0.state = 1)

theorem wit_Sends_issue :
    (∀ n ∈ [0, 8], (onCh (sender n)).tileOn 17 = true ∧ mayIssue ((onCh (sender n)).envOf 17) (sender n) = true
      ∧ goes (sender n) ∧ admits5 (sender n) = true ∧ (sender n).chan.cur = none ∧ (sender n).chan.parked = none
      ∧ (sender n).greg 1 = 5 ∧ rangesFault (sender n) (rangeOf 200 (ceilDiv 1024 256) false) = none
      ∧ boardHolds (sender n) (rangeOf 200 (ceilDiv 1024 256) false) = false ∧ (sender n).stopped = none)
      ∧ ((sender 0).chan.stream 5).slots + slotsOf 1024 ≤ entry0.credits.toNat
      ∧ entry0.credits.toNat < ((sender 8).chan.stream 5).slots + slotsOf 1024 := by
  unfold goes mayFetch; decide +kernel

/-- A tile ready to send on channel 5, whose entry it does not hold. -/
def lineless : Tile := { sender 0 with chan := { (sender 0).chan with cache := [] } }

theorem wit_Sends_miss :
    goes lineless ∧ (5 : BitVec 16).toNat < ((onCh lineless).envOf 17).chCount ∧ lineless.chan.entry 5 = none
      ∧ lineless.chan.misses = [] ∧ lineless.stopped = none ∧ lineless.outst = [] ∧ lineless.chan.hasLine = true := by
  unfold goes mayFetch; decide +kernel

theorem wit_Sends_miss_routable : lineless.sound ∧ ∀ n, (onCh lineless).routable 17 n = true :=
  ⟨sound_of _ rfl rfl, fun n => by
    have h : ∀ m, (onCh lineless).bypassed m = false := fun _ => rfl
    simp [State.routable, h]⟩

theorem wit_Sends_sound (n : Nat) : (sender n).sound := sound_of _ rfl rfl

theorem wit_Sends_later :
    (onCh parking).live 17 ∧ parking.chan.parked = some (cur5 .credits) ∧ parking.chan.cur = none
      ∧ parking.seq.handler = false ∧ admits5 parking = true
      ∧ (parking.chan.stream 5).slots + slotsOf 1024 ≤ entry0.credits.toNat ∧ parking.stopped = none
      ∧ (onCh (atSend .credits)).live 17 ∧ (atSend .credits).chan.cur = some (cur5 .credits)
      ∧ sendExpired (atSend .credits) (cur5 .credits) = true
      ∧ (onCh (atSend (.done 0x0E))).live 17 ∧ (atSend (.done 0x0E)).chan.cur = some (cur5 (.done 0x0E))
      ∧ (cur5 (.done 0x0E)).fromHandler = (atSend (.done 0x0E)).seq.handler
      ∧ waitsAtSend (atSend (.done 0x0E)) = true := by
  unfold State.live; decide +kernel

/-- A RECV of queue 15. -/
def recvF (w d : Bool) : RecvFields := { gd := 4, ga := 1, gb := 2, wait := w, discard := d }

/-- A tile that receives from queue 15, with a message there or none. -/
def receiver (full : Bool) : Tile :=
  let t := (chanTile.setGreg 1 15).setGreg 2 200
  if full then { t with chan := { t.chan with queues := [(15, ⟨31, [⟨5, 18, 0, 1024, 8⟩]⟩)] } } else t

/-- It, at a RECV that waits. -/
def receiving : Tile :=
  { receiver true with seq := { (receiver true).seq with cur := some ⟨.recv (recvF true false), .recv, 0⟩ } }

theorem wit_Receives :
    (∀ b, goes (receiver b) ∧ (receiver b).seq.handler = false ∧ bitOf (receiver b).seq.handlerMask.toNat 15 = false
      ∧ rangesFault (receiver b) (rangeOf ((receiver b).greg 2).toNat 4 true) = none
      ∧ boardHolds (receiver b) (rangeOf ((receiver b).greg 2).toNat 4 true) = false ∧ (receiver b).chan.cur = none
      ∧ (receiver b).spad.parityBad = [] ∧ ((receiver b).greg 1).toNat % 16 = 15)
      ∧ ((receiver true).chan.queue 15).msgs = ⟨5, 18, 0, 1024, 8⟩ :: [] ∧ ((receiver false).chan.queue 15).msgs = []
      ∧ goesOn receiving ⟨.recv (recvF true false), .recv, 0⟩ := by
  unfold goes mayFetch goesOn; decide +kernel

/-- A tile that has been sent STOP. -/
def halting : Tile := { chanTile with stopped := some 0 }

/-- It, with an accepted SEND that waits. -/
def holding : Tile := { halting with chan := { halting.chan with cur := some (cur5 (.injecting (msg5 0))) } }

theorem wit_StopsAndEntries :
    (on tile0).live 17 ∧ tile0.stopped = none ∧ (on tile0).orderBlocked 17 0x20 = false ∧ (on halting).live 17
      ∧ halting.stopped = some 0 ∧ halting.moveQ = [] ∧ halting.integ.copyOut = [] ∧ halting.chan.misses = []
      ∧ (on halting).orderBlocked 17 0x21 = false ∧ halting.chan.cur = none ∧ (on holding).live 17
      ∧ (on holding).orderBlocked 17 0x21 = false ∧ holding.chan.cur = some (cur5 (.injecting (msg5 0)))
      ∧ (msg5 0).circ = false ∧ holding.seq.handler = false := by
  unfold State.live; decide +kernel

/-- The tile with a RESUME at its port, before any STOP. -/
def resumedFirst : State := (on tile0).addFlight { blankPacket with typ := 0x21, ctrl := true } (.dest 17 4) 0 5

theorem wit_StopsAndEntries_order : resumedFirst.live 17 ∧ resumedFirst.orderBlocked 17 0x20 = true := by
  unfold State.live; decide +kernel

/-- The 64 bytes of an entry that is FREE, with its check. -/
def freeEntry : List Byte := zeroBytes 60 ++ leBytes (crc32c (zeroBytes 60)) 4

/-- The READ of entry 5 as it is outstanding, with its timeout. -/
def entryOut : Outstanding := ⟨{ blankPacket with typ := 0x04, dsite := 18, aux := 0x80000005 }, 0, 0, 0, .entry 5, 20⟩

/-- A tile that has asked for entry 5 of the channel table and has run for so many active cycles since. -/
def asking (n : BitVec 64) : Tile :=
  { tile0 with
    seq := { tile0.seq with activeCycles := n }, chan := { tile0.chan with misses := [5] }, outst := [entryOut] }

/-- The answer to that READ, with the entry or refused. -/
def entryPkt (nack : Bool) : Packet :=
  { blankPacket with
    typ := 0x05, dport := 4, dsite := 17, ssite := 18, aux := 0x80000005, nack := nack, len := 64, payload := freeEntry,
    trailer := rowTrailer 0 false false none none freeEntry }

/-- The device with that answer at the tile's port. -/
def answered (nack : Bool) : State := (on (asking 0)).addFlight (entryPkt nack) (.dest 17 4) 0 4

theorem wit_StopsAndEntries_read :
    (answered false).live 17 ∧ (answered false).siteGood 17 = true ∧ (answered false).partOfSite 17 = some 0
      ∧ (answered false).onTiles 0 = some 0 ∧ (asking 0).ctx ≠ none ∧ (asking 0).outst = [] ++ entryOut :: []
      ∧ answers (entryPkt false) entryOut = true ∧ (asking 0).chan.misses = [5] ∧ (asking 0).integ.copyOut = []
      ∧ (asking 0).moveQ = [] ∧ (asking 0).chan.cur = none ∧ (asking 0).chan.parked = none ∧ (asking 0).chan.waiting = []
      ∧ (asking 0).seq.dispatching = none ∧ (answered false).entryAnswer 17 5 = some (entryPkt false)
      ∧ rowPacketOk (entryPkt false) = true ∧ (parseEntry (entryPkt false).payload).good = true
      ∧ (asking 0).chan.cache.length < 64 ∧ answers (entryPkt true) entryOut = true ∧ (entryPkt true).nack = true := by
  unfold State.live; decide +kernel

theorem wit_StopsAndEntries_timeout :
    (on (asking 0x100000)).live 17 ∧ (asking 0x100000).outst = [] ++ entryOut :: []
      ∧ 2 ^ entryOut.timeout ≤ ((asking 0x100000).seq.activeCycles - entryOut.sentAt).toNat
      ∧ (on (asking 0x100000)).net.inFlight = [] := by
  unfold State.live; decide +kernel

/-! ### Packets -/

/-- A packet of site 18 to site 17. -/
def pkt (ty : BitVec 8) (row : BitVec 48) (bs tr : List Byte) : Packet :=
  { blankPacket with
    typ := ty, dport := 4, dsite := 17, ssite := 18, addr := row, len := BitVec.ofNat 14 bs.length, dcc := 4095, payload := bs,
    trailer := tr }

/-- A row packet of one row of zeros. -/
def rowPkt (ty : BitVec 8) (red : Nat) : Packet :=
  pkt ty 200 (zeroBytes 256) (rowTrailer red false false none none (zeroBytes 256))

theorem rowPkt_ok (ty : BitVec 8) (red : Nat) (h : red < 3) : rowPacketOk (rowPkt ty red) = true := by
  have e : (zeroBytes 256).take 4096 = zeroBytes 256 := by decide +kernel
  simp only [rowPacketOk, rowPkt, pkt, rowTrailer, e, crc32c_row, crc64_row, Option.getD_none]
  rcases (by omega : red = 0 ∨ red = 1 ∨ red = 2) with rfl | rfl | rfl <;> decide +kernel

theorem wit_PacketsAtTile_rows :
    (on tile0).live 17 ∧ (on tile0).partOfSite 17 = some 0 ∧ (on tile0).onTiles 0 = some 0 ∧ tile0.ctx ≠ none
      ∧ inboundClosed tile0 200 1 = 0 ∧ rowPacketOk (rowPkt 0x01 0) = true ∧ tile0.spad.parityBad = []
      ∧ (on tile0).siteGood 17 = true ∧ (rowPkt 0x01 0).circ = false ∧ bitOf (rowPkt 0x01 0).aux.toNat 31 = false
      ∧ (∀ red ∈ [1, 2], rowPacketOk (rowPkt (typeOfRed red) red) = true
        ∧ trailerParityMode (rowPkt (typeOfRed red) red).trailer = false
        ∧ tallyFails red (rowPkt (typeOfRed red) red).trailer
          (Memory.readBytes tile0.spad.mem 51200 256) (zeroBytes 256)
          (addElems red (Memory.readBytes tile0.spad.mem 51200 256) (zeroBytes 256)) = some false) :=
  ⟨by unfold State.live; decide +kernel, by decide +kernel, by decide +kernel, by decide +kernel, by decide +kernel,
    rowPkt_ok _ _ (by decide), rfl, by decide +kernel, rfl, by decide +kernel, fun red h => ⟨rowPkt_ok _ _ (by revert red; decide),
      by revert red; decide +kernel, by revert red; decide +kernel⟩⟩

/-- A READ of the last row. -/
def readPkt : Packet := { pkt 0x04 458751 [] [] with len := 256 }

theorem wit_PacketsAtTile_read :
    (on tile0).live 17 ∧ (on tile0).partOfSite 17 = some readPkt.part.toNat ∧ readPkt.circ = false ∧ readPkt.dport = 4
      ∧ readPkt.addr.toNat + readPkt.len.toNat / 256 ≤ 458752 ∧ 0 < readPkt.len.toNat / 256
      ∧ firstRowWith (otherCtxRow tile0) 458751 458751 = none := by
  unfold State.live; decide +kernel

theorem wit_PacketsAtTile_read_sound : tile0.sound := sound_of _ rfl rfl

/-- A tile with two packets outstanding: a push of 32 rows to site 18 and the READ of a fetch of 2 rows. -/
def fetching : Tile :=
  { tile0 with
    outst := [⟨{ blankPacket with typ := 0x01, dsite := 18, scc := 4095 }, 32, 0, 0, .move, 20⟩,
      ⟨{ blankPacket with typ := 0x04, dsite := 18, scc := 4095, seq := 1 }, 2, 0, 1, .move, 20⟩]
    moveQ := [⟨[], none, [], [⟨0, 1, true⟩], 2, 0, false, 0, 0, true, 1⟩] }

/-- The tile with the push alone. -/
def pushing : Tile := { fetching with moveQ := [] }

theorem wit_PacketsAtTile_answers :
    (on pushing).live 17 ∧ (on fetching).live 17 ∧ pushing.moveQ = [] ∧ pushing.integ.copyOut = [] ∧ pushing.chan.misses = []
      ∧ answers { pkt 0x06 0 [] [] with aux := 32 } ⟨{ blankPacket with typ := 0x01, dsite := 18, scc := 4095 }, 32, 0, 0, .move, 20⟩
        = true
      ∧ answers { rowPkt 0x05 0 with seq := 1 } ⟨{ blankPacket with typ := 0x01, dsite := 18, scc := 4095 }, 32, 0, 0, .move, 20⟩
        = false
      ∧ answers { rowPkt 0x05 0 with seq := 1 }
          ⟨{ blankPacket with typ := 0x04, dsite := 18, scc := 4095, seq := 1 }, 2, 0, 1, .move, 20⟩ = true
      ∧ fetching.moveQ = [⟨[], none, [], [⟨0, 1, true⟩], 2, 0, false, 0, 0, true, 1⟩] := by
  unfold State.live; decide +kernel

theorem wit_PacketsAtTile_data : rowPacketOk { rowPkt 0x05 0 with seq := 1 } = true := rowPkt_ok 0x05 0 (by decide)

/-- A MESSAGE of 128 bytes to queue 15. -/
def inMsg : Packet := { pkt 0x07 15 (zeroBytes 128) (messageTrailer (zeroBytes 128)) with aux := 5 }

theorem wit_PacketsAtTile_channel :
    (onCh chanTile).live 17 ∧ (onCh chanTile).partOfSite 17 = some 0 ∧ messageOk ((onCh chanTile).envOf 17).parityMode inMsg = true
      ∧ chanTile.chan.entry (inMsg.aux.setWidth 16) = some entry0
      ∧ versionNewer (BitVec.ofNat 16 (bitsOf inMsg.addr.toNat 4 16)) entry0.version = false
      ∧ entryAdmits ((onCh chanTile).envOf 17) chanTile entry0 inMsg = true
      ∧ inMsg.seq = SMap.get 0 chanTile.chan.expected (streamKey (inMsg.aux.setWidth 16) inMsg.ssite)
      ∧ chanTile.chan.window = [] ∧ (chanTile.chan.queue 15).used + slotsOf 128 ≤ 32
      ∧ (on unanswered5).live 17 ∧ (unanswered5.chan.stream 5).out = [] ++ ⟨0, 8, 0, 20, [], 1, some 4095⟩ :: []
      ∧ (({ pkt 0x08 0 [] [] with aux := 5 } : Packet).aux.setWidth 16 : BitVec 16) = 5
      ∧ unanswered5.chan.misses = [] ∧ unanswered5.chan.cur = none := by
  unfold State.live; decide +kernel

end Sys2Proof.Tests
end

