-- ==== Sys2Proof/Tests/WitnessCommands.lean ====
section
/-! SUPPORT. States and operands that meet the hypotheses of the statements about the network, memory, partitions and
contexts, clause by clause. -/

set_option Elab.async false

open Sys2Proof Sys2Proof.Machine

namespace Sys2Proof.Tests

/-! ### The network and memory -/

/-- A WRITE of no row from site 18 to a site, with its header check. -/
def headed (d : BitVec 9) (port : BitVec 3) : Packet := sealPacket { blankPacket with typ := 1, dsite := d, dport := port, ssite := 18 }

/-- The device with a packet in a buffer of the router at site 17. -/
def hopping (p : Packet) (vc : Nat) : State := (on tile0).addFlight p (.router 17 4) vc 4

theorem wit_Routing_bypassed : ∀ n, (on tile0).bypassed n = false := fun _ => rfl

theorem wit_Routing :
    (on tile0).meshOn = true ∧ ((on tile0).router 17).failed = false
      ∧ (∀ d ∈ [(0 : BitVec 9), 16, 17, 18, 479], ∀ vc ∈ [0, 1], (headed d 4).hcrc = hcrcOf (headed d 4)
        ∧ (headed d 4).parityError = false ∧ (hopping (headed d 4) vc).target (headed d 4) = .at d.toNat 4
        ∧ (hopping (headed d 4) vc).flightAt (headed d 4) (.router 17 4) = some ⟨headed d 4, .router 17 4, vc, 4⟩
        ∧ (hopping (headed d 4) vc).oldest 17 ⟨headed d 4, .router 17 4, vc, 4⟩ = true)
      ∧ (0 / 16 ≠ 17 / 16 ∧ 0 % 16 ≠ 17 % 16 ∧ 16 / 16 = 17 / 16 ∧ 16 % 16 ≠ 17 % 16 ∧ 479 % 16 ≠ 17 % 16)
      ∧ knownType (headed 17 4).typ = true
      ∧ (on tile0).tileRefusal 17 (headed 17 4) = none ∧ (on tile0).nobodyThere 17 (headed 17 4) = false
      ∧ { headed 17 4 with hcrc := 0 }.hcrc ≠ hcrcOf { headed 17 4 with hcrc := 0 } ∧ (on tile0).faults.unhandled < 64 := by
  decide +kernel

/-- A flit of a circuit whose packet's header check agrees. -/
def flit0 : CFlit := ⟨headerBytes (headed 0x1FF 0) ++ leBytes (headed 0x1FF 0).hcrc.toNat 2 ++ zeroBytes 224, true, true, false⟩

/-- The device with circuit 255 from port 5 of site 17 through port 2, its buffer full, and so many flits in the next router's. -/
def piped (n : Nat) : State :=
  { dev with net := { dev.net with
      routers := [(17, { Router.clear with circuits := [(255, 0x8000000000000284)], buffers := [(255, [flit0, flit0])] }),
        (18, { Router.clear with buffers := [(255, List.replicate n flit0)] })] } }

theorem wit_Routing_circuit :
    (piped 1).meshOn = true ∧ ((piped 1).router 17).failed = false
      ∧ SMap.get [] ((piped 1).router 17).buffers 255 = flit0 :: [flit0]
      ∧ bitOf (SMap.get 0 ((piped 1).router 17).circuits 255).toNat 63 = true ∧ flit0.headerOk = true ∧ flit0.bad = false
      ∧ ((piped 1).router 17).discards.contains 255 = false
      ∧ (List.range 7).filter (bitOf (bitsOf (SMap.get 0 ((piped 1).router 17).circuits 255).toNat 0 7)) = [2]
      ∧ neighbour 17 2 = some 18 ∧ ((piped 1).router 18).entryFlits 255 < 2 ∧ 2 ≤ ((piped 2).router 18).entryFlits 255 := by
  decide +kernel

theorem wit_Routing_circuit_bypassed : ∀ n k, (piped k).bypassed n = false := fun n k => by
  by_cases h : n = 17
  · subst h; rfl
  · by_cases h' : n = 18
    · subst h'; rfl
    · simp [State.bypassed, State.router, piped, SMap.get, h, h', Router.clear]

/-- A row packet to the last row of block 0 of partition 0's memory, at stack 0. -/
def memPkt (ty : BitVec 8) : Packet :=
  { rowPkt ty 0 with dsite := 0, dport := 5, addr := 0xF00, len := 256 }

/-- The device with a packet at the port of stack 0. -/
def atStack (p : Packet) : State := dev.addFlight p (.dest 0 5) 0 5

theorem wit_MemoryAccess_next : ∀ ty ∈ [(1 : BitVec 8), 4], (atStack (memPkt ty)).nextAt 0 5 (memPkt ty) = true
    ∧ (memPkt ty).dport ≠ 4 := by
  intro ty h
  rcases (by simpa using h : ty = 1 ∨ ty = 4) with rfl | rfl <;> exact ⟨by simp [State.nextAt, atStack, State.addFlight, dev,
    State.reset, State.afterReset, memPkt, rowPkt, pkt, Net.clear], by decide⟩

theorem wit_MemoryAccess :
    attachAt 0 5 = .hbm 0 ∧ dev.meshOn = true ∧ dev.sec.erasing = false ∧ dev.bring.phase ≠ .alarmed
      ∧ (dev.part 0).maps 0xF00 = true ∧ dev.attachServes (.hbm 0) = true ∧ dev.hbm.errs = []
      ∧ ((dev.part 0).acc 0xF00).off % 32 = 0 ∧ 0xF00 % 4096 + (memPkt 1).payload.length ≤ 4096
      ∧ (memPkt 1).payload.length % 32 = 0 ∧ 0 < (memPkt 1).payload.length ∧ (memPkt 4).len.toNat < 4096
      ∧ 0xF00 % 4096 + (memPkt 4).len.toNat ≤ 4096 ∧ dev.hbm.keyed = [] ∧ ((dev.part 0).acc 0xF00).key = none := by
  decide +kernel

theorem wit_MemoryAccess_data : rowPacketOk (memPkt 1) = true := rowPkt_ok 1 0 (by decide)

/-- The device with a single-bit error in the first transfer of stack 0, and with no partition at all. -/
def scratched : State := { dev with hbm := { dev.hbm with errs := [(0, some .single)] } }

/-- The device with two errors in the last granted transfer of stack 23, whose turn it is. -/
def broken : State :=
  { dev with hbm := { dev.hbm with errs := [(transferNo 23 (8388607 * 32), some .double)], patrolAt := [(23, 8388607)] } }

theorem wit_MemoryUpkeep :
    scratched.hbm.patrolEn = true ∧ (scratched.stack 0).state = .inService ∧ scratched.patrolNext 0 = some 0
      ∧ scratched.hbm.err 0 (0 * 32) = some .single ∧ (scratched.grantedFrom 0 1).isNone = false
      ∧ (broken.stack 23).state = .inService ∧ broken.patrolNext 23 = some 8388607
      ∧ broken.hbm.err 23 (8388607 * 32) = some .double ∧ (broken.grantedFrom 23 8388608).isNone = true
      ∧ scratched.patrolNext 0 ≠ some 1 ∧ (State.reset.stack 0).state ≠ .inService
      ∧ ({ dev with parts := [] }.stack 23).state = .inService ∧ { dev with parts := [] }.partsOn 23 = [] := by
  decide +kernel

theorem wit_MemoryUpkeep_saved : ∀ c, ({ dev with parts := [], ctxs := [] }.ctx c).saved = [] := fun _ => rfl

/-! ### Commands -/

/-- A command header. -/
def hdr (p c flags : Nat) : CmdHdr := ⟨7, BitVec.ofNat 8 flags, BitVec.ofNat 8 p, BitVec.ofNat 8 c⟩

/-- The device with an open command. -/
def busy : State :=
  { dev with hm := { dev.hm with jobs := [⟨hdr 0 0xFF 0, 0x0200, .zero, 0⟩], nextSerial := 1 } }

theorem wit_CommandOrder :
    State.reset.canTake = false ∧ dev.canTake = true ∧ cmdInfo (.identify (hdr 0xFF 0xFF 4)) ≠ none
      ∧ 4 ≤ (hdr 0xFF 0xFF 4).flags.toNat
      ∧ (cmdInfo (.identify (hdr 0 0xFF 0))).map (fun x => x.part.met x.hdr.part) = some false
      ∧ (cmdInfo (.identify (hdr 0xFF 0 0))).map (fun x => x.ctx.met x.hdr.ctx) = some false
      ∧ (cmdInfo (.identify (hdr 0xFF 0xFF 2))).map (fun x => x.headerOk) = some true
      ∧ { dev with bring := { dev.bring with phase := .halted } }.canTake = true
      ∧ { dev with bring := { dev.bring with phase := .halted } }.phaseStatus 0x0102 ≠ stOk
      ∧ busy.canTake = true ∧ busy.phaseStatus 0 = stOk ∧ bitOf (hdr 0xFF 0xFF 2).flags.toNat 1 = true
      ∧ (∃ j ∈ busy.hm.jobs, j.serial < busy.hm.nextSerial)
      ∧ ∀ j ∈ dev.hm.jobs, dev.hm.nextSerial ≤ j.serial := by
  decide +kernel

/-- A record with a body of so many bytes. -/
def recOf (n : Nat) : Rec := { (default : Rec) with body := zeroBytes n }

/-- The attachment with a ring of 16 entries, the producer at its last entry. -/
def ringed (consumer : Nat) : State :=
  { dev with uci := { dev.uci with enable := true, sizeLog2 := 4, producer := 15, consumer := consumer } }

theorem wit_Records :
    (recOf 39).body.length ≤ 39 ∧ { dev with hm := { dev.hm with silent := true } }.hm.silent = true
      ∧ (ringed 1).hm.silent = false ∧ (ringed 1).uci.backlog = [] ∧ (ringed 1).uci.enable = true ∧ 1 ≤ (ringed 1).uci.room
      ∧ (ringed 15).uci.consumer < 16 ∧ (ringed 15).uci.room = 15 ∧ (ringed 0).uci.room = 0
      ∧ (ringed 1).uci.room < (recOf 200).entries ∧ (recOf 39).entries ≤ (ringed 1).uci.room
      ∧ 256 ≤ { dev.uci with backlog := List.replicate 256 (recOf 1) }.backlog.length := by
  decide +kernel

/-! ### Identity and configuration -/

theorem wit_served :
    (hdr 0xFF 0xFF 0).bare ∧ (∀ op ∈ [0x0000, 0x0001, 0x0002, 0x0003, 0x0004, 0x0100, 0x0101, 0x0102, 0x0103, 0x0804],
      dev.served op (hdr 0xFF 0xFF 1)) := by
  unfold CmdHdr.bare State.served; decide +kernel

theorem wit_IdentityAndConfiguration :
    (∀ x ∈ [((1 : Nat), (30 : Nat)), (2, 1), (3, 255)], x.1 = 1 ∧ 16 ≤ x.2 ∧ x.2 ≤ 30 ∨ x.1 = 2 ∧ x.2 < 2
        ∨ x.1 = 3 ∧ 1 ≤ x.2 ∧ x.2 ≤ 255)
      ∧ ¬(∀ x ∈ [((1 : Nat), (31 : Nat))], x.1 = 1 ∧ 16 ≤ x.2 ∧ x.2 ≤ 30 ∨ x.1 = 2 ∧ x.2 < 2
        ∨ x.1 = 3 ∧ 1 ≤ x.2 ∧ x.2 ≤ 255)
      ∧ 255 < 256 ∧ (List.replicate 120 (3 : Nat)).length ≤ 120 ∧ (zeroBytes 976).length ≤ 976
      ∧ (zeroBytes 1).length = 1 ∧ dev.licenceOk (zeroBytes 1) = false ∧ dev.faults.unhandled < 64 := by
  decide +kernel

/-! ### Partitions and contexts -/

/-- Region 1 for a partition, with bands 8 and up. -/
def grant1 : GrantBlock := ⟨1, 1, 0, 0, 0, 3, 8, 3061, List.replicate 24 (0, 0)⟩

/-- Only a grant. -/
def grant2 : GrantBlock := { grant1 with c0 := 0, c1 := 0, r0 := 0, r1 := 0, level := 0 }

/-- The device with no context. -/
def noCtx : State := { dev with ctxs := [], parts := [(0, part0)] }

theorem wit_PartitionCommands :
    (hdr 19 0xFF 0).namesPart 19 ∧ (hdr 0 0xFF 0).namesPart 0 ∧ dev.served 0x0200 (hdr 19 0xFF 0) ∧ dev.rectOk grant1 = true
      ∧ grant1.level ≤ 3 ∧ dev.grantOk 19 grant1 = true ∧ dev.partCount < 4 ∧ bitOf grant1.flags 0 = false
      ∧ (dev.part 19).valid = false
      ∧ noCtx.served 0x0303 (hdr 0 0xFF 0) ∧ noCtx.partExists 0 = true ∧ bitOf grant2.flags 0 = (noCtx.part 0).confidential
      ∧ noCtx.grantOk 0 grant2 = true ∧ (∀ n ∈ ctxsOf 0, (noCtx.ctx n).state = .none)
      ∧ dev.served 0x0206 (hdr 0 0xFF 0) ∧ dev.partExists 0 = true
      ∧ (∀ n ∈ ctxsOf 0, (noCtx.ctx n).launched = false) ∧ noCtx.circuitsEmpty 0 none = true
      ∧ (∃ i ∈ noCtx.partSites 0, noCtx.siteGood i = true) ∧ (∀ r ∈ (noCtx.part 0).regions, (noCtx.pregion r).thermalOff = false)
      ∧ noCtx.served 0x0202 (hdr 0 0xFF 0) ∧ noCtx.served 0x0201 (hdr 0 0xFF 0) := by
  unfold CmdHdr.namesPart State.served; decide +kernel

/-- The device while the grant of partition 0 is zeroed, with a command of it open. -/
def zeroing (w : Work) : State :=
  { noCtx with
    parts := [(0, { part0 with zeroing := true })], hm := { dev.hm with jobs := [⟨hdr 0 0xFF 0, 0x0200, w, 0⟩], nextSerial := 1 } }

theorem wit_ZeroingComplete :
    ((zeroing .zero).part 0).zeroing = true ∧ (∀ j ∈ (zeroing .zero).hm.jobs, j.hdr.part.toNat = 0 → j.work = .zero)
      ∧ ((zeroing (.destroy .bands)).part 0).zeroing = true
      ∧ (∃ j ∈ (zeroing (.destroy .bands)).hm.jobs, j.hdr.part.toNat = 0 ∧ j.work = .destroy .bands)
      ∧ ({ noCtx with tiles := [(479, { Tile.clear with inReset := true })] }.tile 479).inReset = true
      ∧ noCtx.siteGood 479 = true ∧ noCtx.hm.jobs = [] ∧ noCtx.sec.erasing = false
      ∧ (noCtx.part 0).zeroing = false ∧ (noCtx.tile 479).inReset = false := by
  decide +kernel

/-- Partition 0 with context 0 on sites 17 and 18 and context 7 READY there. -/
def ctx7 : Ctxt := { ctx0 with state := .ready, onTiles := false }

/-- The device with both. -/
def two (p : Partn) : State := { dev with parts := [(0, p)], ctxs := [(0, ctx0), (7, ctx7)] }

/-- Partition 0 while a switch is under way. -/
def switching (w : Switch) : Partn := { part0 with running := some 0, switching := some w }

theorem wit_ContextSwitches_commands :
    (hdr 0 7 0).names 0 7 ∧ (hdr 0 0 0).names 0 0 ∧ dev.served 0x0203 (hdr 0 7 0) ∧ dev.partExists 0 = true
      ∧ (dev.ctx (ctxNo 0 7)).state = .none ∧ dev.overBudget 0 = false
      ∧ { dev with ctxs := [(7, { Ctxt.none with state := .idle })] }.served 0x0204 (hdr 0 7 0)
      ∧ { dev with ctxs := [(7, { Ctxt.none with state := .idle })] }.ctxExists 0 7 = true
      ∧ ({ dev with ctxs := [(7, { Ctxt.none with state := .idle })] }.ctx (ctxNo 0 7)).launched = false
      ∧ dev.circuitsEmpty 0 (some 7) = true ∧ dev.served 0x0205 (hdr 0 0 0) ∧ dev.ctxExists 0 0 = true
      ∧ (dev.ctx (ctxNo 0 0)).state = .running := by
  unfold CmdHdr.names State.served; decide +kernel

/-- Context 7 READY and nobody on the tiles. -/
def alone : State := { dev with parts := [(0, part0)], ctxs := [(7, ctx7)] }

theorem wit_ContextSwitches_ready :
    alone.served 0x0205 (hdr 0 7 0) ∧ alone.ctxExists 0 7 = true ∧ (alone.ctx (ctxNo 0 7)).state = .ready
      ∧ (alone.part 0).switching = none ∧ alone.switchHeld 0 = false ∧ alone.onTiles 0 = none := by
  unfold State.served; decide +kernel

/-- Partition 0 when the quantum of context 0 has run out to the count. -/
def expired : State :=
  { two { part0 with running := some 0, quantumRun := 50 } with clk := { dev.clk with tide := 5000000 } }

theorem wit_ContextSwitches_expiry :
    (expired.part 0).running = some 0 ∧ expired.quantumOver 0 = true ∧ (expired.part 0).switchDue = none
      ∧ expired.nextReady 0 0 = some 7 ∧ (expired.part 0).switching = none ∧ expired.switchHeld 0 = false
      ∧ expired.onTiles 0 = some 0 ∧ (expired.ctx (ctxNo 0 0)).sites.Nodup ∧ dev.quantumOver 0 = false
      ∧ (dev.part 0).switching = none ∧ (dev.part 0).switchDue = none := by
  decide +kernel

/-- The switch before its tiles are drained, and after the contexts have moved. -/
def moved : State := two (switching ⟨some 0, 7, some 0, some 4096⟩)

theorem wit_ContextSwitches_steps :
    let s := two (switching ⟨some 0, 7, none, none⟩)
    (s.part 0).switching = some ⟨some 0, 7, none, none⟩ ∧ (s.outgoingSites 0 ⟨some 0, 7, none, none⟩).Nodup
      ∧ s.outgoingSites 0 ⟨some 0, 7, none, none⟩ ≠ []
      ∧ (∀ i ∈ s.outgoingSites 0 ⟨some 0, 7, none, none⟩, issueStopped (s.tile i) = true ∧ tileIdle (s.tile i) = true)
      ∧ (moved.part 0).switching = some ⟨some 0, 7, some 0, some 4096⟩ ∧ (moved.ctx (ctxNo 0 7)).state = .ready
      ∧ (moved.ctx (ctxNo 0 7)).held = false ∧ 0 ≠ 7 ∧ (moved.ctx (ctxNo 0 0)).held = false ∧ moved.hm.jobs = []
      ∧ (moved.ctx (ctxNo 0 7)).sites.Nodup ∧ s.clk.quiescent = false ∧ s.takesControl 17 = true
      ∧ (∀ i ∈ s.outgoingSites 0 ⟨some 0, 7, none, none⟩, i < 480 ∧ s.routable s.harbourRouter i = true)
      ∧ moved.partHot 0 = false ∧ (∀ i ∈ (moved.ctx (ctxNo 0 7)).sites, (moved.tile i).chan.misses = [])
      ∧ (∀ i ∈ moved.partSites 0, moved.routable moved.harbourRouter i = true) := by
  decide +kernel

/-! ### Memory commands -/

/-- A copy of 256 bytes that ends a 4 KiB block at both ends. -/
def copy0 (dev : Nat) : CopyParams := ⟨0xF00, dev, 256, false, [], []⟩

/-- The last row of a block of site 18's scratchpad. -/
def farDev : Nat := tileWindow + 18 * tileWindowSize + 0xF00

theorem wit_MemoryCommands :
    (hdr 0 0xFF 0).namesPart 0 ∧ dev.partExists 0 = true ∧ dev.hm.jobs = [] ∧ dev.transfersHeld 0 = false
      ∧ (∀ a ∈ [0xF00, farDev], dev.targetOk 0 a 256 = true ∧ dev.targetOn a = true ∧ a % 4096 + 256 ≤ 4096)
      ∧ (dev.part 0).confidential = false ∧ dev.served 0x0300 (hdr 0 0xFF 0) ∧ dev.hm.reading = []
      ∧ dev.served 0x0301 (hdr 0 0xFF 0) ∧ dev.served 0x0302 (hdr 0 0xFF 0) := by
  unfold CmdHdr.namesPart State.served; decide +kernel

theorem wit_MemoryCommands_copyOut :
    let s1 := dev.begun.accept (dev.call 0x0301 (hdr 0 0xFF 0)) (.copyOut (copy0 farDev))
    (s1.getPiece 0 farDev 256).bytes.map List.length = some 256 ∧ (s1.getPiece 0 farDev 256).st.hm.jobs = s1.hm.jobs := by
  decide +kernel

theorem wit_MemoryCommands_fill :
    let r := (dev.begun.accept (dev.call 0x0302 (hdr 0 0xFF 0)) (.fill farDev 256 0x0102030405060708)).putPiece 0 farDev
      ((List.range 256).map (fun i => byteOf (0x0102030405060708 : Word).toNat (i % 8)))
    r.ok = true ∧ r.st.hm.jobs = [⟨hdr 0 0xFF 0, 0x0302, .fill farDev 256 0x0102030405060708, dev.hm.nextSerial⟩] := by
  decide +kernel

/-- The device with the logic of region 0 latched off, and no tile of the region good. -/
def darkRegion : State :=
  { dev with
    bring := { dev.bring with sites := (regionSites 0).map (fun n => (n, ⟨2, 6, none, 0⟩)) },
    pwr := { dev.pwr with rails := [(railVlog 0, { Rail.clear with short := true, off := true })] } }

theorem wit_MemoryCommands_salvage :
    darkRegion.served 0x0304 (hdr 0 0xFF 0) ∧ darkRegion.partExists 0 = true ∧ darkRegion.hm.jobs = []
      ∧ darkRegion.transfersHeld 0 = false ∧ 0 ∈ (darkRegion.part 0).regions ∧ (darkRegion.rail (railVlog 0)).off = true
      ∧ (darkRegion.rail (railVmem 0)).off = false ∧ (darkRegion.part 0).mapsRange 0 (24 * salvageBytes) = true
      ∧ (darkRegion.part 0).maps 0 = true
      ∧ (((List.range 24).zip (regionSites 0)).foldl (Salvage.tile 0 0) ⟨darkRegion.begun, 0, 0, true⟩).ok = true := by
  unfold State.served; decide +kernel

/-- The job of a COPY_IN that waits for its bytes. -/
def copyJob : Job := ⟨hdr 0 0xFF 0, 0x0300, .copyIn (copy0 farDev) 0 [], 0⟩

/-- The device while it waits. -/
def copying : State := { dev with hm := { dev.hm with jobs := [copyJob], reading := [(0xF00, 256)], nextSerial := 1 } }

/-- The device in LOADING with the fetch of an image under way. -/
def fetchingImage : State := { dev with bring := { dev.bring with phase := .loading, fetch := some ⟨[], 0x4000, false⟩ } }

theorem wit_DeviceReads_general :
    State.reset.regsServed = false ∧ fetchingImage.regsServed = true ∧ (ImageFetch.mk [] 0x4000 false).isOver = false
      ∧ (ImageFetch.mk [] 0x4000 true).isOver = true ∧ dev.regsServed = true ∧ dev.bring.fetch = none ∧ dev.hm.reading = []
      ∧ copying.hm.reading.find? (fun r => decide (r.1 = 0xF00)) = some (0xF00, 256)
      ∧ copying.hm.jobs.find? (fun j => decide (j.reads.map (fun r => r.1) = some 0xF00)) = some copyJob := by
  decide +kernel

theorem wit_DeviceReads :
    copying.regsServed = true ∧ copying.bring.fetch = none ∧ copying.hm.jobs = [copyJob]
      ∧ copyJob.work = .copyIn (copy0 farDev) 0 [] ∧ copying.hm.reading = [((copy0 farDev).host, (copy0 farDev).len)]
      ∧ (copy0 farDev).encrypted = false ∧ 0 < (copy0 farDev).len
      ∧ (copy0 farDev).host % 4096 + (copy0 farDev).len ≤ 4096 ∧ (copy0 farDev).dev % 4096 + (copy0 farDev).len ≤ 4096
      ∧ (zeroBytes 256).length = (copy0 farDev).len
      ∧ (({ copying with hm := { copying.hm with reading := [] } }).putPiece 0 farDev (zeroBytes 256)).ok = true
      ∧ (({ copying with hm := { copying.hm with reading := [] } }).putPiece 0 farDev (zeroBytes 256)).st.hm.jobs = [copyJob] := by
  decide +kernel

/-! ### Launches -/

/-- A plan of one tile, site 479, without its check. -/
def planHead : List Byte :=
  leBytes 0x574F5453 4 ++ leBytes 1 2 ++ leBytes 1 2 ++ leBytes 0 8 ++ leBytes 512 8 ++ leBytes 256 4 ++ leBytes 1 4 ++ zeroBytes 220

/-- Its placement record. -/
def planPlace : List Byte := leBytes 479 2 ++ zeroBytes 254

/-- The plan. -/
def planBytes : List Byte := planHead ++ leBytes (crc32c (planHead ++ zeroBytes 4 ++ planPlace)) 4 ++ planPlace

/-- Partition 0 whole, with an idle context 7 and the plan at address 0. -/
def idle7 : State :=
  { dev with
    parts := [(0, { part0 with c1 := 3, r1 := 4 })], ctxs := [(7, { Ctxt.none with state := .idle })],
    hbm := { dev.hbm with mem := Memory.writeBytes [] 0 planBytes } }

theorem wit_LaunchCommands_launch :
    (hdr 0 7 0).names 0 7 ∧ idle7.ctxExists 0 7 = true ∧ idle7.served 0x0400 (hdr 0 7 0)
      ∧ (idle7.part 0).confidential = false ∧ (idle7.ctx (ctxNo 0 7)).state = .idle := by
  unfold CmdHdr.names State.served; decide +kernel

set_option maxRecDepth 1000000 in
theorem wit_LaunchCommands_plan :
    let r := (idle7.begun.accept (idle7.call 0x0400 (hdr 0 7 0)) .launch).checkLaunch 0 7 0
    r.plan.isSome = true := by
  decide +kernel

/-- The same with nothing in memory. -/
def planless : State := { idle7 with hbm := dev.hbm }

theorem wit_LaunchCommands_noPlan :
    planless.ctxExists 0 7 = true ∧ planless.served 0x0400 (hdr 0 7 0) ∧ (planless.part 0).confidential = false
      ∧ (planless.ctx (ctxNo 0 7)).state = .idle
      ∧ ((planless.begun.accept (planless.call 0x0400 (hdr 0 7 0)) .launch).checkLaunch 0 7 256).plan.isNone = true := by
  unfold State.served; decide +kernel

/-- Context 0 paused on its tiles. -/
def paused : State :=
  { dev with parts := [(0, part0)], ctxs := [(0, { ctx0 with state := .paused, userPause := true })] }

theorem wit_LaunchCommands_states :
    alone.served 0x0401 (hdr 0 7 0) ∧ (alone.ctx (ctxNo 0 7)).state = .ready ∧ alone.inSwitch 0 7 = false
      ∧ alone.ctxExists 0 7 = true
      ∧ paused.served 0x0402 (hdr 0 0 0) ∧ (paused.ctx (ctxNo 0 0)).state = .paused ∧ (paused.ctx (ctxNo 0 0)).onTiles = true
      ∧ (paused.ctx (ctxNo 0 0)).heatPause = false ∧ (paused.part 0).switching = none ∧ paused.ctxExists 0 0 = true
      ∧ (paused.ctx (ctxNo 0 0)).sites.Nodup ∧ (∀ i ∈ (paused.ctx (ctxNo 0 0)).sites, (paused.tile i).chan.misses = [])
      ∧ dev.served 0x0403 (hdr 0 0 0) ∧ (dev.ctx (ctxNo 0 0)).state = .running ∧ (dev.ctx (ctxNo 0 0)).onTiles = true
      ∧ (dev.ctx (ctxNo 0 0)).ending = none ∧ (dev.ctx (ctxNo 0 0)).sites.Nodup := by
  unfold State.served; decide +kernel

/-- Partition 0 with a channel table of one FREE entry at address 0. -/
def tabled : State :=
  { dev with
    parts := [(0, { part0 with chCount := 1, running := some 0 })],
    hbm := { dev.hbm with mem := Memory.writeBytes [] 0 freeEntry } }

theorem wit_LaunchCommands_channels :
    (hdr 0 0xFF 0).namesPart 0 ∧ idle7.partExists 0 = true ∧ idle7.served 0x0404 (hdr 0 0xFF 0)
      ∧ (idle7.part 0).mapsRange 64 (64 * 65536) = true ∧ idle7.partLaunched 0 = false
      ∧ tabled.partExists 0 = true ∧ tabled.served 0x0405 (hdr 0 0xFF 0) ∧ (tabled.part 0).chCount ≠ 0
      ∧ 0 + 1 ≤ (tabled.part 0).chCount
      ∧ (let r := tabled.begun.readTable 0 (tabled.part 0).chBase 0 (tabled.part 0).chCount
        let named := namedEntries r.entries 0 1
        r.st.invalidateOk 0 r.entries named = true
          ∧ (r.st.partSites 0).all (fun i => named.all (fun y =>
              !invalidateBusy (r.st.tile i) (BitVec.ofNat 16 y.1))) = true) := by
  unfold CmdHdr.namesPart State.served; decide +kernel

/-- Context 0 LOADING the plan of sites 17 and 18. -/
def loading : State :=
  { dev with
    parts := [(0, { part0 with lastTenant := some 0 })],
    ctxs := [(0, { ctx0 with state := .loading, onTiles := false })] }

/-- Context 0 running with every tile halted. -/
def allHalted : State :=
  let t : Tile := { tile0 with seq := { tile0.seq with mode := .halted } }
  { dev with tiles := [(17, t), (18, t)] }

/-- Context 0 running and ended. -/
def ended : State := { dev with ctxs := [(0, { ctx0 with ending := some ⟨stOk, 0, 0xFFFF, true⟩ })] }

theorem wit_LaunchStartsAndEnds :
    (loading.ctx (ctxNo 0 0)).state = .loading ∧ (loading.ctx (ctxNo 0 0)).launch = some ⟨plan0, 0, 0, 0⟩
      ∧ (loading.ctx (ctxNo 0 0)).saved = [] ∧ loading.loadOpen 0 0 = true ∧ plan0.chans = [] ∧ plan0.circuits = []
      ∧ plan0.loads = [] ∧ loading.circuitsOk 0 0 [] = true ∧ loading.layoutKept 0 0 plan0 = true ∧ loading.tilesFree 0 = true
      ∧ (loading.part 0).lastTenant = some (loading.ctx (ctxNo 0 0)).tenant
      ∧ loading.clk.tide.toNat ≤ (0 : Word).toNat ∧ (plan0.places.map (fun r => r.site)).Nodup
      ∧ (allHalted.ctx (ctxNo 0 0)).state = .running ∧ (allHalted.ctx (ctxNo 0 0)).ending = none
      ∧ (allHalted.ctx (ctxNo 0 0)).onTiles = true
      ∧ (∀ i ∈ (allHalted.ctx (ctxNo 0 0)).sites, (allHalted.tile i).seq.mode = .halted)
      ∧ (allHalted.ctx (ctxNo 0 0)).sites.Nodup ∧ (allHalted.part 0).switching = none
      ∧ (allHalted.part 0).running = some 0 ∧ (allHalted.part 0).switchDue = none
      ∧ (∀ i, i < 8 → allHalted.ctxReady 0 i = false)
      ∧ loading.partHot 0 = false ∧ (loading.ctx (ctxNo 0 0)).heatPause = false ∧ (dev.ctx (ctxNo 0 0)).state ≠ .loading
      ∧ (dev.ctx 7).launched = false ∧ (ended.ctx 0).launched = true ∧ (ended.ctx 0).ending = some ⟨stOk, 0, 0xFFFF, true⟩ := by
  decide +kernel

/-! ### Slack water and the fabric -/

/-- The device with a scope in some state. -/
def inScope (k : Scope) (st : ScopeSt) (tide : Word) : State :=
  { dev with net := { dev.net with scopes := [⟨k, st, 10000000, false⟩] }, clk := { dev.clk with tide := tide } }

/-- The headers and scopes of the three codes. -/
def scopes3 : List (Nat × CmdHdr × Scope) :=
  [(0, hdr 255 255 0, .device), (1, hdr 0 255 0, .part 0), (2, hdr 0 0 0, .ctx 0 0)]

theorem wit_SlackWater :
    dev.partExists 0 = true ∧ dev.ctxExists 0 0 = true
      ∧ (∀ x ∈ scopes3, x.2.2 = scopeOf x.1 0 0 ∧ x.2.1.part.toNat = (if x.1 = 0 then 255 else 0)
        ∧ x.2.1.ctx.toNat = (if x.1 = 2 then 0 else 255) ∧ dev.served 0x0500 x.2.1
        ∧ (∀ r ∈ dev.net.scopes, scopesMeet r.scope x.2.2 = false)
        ∧ (inScope x.2.2 .draining 10000000).scopeSt x.2.2 = some ⟨x.2.2, .draining, 10000000, false⟩
        ∧ (10000000 : Word).toNat ≤ (inScope x.2.2 .draining 10000000).clk.tide.toNat
        ∧ (inScope x.2.2 .slack 0).served 0x0501 x.2.1
        ∧ (inScope x.2.2 .slack 0).scopeSt x.2.2 = some ⟨x.2.2, .slack, 10000000, false⟩) ∧ dev.hm.jobs = [] := by
  unfold State.served; decide +kernel

theorem wit_SlackWater_links :
    ∀ l, ((inScope .device .slack 0).link l).held = [] ∧ ((inScope .device .slack 0).link l).pool = [] := fun _ => ⟨rfl, rfl⟩

theorem wit_SlackWater_sites :
    (dev.scopeSites .device).Nodup ∧ ((inScope .device .slack 0).releaseSites .device).Nodup
      ∧ (dev.scopeSites (.part 0)).Nodup ∧ (dev.scopeSites (.ctx 0 0)).Nodup
      ∧ ((inScope (.part 0) .slack 0).releaseSites (.part 0)).Nodup
      ∧ ((inScope (.ctx 0 0) .slack 0).releaseSites (.ctx 0 0)).Nodup
      ∧ (∀ i ∈ dev.scopeSites .device, i < 480 ∧ dev.routable dev.harbourRouter i = true) :=
  ⟨List.nodup_range, List.nodup_range, by decide +kernel, by decide +kernel, by decide +kernel, by decide +kernel,
    fun i h => ⟨List.mem_range.mp h, by
      have b : ∀ m, dev.bypassed m = false := fun _ => rfl
      simp [State.routable, b]⟩⟩

/-- The device draining, with every tile stopped, or all but one. -/
def drainedDev (all : Bool) : State :=
  let s := inScope (.ctx 0 0) .draining 0
  { s with tiles := [(17, { tile0 with stopped := some 0, outst := if all then [] else [⟨blankPacket, 1, 0, 0, .move, 20⟩] }),
      (18, { tile0 with stopped := some 0 })] }

theorem wit_SlackWater_drained :
    (drainedDev true).drained (.ctx 0 0) = true ∧ (drainedDev false).drained (.ctx 0 0) = false := by decide +kernel

/-- The device with licences for the greatest torus and for a pair, in device SLACK. -/
def licensed (k : Scope) : State :=
  let s := inScope k .slack 0
  { s with bring := { s.bring with licences := [(0, 32768), (1, 1)] }, ctxs := [(0, { ctx0 with state := .idle })] }

/-- The greatest torus. -/
def torus : RouteParams := ⟨0, 0, 31, 31, 31, 15, 0, 0, 0⟩

/-- A circuit record from the tile port of site 17 to port 2. -/
def circ0 : CircuitRec := ⟨17, 255, 0x8000000000000204, 0x2⟩

theorem wit_FabricCommands :
    (hdr 0xFF 0xFF 0).bare ∧ (hdr 0 0 0).names 0 0
      ∧ (∀ op ∈ [0x0502, 0x0504, 0x0505], (licensed .device).served op (hdr 0xFF 0xFF 0))
      ∧ (licensed .device).routesOk torus = true ∧ routeDevices torus ≤ max 1 ((licensed .device).licence 0)
      ∧ (licensed .device).inSlack .device = true ∧ 0 < (licensed .device).licence 1
      ∧ (licensed .device).facts.linkDies = 8 ∧ (licensed .device).anyRunning = false
      ∧ (∀ k ∈ [Scope.device, .part 0, .ctx 0 0], (licensed k).served 0x0503 (hdr 0 0 0) ∧ (licensed k).ctxExists 0 0 = true
        ∧ (licensed k).circuitsOk 0 0 [circ0] = true ∧ (licensed k).circuitForeign 0 circ0 = false
        ∧ (licensed k).circuitsCovered 0 0 [circ0] = true) ∧ circ0.site < 480 ∧ circ0.entry < 256 := by
  unfold CmdHdr.bare CmdHdr.names State.served; decide +kernel

end Sys2Proof.Tests
end

