-- ==== Sys2Proof/Tests/WitnessDevice.lean ====
section
/-! SUPPORT. States and operands that meet the hypotheses of the statements about power, integrity, security and debug
commands and about the host's side, clause by clause. -/

set_option Elab.async false

open Sys2Proof Sys2Proof.Machine

namespace Sys2Proof.Tests

/-! ### Power, integrity, security and debug commands -/

theorem wit_PowerCommands :
    (hdr 0xFF 0xFF 0).bare ∧ (∀ op ∈ [0x0600, 0x0601, 0x0603, 0x0604], dev.served op (hdr 0xFF 0xFF 0))
      ∧ (∀ n ∈ namedCtxs 1, (dev.ctx n).state ≠ .none) ∧ namedCtxs 1 = [0]
      ∧ (hdr 0 0xFF 0).namesPart 0 ∧ dev.partExists 0 = true ∧ dev.served 0x0602 (hdr 0 0xFF 0) := by
  unfold CmdHdr.bare CmdHdr.namesPart State.served; decide +kernel

/-- The device with nothing running and site 17 the only good tile of its region. -/
def tested : State :=
  { dev with
    bring := { dev.bring with sites := ((regionSites 0).filter (fun n => n ≠ 17)).map (fun n => (n, ⟨2, 6, none, 0⟩)) },
    ctxs := [(0, { ctx0 with state := .ready, onTiles := false })] }

theorem wit_IntegrityCommands :
    (hdr 0 0xFF 0).namesPart 0 ∧ dev.served 0x0700 (hdr 0 0xFF 0) ∧ dev.partExists 0 = true
      ∧ tested.served 0x0701 (hdr 0xFF 0xFF 0) ∧ tested.stressSites 1 = [17] ∧ 64 < tested.serviceBin 17
      ∧ (∀ n, n < 160 → (tested.ctx n).state ≠ .running)
      ∧ tested.stressing = false ∧ (hdr 0xFF 0xFF 0).bare
      ∧ dev.served 0x0702 (hdr 0xFF 0xFF 0) ∧ dev.siteGood 479 = true := by
  unfold CmdHdr.namesPart CmdHdr.bare State.served; decide +kernel

/-- A stress test in its rounds: site 16 has passed, 17 is to fail once, and 18 has failed and is to fail again. -/
def rounds : Stress := ⟨[16, 17, 18], [16, 17, 18], [18], [(17, 1), (18, 2)], 90, [], 64, 0, .heating⟩

theorem wit_IntegrityCommands_rounds :
    16 ∈ rounds.left ∧ rounds.failsOf 16 = 0 ∧ 16 ∉ rounds.failed
      ∧ 17 ∈ rounds.left ∧ 0 < rounds.failsOf 17 ∧ 17 ∉ rounds.failed ∧ 64 < tested.serviceBin 17
      ∧ 18 ∈ rounds.left ∧ 1 < rounds.failsOf 18 ∧ 18 ∈ rounds.failed ∧ noCtx.usersOf 18 = []
      ∧ noCtx.faults.unhandled < 64 := by
  decide +kernel

/-- The device with partition 0 confidential, a session and licence 3. -/
def confidentialDev (running : Bool) : State :=
  { dev with
    parts := [(0, { part0 with confidential := true })], bring := { dev.bring with licences := [(3, 1)] },
    sec := { dev.sec with session := some 0 }, ctxs := if running then [(0, ctx0)] else [] }

theorem wit_SecurityCommands :
    (∀ op ∈ [0x0800, 0x0803, 0x0804], dev.served op (hdr 0xFF 0xFF 0)) ∧ (zeroBytes 32).length = 32
      ∧ dev.alarmFloor 6 ≤ 2 ∧ 0 < dev.alarmFloor 6 ∧ dev.facts.fuses.terminalEn = false := by
  unfold State.served; decide +kernel

theorem wit_SecurityCommands_keys :
    (∀ r, (confidentialDev r).partExists 0 = true ∧ (confidentialDev r).served 0x0801 (hdr 0 0xFF 0)
      ∧ ((confidentialDev r).part 0).confidential = true ∧ 0 < (confidentialDev r).licence 3
      ∧ (confidentialDev r).unwrapKey 0 1 (zeroBytes 1) = none ∧ (confidentialDev r).faults.unhandled < 64
      ∧ (confidentialDev r).unwrapWindow.length < 15)
      ∧ (confidentialDev false).partLaunched 0 = false ∧ (confidentialDev false).served 0x0802 (hdr 0 0xFF 0)
      ∧ (∀ n ∈ ctxsOf 0, ((confidentialDev false).ctx n).launched = false) := by
  unfold State.served; decide +kernel

theorem hash_length (s : State) : s.sessionHash.length = 48 := by
  simp [State.sessionHash, fitBytes, zeroBytes]

/-- The first bytes of an envelope for the transfer key of partition 0. -/
def envHead : List Byte := leBytes 0x594B5453 4 ++ leBytes 1 2 ++ leBytes 1 1 ++ leBytes 0 1

theorem head_field (x : List Byte) (o n : Nat) (h : o + n ≤ 8) : fieldBytes (envHead ++ x) o n = fieldBytes envHead o n := by
  have e : envHead.length = 8 := by decide +kernel
  unfold fieldBytes
  rw [List.drop_append_of_le_length (by omega), List.take_append_of_le_length (by simp; omega)]

theorem envelope_ok (s : State) (hs : s.sec.session.isSome = true) :
    s.envelopeOk 0 1 (envHead ++ (s.sessionHash ++ zeroBytes 2020)) = true := by
  have e : envHead.length = 8 := by decide +kernel
  have hl := hash_length s
  simp only [State.envelopeOk, Bool.and_eq_true, decide_eq_true_eq]
  refine ⟨⟨⟨⟨⟨⟨⟨?_, ?_⟩, ?_⟩, ?_⟩, ?_⟩, ?_⟩, hs⟩, ?_⟩
  · simp only [List.length_append, e, hl, zeroBytes, List.length_replicate]; rfl
  · rw [head_field _ _ _ (by omega)]; decide +kernel
  · rw [head_field _ _ _ (by omega)]; decide +kernel
  · rw [head_field _ _ _ (by omega)]; decide +kernel
  · rw [head_field _ _ _ (by omega)]; decide +kernel
  · have d : (envHead ++ (s.sessionHash ++ zeroBytes 2020)).drop 56 = zeroBytes 2020 := by
      rw [← List.append_assoc, List.drop_left' (by simp [e, hl])]
    simp only [allZero, d]; decide +kernel
  · rw [List.drop_left' e, List.take_left' hl]
/-- An envelope for the transfer key that passes step 1 of R478: what the cryptography answers alone decides whether a key
unwraps, and both clauses of the statement cover it. -/
theorem wit_SecurityCommands_unwrap :
    let s := confidentialDev false
    s.unwrapKey 0 1 (envHead ++ (s.sessionHash ++ zeroBytes 2020))
      = Config.openEnvelope 0 (envHead ++ (s.sessionHash ++ zeroBytes 2020)) := by
  intro s
  unfold State.unwrapKey
  rw [if_pos (envelope_ok s rfl)]
  rfl

theorem wit_DebugCommands :
    (hdr 0 0 0).names 0 0 ∧ dev.ctxExists 0 0 = true ∧ dev.served 0x0900 (hdr 0 0 0) ∧ (dev.part 0).confidential = false
      ∧ dev.served 0x0903 (hdr 0 0 0) ∧ (dev.ctx (ctxNo 0 0)).debug = true ∧ (dev.ctx (ctxNo 0 0)).trace = none
      ∧ ({ dev with ctxs := [(0, { ctx0 with trace := some ⟨31, 0, 16, 0⟩ })] }.ctx (ctxNo 0 0)).trace = some ⟨31, 0, 16, 0⟩
      ∧ (∀ op ∈ [0x0901, 0x0902, 0x0A00, 0x0A01], dev.served op (hdr 0xFF 0xFF 0)) ∧ dev.siteGood 17 = true
      ∧ (on tile0).debugOnSite 17 = true ∧ (on tile0).debugOnSite 479 = false ∧ dev.usersOf 479 = []
      ∧ (dev.siteRec 479).status = 0
      ∧ ({ dev with bring := { dev.bring with sites := [(479, ⟨3, 7, none, 0⟩)] } }.siteRec 479).status = 3
      ∧ 76 ≤ dev.serviceBin 17 ∧ dev.faults.unhandled < 64 := by
  unfold CmdHdr.names State.served; decide +kernel

/-! ### The host's side -/

/-- A command packet of 64 bytes. -/
def cmdPkt (op flags : Nat) : List Byte :=
  leBytes op 2 ++ leBytes 7 2 ++ leBytes 64 2 ++ leBytes flags 1 ++ leBytes 0xFF 1 ++ leBytes 0xFF 1 ++ zeroBytes 55

/-- The device with a packet in intake. -/
def intaking (op flags : Nat) : State := { ringed 1 with hm := { dev.hm with intake := [IntakePkt.mk (cmdPkt op flags)] } }

/-- The device with the reply ring off. -/
def ringless : State := { dev with uci := { dev.uci with enable := false } }

theorem wit_HostWindow_write :
    (ringed 1).windowCarries 3 false (cmdPkt 0 0).length = true ∧ (ringed 1).intakeTakes (cmdPkt 0 0) = true
      ∧ State.reset.windowCarries 3 false (cmdPkt 0 0).length = false
      ∧ ringless.windowCarries 3 false (cmdPkt 0 0).length = true ∧ ringless.intakeTakes (cmdPkt 0 0) = false := by
  decide +kernel

theorem wit_HostWindow_take :
    (intaking 1 0).canTake = true ∧ packetBytesOk (cmdPkt 1 0) 1 = true ∧ (packetHdr (cmdPkt 1 0)).flags.toNat < 4
      ∧ packetBytesOk (cmdPkt 0x0206 0 ++ leBytes 1 8) 0x0206 = false ∧ 4 ≤ (packetHdr (cmdPkt 1 4)).flags.toNat
      ∧ (∀ r, packetCmd (cmdPkt 1 0) (packetHdr (cmdPkt 1 0)) r 1 = some (.status (packetHdr (cmdPkt 1 0))))
      ∧ (∀ r, packetCmd (cmdPkt 0x0FFF 0) (packetHdr (cmdPkt 0x0FFF 0)) r 0x0FFF = none)
      ∧ packetBytesOk (cmdPkt 0x0FFF 0) 0x0FFF = true :=
  ⟨by decide +kernel, by decide +kernel, by decide +kernel, by decide +kernel, by decide +kernel, fun _ => rfl, fun _ => rfl,
    by decide +kernel⟩

/-- The ring with a record in the backlog, and with an interrupt due. -/
def backlogged (consumer : Nat) : State := { ringed consumer with uci := { (ringed consumer).uci with backlog := [recOf 39] } }

/-- An interrupt that was sent at count 0 and is due again after 1 µs. -/
def interrupting (tide : Word) : State :=
  { dev with
    uci := { dev.uci with irqDue := true, irqEnable := true, moderation := 1, irqAt := some 0 }, clk := { dev.clk with tide := tide } }

theorem wit_HostWindow_records :
    (backlogged 1).uci.backlog = recOf 39 :: [] ∧ (backlogged 1).hm.silent = false ∧ (backlogged 1).ringTakes (recOf 39) = true
      ∧ (backlogged 15).hm.silent = false ∧ (backlogged 0).ringTakes (recOf 39) = false
      ∧ (interrupting 100).uci.irqDue = true ∧ (interrupting 100).uci.irqEnable = true ∧ (interrupting 100).moderated = true
      ∧ (interrupting 99).moderated = false ∧ dev.hm.intake = [] ∧ dev.uci.backlog = [] ∧ dev.uci.irqDue = false := by
  decide +kernel

/-- A transaction of module 3 at an address. -/
def tx (a : Nat) : HostTx := { module := 3, addr := a, part := 0, ctx := 0xFF, tag := 7, sideband := false }

/-- A transaction of module 3 under way. -/
def pend3 (w : Bool) : HostPend := ⟨3, 7, 0, 20, w, 1, []⟩

/-- The device with it. -/
def onPend (w : Bool) (tide : Word) : State :=
  { dev with uci := { dev.uci with pend := [pend3 w] }, clk := { dev.clk with tide := tide } }

theorem wit_HostTransactions :
    dev.carries (tx (devBase + 0xFF8)) 8 = true ∧ hostArea (devBase + 0xFF8) = .device 0xFF8
      ∧ (devBase + 0xFF8) % 8 = 0 ∧ dev.carries (tx 0x300000010FF8) 8 = true ∧ hostArea 0x300000010FF8 = .unmapped
      ∧ hostArea 0x300000000000 = .window ∧ dev.carries (tx 0x300000000000) 4096 = true
      ∧ dev.carries (tx 0xFFF) 1 = true ∧ hostArea 0xFFF = .memory ∧ dev.bring.published = true ∧ (tx 0).part.toNat < 20
      ∧ (dev.part 0).valid = true ∧ dev.routable (ucieRouter 3) ((dev.part 0).edge 0xFFF).1 = true
      ∧ { dev with bring := { dev.bring with published := false } }.carries (tx 0xFFF) 1 = true
      ∧ (∀ w, (onPend w 65536).uci.pend = [] ++ pend3 w :: [] ∧ (onPend w 65536).txExpired (pend3 w) = true
        ∧ (onPend w 65535).txExpired (pend3 w) = false) := by
  decide +kernel

/-- The address of tile 479's last register, and of the last word of its router. -/
def lastTs : Nat := tileWindow + 479 * tileWindowSize + 0x7F08FF8
/-- Likewise. -/
def lastNet : Nat := devBase + 0x1000000 + 479 * 0x10000 + 0xFFF8

/-- The device with the router at site 479 bypassed. -/
def bypassing : State := { dev with net := { dev.net with routers := [(479, { Router.clear with bypassed := true })] } }

theorem wit_HostTransactions_windows :
    dev.carries (tx lastTs) 8 = true ∧ hostArea lastTs = .tile 479 ∧ windowOff 479 lastTs = 0x7F08FF8 ∧ lastTs % 8 = 0
      ∧ dev.routable (ucieRouter 3) 479 = true ∧ dev.carries (tx lastNet) 8 = true ∧ hostArea lastNet = .router 479 0xFFF8
      ∧ lastNet % 8 = 0 ∧ dev.bypassed 479 = false ∧ bypassing.bypassed 479 = true ∧ bypassing.bring.published = true
      ∧ dev.carries (tx (devBase + 1)) 4 = true ∧ hostArea (devBase + 1) = .device 1 ∧ (devBase + 1) % 8 ≠ 0
      ∧ State.reset.carries (tx 0) 8 = false := by
  decide +kernel

/-- A HOST read of the last byte of site 17's scratchpad. -/
def hostRead17 : Packet :=
  { blankPacket with
    typ := tyHost, dport := 4, dsite := 17, ssite := 473, len := 1, aux := 0x10030007,
    addr := BitVec.ofNat 48 (tileWindow + 17 * tileWindowSize + 0x6FFFFFF) }

/-- The answer to a transaction at module 3. -/
def hostAnswer3 : Packet := { blankPacket with typ := tyHost, dport := 5, dsite := 473, aux := 0x20030007, payload := [1] }

/-- The device with partition 0 confidential and a tile. -/
def hidden : State := { on tile0 with parts := [(0, { part0 with confidential := true, running := some 0 })] }

theorem wit_HostPackets_read :
    (on tile0).meshOn = true ∧ hostRead17.typ = tyHost ∧ hostRead17.dport = 4 ∧ hostKind hostRead17 = 1
      ∧ (on tile0).tileRefusal 17 hostRead17 = none ∧ (on tile0).vlogOn (regionOf 17) = true
      ∧ (on tile0).bring.published = true ∧ (on tile0).partOfSite 17 = some 0
      ∧ windowOff 17 hostRead17.addr.toNat + hostRead17.len.toNat ≤ 0x7000000 ∧ ((on tile0).part 0).confidential = false
      ∧ hidden.meshOn = true ∧ hidden.tileRefusal 17 hostRead17 = none ∧ hidden.vlogOn (regionOf 17) = true
      ∧ hidden.partOfSite 17 = some 0 ∧ (hidden.part 0).confidential = true ∧ hidden.faults.unhandled < 64 := by
  decide +kernel

/-- A HOST packet of kind `k` to partition 0's memory at stack 0. -/
def hostMem (k : Nat) : Packet :=
  { blankPacket with
    typ := tyHost, dport := 5, dsite := 0, ssite := 473, len := 32, aux := BitVec.ofNat 32 (k * 2 ^ 28), addr := 0xF00,
    payload := if k = 0 then zeroBytes 32 else [] }

theorem wit_HostPackets_memory :
    attachAt 0 5 = .hbm 0 ∧ dev.alarmedMemory = false ∧ (dev.part 0).confidential = false
      ∧ dev.hbmRefuses (dev.part 0) 0xF00 = none ∧ dev.hbm.errs = [] ∧ ((dev.part 0).acc 0xF00).off % 32 = 0
      ∧ dev.hbm.keyed = [] ∧ ((dev.part 0).acc 0xF00).key = none
      ∧ (∀ k ∈ [0, 1], hostKind (hostMem k) = k ∧ (atStack (hostMem k)).nextAt 0 5 (hostMem k) = true) := by
  decide +kernel

/-- A HOST write of one byte to the last row of slab 3 of site 17. -/
def hostWrite17 : Packet :=
  { blankPacket with
    typ := tyHost, dport := 4, dsite := 17, ssite := 473, aux := 0x00030007, payload := [1],
    addr := BitVec.ofNat 48 (tileWindow + 17 * tileWindowSize + 0x1FFFF) }

theorem wit_HostPackets_tile :
    hostKind hostWrite17 = 0 ∧ (on tile0).tileRefusal 17 hostWrite17 = none
      ∧ windowOff 17 hostWrite17.addr.toNat = 0x1FFFF ∧ partRowsBad tile0 0x1FFFF 1 = false
      ∧ (on tile0).hostWriteClosed 17 hostWrite17.ctx.toNat (0x1FFFF / 256) (0x1FFFF / 256) = 0
      ∧ tile0.spad.parityHit 0x6FFFFFF 1 = false ∧ ((on tile0).envOf 17).debug = true
      ∧ (∀ off ∈ [0x71FFFFF, 0x7437FFF, 0x7F08FF8],
        windowOff 17 (tileWindow + 17 * tileWindowSize + off) = off) := by
  decide +kernel

/-- An answer to an MGMT packet at module 3. -/
def mgmtAnswer3 (w : Bool) : Packet :=
  { blankPacket with
    typ := tyMgmt, dport := 5, dsite := 473, aux := if w then 0x80030007 else 0x00030007, payload := if w then [] else zeroBytes 8 }

theorem wit_HostPackets_mgmt_answer :
    ∀ w, (pend3 w).tag = hostTag (mgmtAnswer3 w) ∧ bitOf (mgmtAnswer3 w).aux.toNat 31 = (pend3 w).isWrite
      ∧ (onPend w 0).bypassed 473 = false := by
  decide +kernel

theorem wit_HostPackets_answer :
    473 = ucieRouter 3 ∧ hostAnswer3.typ = tyHost ∧ hostAnswer3.dport = 5 ∧ hostKind hostAnswer3 = 2
      ∧ (onPend false 0).meshOn = true ∧ (onPend false 0).uci.pend = [pend3 false] ∧ (pend3 false).module = 3
      ∧ (pend3 false).tag = hostTag hostAnswer3 ∧ (pend3 false).isWrite = false ∧ (pend3 false).due = 1
      ∧ (pend3 false).parts = [] ∧ bitsOf hostAnswer3.aux.toNat 24 4 = hsOk := by
  decide +kernel

theorem wit_HostPackets_mgmt :
    ({ blankPacket with typ := tyMgmt, dport := 4 } : Packet).typ = tyMgmt ∧ dev.bypassed 479 = false
      ∧ bitOf ({ blankPacket with typ := tyMgmt, aux := 0x80000000 } : Packet).aux.toNat 31 = true
      ∧ bitOf ({ blankPacket with typ := tyMgmt } : Packet).aux.toNat 31 = false
      ∧ ({ blankPacket with typ := tyMgmt } : Packet).addr = 0 := by
  decide +kernel

/-- A device in IDENT, with its mainband trained or not. -/
def identified (mb : Bool) : State := { dev with bring := { dev.bring with phase := .ident, mainband := mb } }

theorem wit_Registers_boot :
    (∀ b, (identified b).regsServed = true ∧ (identified b).bootOpen = true ∧ (identified b).bring.mainband = b)
      ∧ (identified true).modulesUp ≠ [] ∧ dev.regsServed = true ∧ dev.bootOpen = false ∧ dev.faults.unhandled < 64 := by
  decide +kernel

/-- The device with the ring on. -/
def ringOn : State := { dev with uci := { dev.uci with ringBase := 1, sizeLog2 := 6 } }

theorem wit_Registers_others :
    ringOn.uci.enable = true ∧ (0x1006 : Word).toNat / 4096 = ringOn.uci.ringBase
      ∧ bitsOf (0x1006 : Word).toNat 0 5 = ringOn.uci.sizeLog2 ∧ (identified true).bootOpen = true
      ∧ (0x1008 : Word).toNat % 4096 ≠ 0 ∧ State.reset.tileOn 17 = false := by
  decide +kernel

theorem wit_Registers_pointer : (0xFFFFFFFFFFFFF000 : Word).toNat % 4096 = 0 ∧ (0xFFFFFFFFFFFFF000 : Word) ≠ 0 := by decide

theorem wit_Registers :
    ringless.regsServed = true ∧ ringless.uci.enable = false
      ∧ 6 ≤ bitsOf (0x1026 : Word).toNat 0 5 ∧ bitOf (0x1026 : Word).toNat 5 = true
      ∧ bitsOf (0x1030 : Word).toNat 0 5 ≤ 16 ∧ bitOf (0x1030 : Word).toNat 5 = true
      ∧ (on tile0).tileOn 17 = true ∧ (on tile0).regsServed = true := by
  decide +kernel

/-- A device whose mainband trains. -/
def training : State :=
  { dev with bring := { dev.bring with phase := .loading, mainband := false, bootPtr := 0x1000 } }

/-- The device with module 3 alone in service. -/
def lastModule : State :=
  { dev with uci := { dev.uci with modules := [(3, { UciModule.clear with state := .up })] } }

theorem wit_Modules :
    (dev.uciModule 3).state.inService = true ∧ dev.faults.unhandled < 64 ∧ (dev.uciModule 0).state.inService = true
      ∧ training.bring.phase = .loading ∧ training.bring.mainband = false
      ∧ [ModuleTrain.mk false 0 0, ⟨false, 0, 0⟩, ⟨false, 0, 0⟩, ⟨true, 3, 255⟩].length = 4
      ∧ (∃ t ∈ [ModuleTrain.mk false 0 0, ⟨false, 0, 0⟩, ⟨false, 0, 0⟩, ⟨true, 3, 255⟩], t.ok = true)
      ∧ dev.regsServed = true ∧ dev.bring.phase ≠ .alarmed ∧ (State.reset.uciModule 0).state.inService = false
      ∧ State.reset.regsServed = false ∧ dev.bring.phase ≠ .loading
      ∧ (∀ m', m' < 4 → m' ≠ 3 → (lastModule.uciModule m').state.inService = false)
      ∧ (lastModule.uciModule 3).state.inService = true ∧ lastModule.hm.silent = false
      ∧ lastModule.faults.mergeAt lastModule.clk.tide (plainNote 4 0x0902) = none := by
  decide +kernel

end Sys2Proof.Tests
end

