-- ==== Sys2Proof/Tests/WitnessBoard.lean ====
section
/-! SUPPORT. States and operands that meet the hypotheses of the statements about links, the clock, supplies, heat, alarms,
faults, bring-up and the management bus, clause by clause. -/

set_option Elab.async false

open Sys2Proof Sys2Proof.Machine

namespace Sys2Proof.Tests

/-! ### Links, neighbours and collectors -/

/-- The device with a link die in some state. -/
def onLink (l : Nat) (x : Link) : State := { dev with fab := { dev.fab with links := [(l, x)] } }

/-- A flit without bytes, with its check. -/
def flitOf (tag n : BitVec 16) (bad : Bool) : LinkFlit := ⟨[], tag, n, lcrcOf [] tag n, true, [], bad⟩

theorem wit_Links_training :
    ((onLink 7 (Link.fresh .training)).link 7).state = .training
      ∧ trainMode ⟨[false, false, false, false, true], 40⟩ = some (1, 2)
      ∧ trainMode ⟨[false, false, false, false, false], 40⟩ = none ∧ dev.faults.unhandled < 63
      ∧ ((onLink 7 (Link.fresh .retraining)).link 7).state = .retraining
      ∧ ((onLink 0 (Link.fresh .up)).link 0).carries = true
      ∧ (RetrainResult.mk true false ⟨[false, false, false, false, true], 40⟩).lockLost = true
      ∧ ((onLink 7 (Link.fresh .up)).link 7).state = .up ∧ ((onLink 0 (Link.fresh .idle)).link 0).state = .idle
      ∧ ((onLink 7 (Link.fresh .down)).link 7).state ≠ .up ∧ ((onLink 7 (Link.fresh .down)).link 7).state ≠ .idle := by
  decide +kernel

/-- A link die that has asked for replay of one LSEQ so often. -/
def asked (n : Nat) : Link := { Link.fresh .up with askReplay := decide (0 < n), asks := n }

theorem wit_Links_bad :
    dev.flitBad (flitOf 0x1000 0 true) = true ∧ (asked 7).asks < 8 ∧ 8 ≤ (asked 8).asks
      ∧ dev.flitBad (flitOf 0x1000 1 false) = false ∧ tagClass (flitOf 0x1000 1 false).tag ≠ 3
      ∧ (flitOf 0x1000 1 false).lseq ≠ (asked 0).rxSeq ∧ (asked 0).askReplay = false ∧ (asked 1).askReplay = true
      ∧ tagClass (flitOf 0xD800 0 false).tag = 3 := by
  decide +kernel

/-- The device with link 0 UP, in device SLACK or not, of route generation `g`. -/
def receiving0 (g : BitVec 4) (slack : Bool) (x : Link) : State :=
  let s : State := if slack then inScope .device .slack 0 else dev
  { s with fab := { s.fab with links := [(0, x)], rgen := g } }

theorem wit_Links_free :
    let p := parsePacket []
    dev.flitBad (flitOf 0x1800 0 false) = false ∧ tagClass (flitOf 0x1000 0 false).tag = 0
      ∧ tagTail (flitOf 0x1000 0 false).tag = false ∧ tagTail (flitOf 0x1800 0 false).tag = true
      ∧ tagHead (flitOf 0x1800 0 false).tag = true ∧ p.rgen ≠ (receiving0 1 false (asked 0)).fab.rgen
      ∧ p.rgen = (receiving0 0 true (asked 0)).fab.rgen ∧ (receiving0 0 true (asked 0)).inSlack .device = true
      ∧ p.rgen = (receiving0 0 false (asked 0)).fab.rgen ∧ p.fab = false ∧ (asked 0).held = []
      ∧ (receiving0 0 false (asked 0)).mayGoOn 0 p = true ∧ dev.bring.phase ≠ .alarmed := by
  decide +kernel

/-- The device with circuit 255 from the link die's upper router, so many flits in its buffer. -/
def crossed (n : Nat) : State :=
  let s := receiving0 0 false (asked 0)
  { s with net := { s.net with routers := [(linkRouter 0 1,
      { Router.clear with circuits := [(255, 0x8000000000000284)], buffers := [(255, List.replicate n flit0)] })] } }

theorem wit_Links_circuit :
    tagClass (flitOf 0x58FF 0 false).tag = 1 ∧ tagCirc (flitOf 0x58FF 0 false).tag = 255 ∧ (flitOf 0x58FF 0 false).upper = true
      ∧ (crossed 0).inSlack .device = false ∧ (crossed 0).meshOn = true ∧ SMap.get [] ((crossed 0).link 0).pool 255 = []
      ∧ bitOf (SMap.get 0 ((crossed 0).router (linkRouter 0 1)).circuits 255).toNat 63 = true
      ∧ ((crossed 1).router (linkRouter 0 1)).entryFlits 255 < 2 ∧ 2 ≤ ((crossed 2).router (linkRouter 0 1)).entryFlits 255 := by
  decide +kernel

/-- A flit to send, by its LSEQ. -/
def tx0 (n : BitVec 16) : TxFlit := ⟨[], 0x1800, n, true, 255⟩

/-- A link die with two flits not acknowledged, and one that waits or none. -/
def sent2 (waits : Bool) : Link :=
  { Link.fresh .up with txSeq := 1, position := 30, unacked := [tx0 0xFFFF, tx0 0], queue := if waits then [tx0 0] else [] }

theorem wit_Links_control :
    let c : LinkControl := ⟨controlTag, true, 0xFFFF, none, [1, 0], []⟩
    tagClass c.tag = 3 ∧ ((onLink 7 (sent2 false)).link 7).state = .up ∧ ((onLink 7 (sent2 false)).link 7).queue = []
      ∧ dropAcked c.ack (sent2 false).unacked = [tx0 0]
      ∧ (dropAcked c.ack (sent2 false).unacked).dropWhile (fun f => decide (f.lseq ≠ 0)) = [tx0 0]
      ∧ (sent2 false).timesAsked 0 ≤ 8 ∧ (sent2 false).position ≠ 0 ∧ (sent2 false).position + [tx0 0].length ≤ 32
      ∧ 8 < ({ sent2 false with replayed := some (0, 8) } : Link).timesAsked 0
      ∧ (sent2 true).queue = [tx0 0] ∧ [tx0 0].length < 4096 ∧ ((sent2 true).hearCredits c).hasCredit (tx0 0) = true := by
  decide +kernel

/-- The device as the lower of two in X, with its link 0. -/
def neighbourOf (x : Link) : State := { onLink 0 x with fab := { (onLink 0 x).fab with sx := 2, parent := some 0 } }

/-- It, with nothing running, and the tide not locked. -/
def unlocked : State := { neighbourOf (Link.fresh .up) with ctxs := [] }

theorem wit_NeighboursAndBeacons :
    ((neighbourOf (Link.fresh .up)).link 0).state = .up ∧ (neighbourOf (Link.fresh .up)).fab.expects 0 = some 0x400
      ∧ (neighbourOf (Link.fresh .up)).fab.expects 0 ≠ some 2 ∧ (neighbourOf (Link.fresh .up)).faults.unhandled < 64
      ∧ (unlocked.link 0).state = .up ∧ unlocked.fab.parent = some 0 ∧ unlocked.fab.beaconed = false
      ∧ unlocked.fab.locked = false ∧ unlocked.anyRunning = false
      ∧ { unlocked with fab := { unlocked.fab with beaconed := true } }.fab.beaconed = true
      ∧ { unlocked with fab := { unlocked.fab with missed := 4 } }.fab.missed = 4
      ∧ ((neighbourOf (Link.fresh .idle)).link 0).state = .idle
      ∧ ((neighbourOf (Link.fresh .miswired)).link 0).state = .miswired ∧ unlocked.fab.parent ≠ some 5
      ∧ (neighbourOf (Link.fresh .up)).anyRunning = true := by
  decide +kernel

/-- A STEP_SEQ that both tiles of context 0 have reported, or only one when its timeout has run. -/
def collect (both : Bool) : Collect := ⟨5, 0, 0, if both then [(17, []), (18, [])] else [(17, [])], 0, 20⟩

/-- The device with it. -/
def collecting (both : Bool) : State :=
  { dev with fab := { dev.fab with collects := [collect both], records := [⟨1, 9, 0, 20⟩] }, clk := { dev.clk with tide := 65536 } }

theorem wit_CollectorsAndPilots :
    (∀ b, (collecting b).fab.collects = collect b :: [] ∧ (collecting b).fab.exportA = false
      ∧ (collecting b).fab.exportB = false ∧ (collecting b).waitedOut 0 20 = true)
      ∧ (collecting true).allReported (collect true) = true ∧ (collecting false).allReported (collect false) = false
      ∧ (collecting true).fab.records = ⟨1, 9, 0, 20⟩ :: [] ∧ ({ blankPacket with typ := tyPilot } : Packet).typ = tyPilot
      ∧ leNat (((zeroBytes 11 ++ leBytes 19 1).drop 11).take 1) = 19 ∧ (collecting true).meshOn = true := by
  decide +kernel

/-- The same with records exported on the server ports, whose links serve or not. -/
def exporting (b : Bool) (st : LinkSt) : State :=
  let s := collecting true
  { s with fab := { s.fab with exportA := true, exportB := b, links := [(6, Link.fresh st), (7, Link.fresh st)] } }

theorem wit_CollectorsAndPilots_export :
    (exporting true .down).fab.exportA = true ∧ (exporting true .down).fab.exportB = true
      ∧ ((exporting true .down).link 6).state ≠ .up ∧ ((exporting true .down).link 7).state ≠ .up
      ∧ (exporting true .down).allReported (collect true) = true ∧ (exporting true .down).waitedOut 0 20 = true
      ∧ (exporting false .up).fab.exportB = false ∧ ((exporting false .up).link 6).state = .up
      ∧ ((exporting false .up).link 6).queue = [] ∧ ((exporting false .up).link 6).limitVc = ((exporting false .up).link 6).sentVc
      ∧ (exporting false .up).allReported (collect true) = true := by
  decide +kernel

/-! ### The clock and supplies -/

/-- The device at a count, with a change of bin under way or none. -/
def atCount (tide target : Word) (c : Option FreqChange) : State :=
  { dev with clk := { dev.clk with tide := tide, target := target, change := c } }

/-- A rise by one bin. -/
def rise : FreqChange := { (default : FreqChange) with oldBin := 64, newBin := 65 }

/-- The device in DARK. -/
def inDark : State := { dev with bring := { dev.bring with phase := .dark } }

theorem wit_Clock :
    (atCount 4095 0 none).markDue = false ∧ (atCount 4096 4096 (some rise)).markDue = true
      ∧ (default : MarkData).drops = [] ∧ dev.faults.unhandled < 60
      ∧ (atCount 7792 8192 (some rise)).clk.change = some rise ∧ rise.oldBin < rise.newBin
      ∧ (atCount 7792 8192 (some rise)).clk.tide + 400 = (atCount 7792 8192 (some rise)).clk.target
      ∧ (atCount 8192 8192 (some rise)).clk.change.isSome = true
      ∧ (atCount 8192 8192 (some rise)).clk.tide = (atCount 8192 8192 (some rise)).clk.target
      ∧ dev.pins.refclk = true ∧ dev.pins.vlnk = true ∧ dev.pins.resetN = true ∧ dev.bring.phase ≠ .dark
      ∧ dev.clk.meshLocked = true ∧ (dev.cregion 19).oscFailed = false
      ∧ ({ dev with clk := { dev.clk with regions := [(19, { dev.cregion 19 with oscFailed := true })] } }.cregion 19).oscFailed
        = true
      ∧ { dev with hm := { dev.hm with silent := true } }.pending = []
      ∧ { dev with hm := { dev.hm with silent := true } }.tideRuns = true
      ∧ { dev with hm := { dev.hm with silent := true } }.eventDue = false
      ∧ (∀ x ∈ { dev with hm := { dev.hm with silent := true } }.tiles, clockDue x.2 = false)
      ∧ dev.pwr.overMarks = [] ∧ (atCount 0 0 none).clk.change = none
      ∧ { dev with pins := { dev.pins with refclk := false } }.pins.refclk = false ∧ (inDark.bring.phase = .dark)
      ∧ dev.bring.phase ∉ [.dark, .halted, .alarmed] ∧ dev.hm.silent = false
      ∧ dev.faults.mergeAt dev.clk.tide (plainNote 4 0x0703) = none ∧ State.reset.clk.meshLocked = false := by
  decide +kernel

theorem wit_Clock_links : ∀ l, (dev.link l).held = [] ∧ (dev.link l).pool = [] := fun _ => ⟨rfl, rfl⟩

/-- The device with no partition, its last stretch 56 periods back in every region, and no context. -/
def quiet : State :=
  { dev with
    parts := [], ctxs := [], clk := { dev.clk with regions := (List.range 20).map (fun r => (r, { dev.cregion r with gap := 56 })) } }

theorem wit_Supplies :
    quiet.pins.railsOn = true ∧ quiet.vlogOn 19 = true ∧ quiet.clk.bin ≠ 0 ∧ quiet.pwr.hinted = false
      ∧ quiet.clk.quiescent = false ∧ 56 ≤ (quiet.cregion 19).gap ∧ 3 < railPhases 43 ∧ 15 < railPhases 44
      ∧ (quiet.rail 44).failed.contains 15 = false ∧ quiet.faults.unhandled < 64 ∧ (quiet.rail 19).short = false
      ∧ (quiet.rail 43).short = false ∧ quiet.edgeParts 3 = []
      ∧ (∀ k, k < 24 → edgeGroup k = 3 → (quiet.stack k).state = .inService ∧ quiet.partsOn k = []) ∧ quiet.pins.vlnk = true := by
  decide +kernel

/-- The device without its rails. -/
def unpowered : State := { quiet with pins := { quiet.pins with railsOn := false, vlnk := false } }

theorem wit_Supplies_others :
    unpowered.pins.railsOn = false ∧ unpowered.pins.vlnk = false ∧ quiet.hm.silent = false ∧ quiet.bring.phase ≠ .alarmed
      ∧ quiet.faults.mergeAt quiet.clk.tide (unitNote 4 0x0805 5 44) = none
      ∧ quiet.faults.mergeAt quiet.clk.tide (unitNote 4 0x0805 5 0xFF) = none
      ∧ (∀ x ∈ [((55 : Nat), (0 : Nat)), (0, 8)], (ClkRegion.mayStretch { quiet.cregion 19 with gap := x.1, run := x.2 }) = false)
      ∧ (7 ∈ List.range' 1 7) ∧ ({ quiet.rail 44 with failed := [15] } : Rail).failed.contains 15 = true
      ∧ ({ quiet.rail 19 with short := true } : Rail).short = true ∧ (quiet.rail 39).short = false := by
  decide +kernel

theorem wit_Supplies_saved : ∀ c, (quiet.ctx c).saved = [] := fun _ => rfl

/-! ### Heat, telemetry and alarms -/

/-- The device with no partition, region 19 at a temperature, waiting for its tiles or not, its logic off or not. -/
def warm (t : Int) (due off : Bool) : State :=
  { quiet with pwr := { quiet.pwr with regions := [(19, { quiet.pregion 19 with temp := t, heatDue := due, thermalOff := off })] } }

/-- The device streaming into a ring of 16 records, full or not, at the end of a window. -/
def streamingTo (consumer : Nat) : State :=
  { dev with
    pwr := { dev.pwr with
      telem := { Telem.clear with on := true, records := 16, interval := 1000, producer := 15, consumer := consumer, windowEnd := 100000 } },
    clk := { dev.clk with tide := 100000 } }

/-- The device with so much energy modelled in a window, after some windows in which the model was off. -/
def drifting (joules run : Nat) : State :=
  { dev with pwr := { dev.pwr with overhead := joules * 1000000000000, driftRun := run }, clk := { dev.clk with tide := 100000000 } }

theorem wit_HeatAndTelemetry :
    dev.pins.vlnk = true ∧ dev.pins.resetN = true ∧ (∀ x ∈ [((479 : Nat), (119 : Int)), (495, 119)], x.1 < 496)
      ∧ (∀ r, r < 20 → (dev.pregion r).temp < 120 ∧ (dev.pregion r).thermalOff = false ∧ (dev.pregion r).heatDue = false)
      ∧ (∀ e, e < 4 → SMap.get (0 : Int) dev.pwr.edges e < 120) ∧ regionOf 479 = 19 ∧ dev.partOfRegion 0 = some 0
      ∧ dev.partOfRegion 19 = none ∧ (∃ n ∈ ctxsOf 0, (dev.ctx n).state = .running)
      ∧ ((warm 110 true false).pregion 19).heatDue = true ∧ (warm 110 true false).regionIdle 19 = true
      ∧ (warm 110 true false).pins.vlnk = true ∧ (warm 95 false true).partOfRegion 19 = none
      ∧ ((warm 95 false true).pregion 19).thermalOff = true ∧ ((warm 95 false true).pregion 19).resetDue = false
      ∧ (streamingTo 0).pwr.telem.on = true ∧ (streamingTo 0).pwr.telem.windowEnd ≤ (streamingTo 0).clk.tide.toNat
      ∧ (streamingTo 0).pwr.telem.full = true ∧ (streamingTo 1).pwr.telem.full = false
      ∧ (streamingTo 1).pwr.telem.sinceEvent + 1 < (streamingTo 1).pwr.telem.interval
      ∧ dev.pwr.telem.on = false ∧ dev.clk.tide.toNat < dev.pwr.driftEnd ∧ dev.regionIdle 19 = true
      ∧ ((dev.pregion 19).heatDue = false) := by
  decide +kernel

theorem wit_HeatAndTelemetry_drift :
    (∀ x ∈ [((100 : Nat), (95 : Nat)), (105, 100), (106, 100)],
      (drifting x.1 2).pwr.driftEnd ≤ (drifting x.1 2).clk.tide.toNat ∧ (drifting x.1 2).pwr.driftRun = 2
        ∧ (drifting x.1 2).pwr.modelled - (drifting x.1 2).pwr.modelledAt = x.1 * 1000000000000)
      ∧ 20 * (max 105 100 - min 105 100) ≤ 100 ∧ 100 < 20 * (max 106 100 - min 106 100)
      ∧ 95 < 20 * (max 100 95 - min 100 95) ∧ (drifting 106 1).pwr.driftRun < 2 ∧ (drifting 106 1).pins.vlnk = true := by
  decide +kernel

/-- The device with every alarm response NOTE, in secure debug. -/
def watching : State := { dev with sec := { dev.sec with alarms := List.replicate 7 (Alarm.clear 0) } }

theorem wit_Alarms :
    watching.watches = true ∧ (∀ src, src < 7 → (watching.sec.alarms.getD src (Alarm.clear 0)).response = respNote)
      ∧ watching.facts.fuses.secureDebug = true
      ∧ { dev with facts := { dev.facts with fuses := { dev.facts.fuses with secureDebug := false } } }.facts.fuses.secureDebug
        = false ∧ State.reset.watches = false ∧ dev.watches = true := by
  decide +kernel

/-- The device with a partition and another response of the lid mesh. -/
def answering (resp : Nat) : State := { dev with sec := { dev.sec with alarms := [{ Alarm.clear 0 with response := resp }] } }

theorem wit_Alarms_erase :
    ∀ resp ∈ [respErase, respTerminal], (answering resp).watches = true
      ∧ ((answering resp).sec.alarms.getD 0 (Alarm.clear 0)).response = resp ∧ (answering resp).bring.phase ≠ .alarmed
      ∧ (answering resp).sec.erasing = false ∧ ((answering resp).part 0).valid = true := by
  decide +kernel

/-! ### Faults -/

/-- The device with one unhandled entry. -/
def faulty (sev : Nat) (p c : Option Nat) : State :=
  { dev with
    faults := { dev.faults with
      log := [(255, some ⟨{ plainNote sev 0x0101 with part := p, ctx := c }, .unhandled, 0, 0, 0, 1⟩)], serial := 1 } }

theorem wit_FaultHandling :
    (∀ x ∈ [((1 : Nat), (none : Option Nat), (none : Option Nat)), (2, some 0, some 0), (3, some 0, none)],
      let s := faulty x.1 x.2.1 x.2.2
      s.pins.vlnk = true ∧ s.pins.resetN = true ∧ s.hm.silent = false ∧ s.sec.erasing = false ∧ s.bring.phase ≠ .halted
        ∧ s.faults.inState (fun st => decide (st = .handling)) = [] ∧ s.faults.first = some 255
        ∧ s.faults.at 255 = some ⟨{ plainNote x.1 0x0101 with part := x.2.1, ctx := x.2.2 }, .unhandled, 0, 0, 0, 1⟩)
      ∧ ((faulty 2 (some 0) (some 0)).ctx (ctxNo 0 0)).state = .running
      ∧ ((faulty 2 (some 0) (some 0)).ctx (ctxNo 0 0)).ending = none
      ∧ (∀ n ∈ ctxsOf 0, ((faulty 3 (some 0) none).ctx n).state ≠ .loading) ∧ (faulty 3 (some 0) none).hm.jobs = []
      ∧ (faulty 3 (some 0) none).hm.held = [] ∧ ∃ n ∈ ctxsOf 0, ((faulty 3 (some 0) none).ctx n).launched = true := by
  decide +kernel

/-- The same with an entry in hand, of severity 1, and one of severity `sev` that waits. -/
def inHand (sev : Nat) : State :=
  { dev with
    faults := { dev.faults with
      log := [(0, some ⟨plainNote 1 0x0101, .handling, 0, 0, 0, 1⟩), (255, some ⟨plainNote sev 0x0102, .unhandled, 0, 0, 0, 2⟩)],
      serial := 2 } }

theorem wit_FaultHandling_inHand :
    (∀ sev ∈ [1, 2], ((inHand sev).faults.inState (fun st => decide (st = .handling))).head? = some 0
      ∧ (inHand sev).faults.first = some 255 ∧ (inHand sev).faults.at 0 = some ⟨plainNote 1 0x0101, .handling, 0, 0, 0, 1⟩
      ∧ (inHand sev).faults.at 255 = some ⟨plainNote sev 0x0102, .unhandled, 0, 0, 0, 2⟩)
      ∧ (inHand 1).faults.preempts 255 0 = false ∧ (inHand 2).faults.preempts 255 0 = true
      ∧ (dev.faults.inState (fun st => decide (st = .handling))).head? = none ∧ dev.faults.first = none
      ∧ State.reset.pins.vlnk = false := by
  decide +kernel

/-- The device in HALTED with one entry of a severity. -/
def haltedWith (sev : Nat) : State :=
  let s := faulty sev (some 0) (some 0)
  { s with bring := { s.bring with phase := .halted } }

theorem wit_FaultHandling_halted :
    (∀ sev ∈ [2, 4], (haltedWith sev).pins.vlnk = true ∧ (haltedWith sev).pins.resetN = true
      ∧ (haltedWith sev).hm.silent = false ∧ (haltedWith sev).sec.erasing = false ∧ (haltedWith sev).bring.phase = .halted
      ∧ (haltedWith sev).faults.first = some 255 ∧ (∃ e, (haltedWith sev).faults.at 255 = some e ∧ e.note.sev = sev))
      ∧ { dev with bring := { dev.bring with phase := .halted } }.faults.first = none := by
  refine ⟨?_, by decide +kernel⟩
  intro sev h
  simp only [List.mem_cons, List.not_mem_nil, or_false] at h
  rcases h with rfl | rfl <;> exact ⟨by decide +kernel, by decide +kernel, by decide +kernel, by decide +kernel,
    by decide +kernel, by decide +kernel, _, rfl, rfl⟩

/-- Partition 0 with a context-fatal entry in hand and a partition-fatal one that waits. -/
def inHandOf : State :=
  { dev with
    faults := { dev.faults with
      log := [(0, some ⟨{ plainNote 2 0x0101 with part := some 0, ctx := some 0 }, .handling, 0, 0, 0, 1⟩),
              (255, some ⟨{ plainNote 3 0x0206 with part := some 0 }, .unhandled, 0, 0, 0, 2⟩)],
      serial := 2 } }

theorem wit_FaultHandling_inHandOf :
    (inHandOf.faults.inState (fun st => decide (st = .handling))).head? = some 0 ∧ inHandOf.faults.first = some 255
      ∧ inHandOf.faults.preempts 255 0 = true ∧ inHandOf.bring.phase ≠ .halted := by
  decide +kernel

/-- The device with no partition and site 17 failed. -/
def siteFailed : State := { quiet with bring := { quiet.bring with sites := [(17, ⟨2, 6, none, 0⟩)] } }

theorem wit_FaultHandling_router :
    siteFailed.bring.phase = .ready ∧ siteFailed.bypassed 17 = false ∧ (siteFailed.router 17).failed = false
      ∧ siteFailed.siteGood 17 = false ∧ siteFailed.routerParts 17 = [] ∧ siteFailed.faults.unhandled < 64
      ∧ siteFailed.pins.vlnk = true ∧ siteFailed.pins.resetN = true
      ∧ (∀ k, k < 24 → (stackRouters k).1 ≠ 17 ∧ (stackRouters k).2 ≠ 17)
      ∧ (stackRouters 0).1 = 0 ∧ (siteFailed.stack 0).state = .inService ∧ State.reset.bring.phase ≠ .ready := by
  decide +kernel

/-- The device with a backlog of 64 entries unhandled, in a phase. -/
def stormy (ph : Phase) : State :=
  { dev with
    bring := { dev.bring with phase := ph },
    faults := { dev.faults with
      log := (List.range 64).map (fun i => (i, some ⟨plainNote 1 i, .unhandled, 0, 0, 0, i + 1⟩)), next := 64, serial := 64 } }

theorem wit_FaultLogging :
    dev.hm.silent = false ∧ (faulty 1 none none).faults.mergeAt 0 (plainNote 1 0x0101) = some 255
      ∧ (faulty 1 none none).faults.at 255 ≠ none ∧ dev.faults.mergeAt 0 (plainNote 3 0x0101) = none
      ∧ dev.faults.unhandled < 64 ∧ dev.faults.freeAt = some 0
      ∧ (∀ ph ∈ [Phase.compute, .ready], (stormy ph).hm.silent = false ∧ 64 ≤ (stormy ph).faults.unhandled
        ∧ (stormy ph).faults.mergeAt 0 (plainNote 3 0x0101) = none ∧ (stormy ph).bring.phase = ph) := by
  decide +kernel

/-! ### Bring-up and the management bus -/

/-- The board with its input applied or not, RESET_N high or low, before anything else has come up. -/
def board (input : Nat) (resetN : Bool) : State :=
  { State.reset with pins := { Pins.unpowered with input := input, resetN := resetN } }

/-- The device in a phase of bring-up. -/
def inPhase (ph : Phase) : State := { quiet with bring := { quiet.bring with phase := ph, published := false } }

/-- The links of the device in a phase. -/
def linked (st : LinkSt) : State :=
  { inPhase .links with fab := { dev.fab with links := (List.range 8).map (fun l => (l, Link.fresh st)) } }

theorem wit_BringUp :
    (board 0 true).pins.input = 0 ∧ (board 0 true).pins.resetN = true ∧ (board 45000 false).pins.vlnk = false
      ∧ dev.pins.resetN = true ∧ dev.pins.latchedOff = false ∧ dev.pins.input ≠ 0
      ∧ (board 45000 false).pins.resetN = false ∧ (board 45000 false).pins.latchedOff = false
      ∧ 45000 ≤ (board 45000 false).pins.input
      ∧ (inPhase .dark).bring.phase = .dark ∧ (inPhase .dark).pins.vlnk = true ∧ (inPhase .dark).pins.resetN = true
      ∧ (inPhase .dark).hm.silent = false ∧ (∀ r, r < 20 → ((inPhase .dark).pregion r).temp < 120)
      ∧ (∀ e, e < 4 → SMap.get (0 : Int) (inPhase .dark).pwr.edges e < 120)
      ∧ (inPhase .clocksNet).bring.phase = .clocksNet ∧ (inPhase .clocksNet).modulesUp ≠ []
      ∧ (inPhase .memories).bring.phase = .memories ∧ (inPhase .memories).facts.hbmStacks = 24
      ∧ (linked .failed).bring.phase = .links ∧ (∀ l, l < 8 → ((linked .failed).link l).state ≠ .training)
      ∧ (inPhase .compute).bring.phase = .compute ∧ (inPhase .compute).clk.bin = 64
      ∧ (inPhase .compute).clk.quiescent = false ∧ gradeMinimum (inPhase .compute).facts ≤ (inPhase .compute).goodTiles := by
  decide +kernel

/-- The device in DARK with the fault log's entry of a lost REFCLK, with an oscillator's, or with nothing in it. -/
def inDarkWith (code : Option Nat) : State :=
  { inPhase .dark with faults := match code with
    | some c => { dev.faults with log := [(0, some ⟨plainNote 4 c, .unhandled, 0, 0, 0, 1⟩)], serial := 1 }
    | none => dev.faults }

/-- What DARK found, with a memory test passed or not and the temperature of one sensor. -/
def darkOf (ok : Bool) (t : Int) : DarkResult := { (default : DarkResult) with keysMatch := true, memoryOk := ok, temps := [(495, t)] }

theorem wit_BringUp_dark :
    (inDarkWith (some 0x0703)).bring.phase = .dark ∧ (inDarkWith (some 0x0703)).faults.has 0x0703 = true
      ∧ (inDarkWith none).faults.has 0x0703 = false ∧ (darkOf false 0).memoryOk = false ∧ (darkOf true 119).keysMatch = true
      ∧ (∀ x ∈ (darkOf true 119).temps, x.1 < 496 ∧ x.2 < 120) ∧ (darkOf true 120).temps = [(495, 120)]
      ∧ (∀ x ∈ (darkOf true 119).mesh, meshOut x.2 = false)
      ∧ (∀ r, r < 20 → ((inDarkWith none).pregion r).temp < 120 ∧ ((inDarkWith none).pregion r).thermalOff = false) := by
  decide +kernel

/-- The same phase without a module in service, and with no stack in service after it. -/
def unreachable (ph : Phase) : State := { inPhase ph with uci := { dev.uci with modules := [] } }

theorem wit_BringUp_others :
    (board 50000 true).pins.resetN = true ∧ (board 0 true).pins.latchedOff = false
      ∧ ({ (board 45000 false).pins with latchedOff := true } : Pins).latchedOff = true
      ∧ (board 44999 false).pins.input < 45000 ∧ dev.bring.phase ≠ .dark ∧ dev.bring.phase ≠ .clocksNet
      ∧ dev.bring.phase ≠ .memories ∧ dev.bring.phase ≠ .links ∧ dev.bring.phase ≠ .compute ∧ dev.bring.fetch = none
      ∧ (unreachable .clocksNet).modulesUp = [] ∧ (unreachable .clocksNet).bring.phase = .clocksNet
      ∧ (inPhase .clocksNet).pins.refclk = true ∧ ((linked .training).link 7).state = .training
      ∧ stackFitted dev.facts 23 = true ∧ linkFitted dev.facts 7 = true ∧ causeFetch ∉ [causeVerify, causeRollback]
      ∧ dev.imageCause (ImageFetch.mk [] 0 true) = some causeFetch := by
  decide +kernel

theorem wit_BringUp_bypassed (ph : Phase) : ∀ n, (inPhase ph).bypassed n = false := fun _ => rfl

/-- A header of 256 bytes of an image of 20,480, its signatures behind it. -/
def imageHead : List Byte :=
  leBytes 0x4D485453 4 ++ leBytes 1 2 ++ leBytes 63 2 ++ leBytes 9 4 ++ leBytes 20480 4 ++ leBytes 256 4 ++ leBytes 1024 4
    ++ leBytes 1280 4 ++ leBytes 384 4 ++ leBytes 1664 4 ++ leBytes 16224 4 ++ zeroBytes 216

/-- An image. -/
def image : List Byte := imageHead ++ zeroBytes 20224

theorem image_field (o n : Nat) (h : o + n ≤ 256) : fieldBytes image o n = fieldBytes imageHead o n := by
  have e : imageHead.length = 256 := by decide +kernel
  unfold fieldBytes image
  rw [List.drop_append_of_le_length (by omega), List.take_append_of_le_length (by simp; omega)]

/-- An image whose layout passes; its signatures and the identity are the cryptography's to judge. -/
theorem wit_BringUp_image : imageLayoutOk image = true ∧ (ImageFetch.mk image 0 false).isOver = true
    ∧ ¬fieldBytes image 6 2 < dev.facts.fuses.secver ∧ dev.facts.fuses.identityEnd = false := by
  have e : imageHead.length = 256 := by decide +kernel
  have z : allZero image 44 212 = true := by
    unfold allZero image
    rw [List.drop_append_of_le_length (by omega), List.take_append_of_le_length (by simp; omega)]
    decide +kernel
  have l : imageLength image = 20480 := by
    unfold imageLength; rw [image_field _ _ (by omega)]; decide +kernel
  refine ⟨?_, ?_, ?_, rfl⟩
  · simp only [imageLayoutOk, l, z, image_field 0 4 (by omega), image_field 4 2 (by omega), image_field 6 2 (by omega),
      image_field 16 4 (by omega), image_field 20 4 (by omega), image_field 24 4 (by omega), image_field 28 4 (by omega),
      image_field 32 4 (by omega), image_field 36 4 (by omega), image_field 40 4 (by omega)]
    decide +kernel
  · have n : image.length = 20480 := by
      simp only [image, List.length_append, e, zeroBytes, List.length_replicate]
    have ne : image ≠ [] := fun h => by rw [h] at n; exact absurd n (by decide)
    simp only [ImageFetch.isOver, l, n]
    simp [ne]
  · rw [image_field 6 2 (by omega)]; decide +kernel

/-- A fetch whose transport failed. -/
theorem wit_BringUp_fetch : (ImageFetch.mk [] 0 true).isOver = true
    ∧ dev.imageCause (ImageFetch.mk [] 0 true) = some causeFetch := by decide +kernel

theorem wit_ManagementBus : (board 45000 false).pins.input ≠ 0 := by decide +kernel

/-! ### Tile programs and fuses -/

/-- Instructions at the ends of their fields. -/
theorem wit_TileProgramEncoding :
    TInstr.wf (.alu .add 31 31 31) = true ∧ TInstr.wf (.halt 0xFFFF) = true ∧ lengthT (.halt 0xFFFF) = 4
      ∧ TInstr.wf (.send { gd := 31, ga := 31, gb := 31, len := 1024, ny := true }) = true
      ∧ lengthT (.send { gd := 31, ga := 31, gb := 31, len := 1024, ny := true }) = 8 := by decide +kernel

/-- A step that answers a next state. -/
theorem wit_FusesAreOnlyBlown : ∃ s', step State.reset = .next s' := by
  have h : (match step State.reset with | .next _ => true | _ => false) = true := by decide +kernel
  cases e : step State.reset with
  | next s' => exact ⟨s', rfl⟩
  | fault f => rw [e] at h; cases h
  | refused r => rw [e] at h; cases h

end Sys2Proof.Tests
end

