-- ==== Sys2Proof/Tests/Slice0.lean ====
section
/-! SUPPORT. Checks of the encoding of tile instructions, of well-formedness and of single operations, with the
expected values taken from the spec's tables and worked examples. -/

set_option Elab.async false

open Sys2Proof Sys2Proof.Machine

namespace Sys2Proof.Tests

/-! ### Words of tile instructions, written field by field from R140 to R169 -/

/-- A long instruction from its two words. -/
def long (hi lo : Nat) : Nat := hi * 2 ^ 32 + lo

/-- Form G (R141): OP, GD, GA, GB, FN. -/
def formG (op gd ga gb fn : Nat) : Nat := op + gd * 2 ^ 8 + ga * 2 ^ 13 + gb * 2 ^ 18 + fn * 2 ^ 23

/-- Form I and, with GB(data) in place of GD, form S (R141). -/
def formI (op gd ga imm : Nat) : Nat := op + gd * 2 ^ 8 + ga * 2 ^ 13 + imm * 2 ^ 18

/-- R142, R143. -/
theorem test_decode_register_operations :
    decodeT (formG 0x01 1 2 3 0x000) = some (.alu .add 1 2 3) ∧ decodeT (formG 0x01 31 30 29 0x001) = some (.alu .sub 31 30 29)
      ∧ decodeT (formG 0x01 1 2 3 0x004) = some (.alu .xor_ 1 2 3) ∧ decodeT (formG 0x01 1 2 3 0x007) = some (.alu .sra 1 2 3)
      ∧ decodeT (formG 0x01 1 2 3 0x009) = some (.alu .sltu 1 2 3) ∧ decodeT (formG 0x01 1 2 3 0x00B) = some (.alu .mulhu 1 2 3)
      ∧ decodeT (formG 0x01 1 2 3 0x00C) = some (.alu .divu 1 2 3) ∧ decodeT (formG 0x01 1 2 3 0x00F) = some (.alu .max_ 1 2 3) := by
  decide +kernel

/-- R142, R144. -/
theorem test_decode_immediate_operations :
    decodeT (formI 0x02 1 2 0x3FFF) = some (.imm .addi 1 2 0x3FFF) ∧ decodeT (formI 0x07 1 2 5) = some (.imm .sltiu 1 2 5)
      ∧ decodeT (formI 0x08 1 2 63) = some (.imm .slli 1 2 63) ∧ decodeT (formI 0x0A 1 2 1) = some (.imm .srai 1 2 1)
      ∧ decodeT (long 0xFFFFFFFE (0x8B + 7 * 2 ^ 8)) = some (.li 7 0xFFFFFFFE)
      ∧ decodeT (long 5 (0x8C + 31 * 2 ^ 8)) = some (.lih 31 5) := by
  decide +kernel

/-- R142, R145. -/
theorem test_decode_loads_and_stores :
    decodeT (formI 0x10 1 2 3) = some (.load .lb 1 2 3) ∧ decodeT (formI 0x13 1 2 3) = some (.load .lhu 1 2 3)
      ∧ decodeT (formI 0x16 1 2 0x2000) = some (.load .ld 1 2 0x2000) ∧ decodeT (formI 0x18 4 2 3) = some (.store .sb 2 4 3)
      ∧ decodeT (formI 0x1B 4 2 3) = some (.store .sd 2 4 3) := by
  decide +kernel

/-- R142, R146, R147. -/
theorem test_decode_control_flow :
    decodeT (0x20 + 1 * 2 ^ 8 + 2 * 2 ^ 13 + 0x3FFF * 2 ^ 18) = some (.branch .beq 1 2 0x3FFF)
      ∧ decodeT (0x25 + 1 * 2 ^ 8 + 2 * 2 ^ 13 + 4 * 2 ^ 18) = some (.branch .bgeu 1 2 4)
      ∧ decodeT (0x26 + 1 * 2 ^ 8 + 0x7FFFF * 2 ^ 13) = some (.jal 1 0x7FFFF) ∧ decodeT (formI 0x27 1 2 3) = some (.jalr 1 2 3)
      ∧ decodeT 0x28 = some .hret := by
  decide +kernel

/-- R148: the STREAM of its worked example, and one WLOAD and one DRAIN with every field apart. -/
theorem test_decode_array :
    decodeT (long 0x00000BB8 0x00816AB1)
        = some (.stream { ga := 10, gb := 11, fmt := 0, half := false, acc := true, slot := 0, count := 3000 })
      ∧ decodeT (long (256 + 128 * 2 ^ 9) (0xB0 + 3 * 2 ^ 8 + 4 * 2 ^ 13 + 8 * 2 ^ 18))
        = some (.wload { ga := 3, gb := 4, fmt := 8, kcount := 256, ncount := 128 })
      ∧ decodeT (long (7 + 100 * 2 ^ 13 + 1 * 2 ^ 21 + 9 * 2 ^ 22)
            (0xB2 + 5 * 2 ^ 8 + 127 * 2 ^ 13 + 0xC * 2 ^ 20 + 1 * 2 ^ 26 + 2 * 2 ^ 27 + 2 * 2 ^ 30))
        = some (.drain { ga := 5, slot := 127, ofmt := 0xC, round := false, half := false, sbon := true, act := 2, red := 2,
                         rows := 7, cols := 100, cont := true, k := 9 }) := by
  decide +kernel

/-- R149, R151. -/
theorem test_decode_vec :
    decodeT (long (32 + 6 * 2 ^ 13 + 1 * 2 ^ 18) (0xB4 + 28 * 2 ^ 8 + 0 * 2 ^ 13 + 1 * 2 ^ 20 + 2 * 2 ^ 24))
        = some (.vec .movb { ga := 28, sfmt := 1, dfmt := 2, round := false, cf := false, s2s := false, count := 32, word := 6,
                             cola := true, cold := false })
      ∧ decodeT (long 4096 (0xB4 + 1 * 2 ^ 8 + 0x23 * 2 ^ 13 + 1 * 2 ^ 28 + 1 * 2 ^ 29 + 1 * 2 ^ 30))
        = some (.vec .rsumsq { ga := 1, sfmt := 0, dfmt := 0, round := true, cf := true, s2s := true, count := 4096, word := 0,
                               cola := false, cold := false })
      ∧ decodeT (long 1 (0xB4 + 1 * 2 ^ 8 + 0x14 * 2 ^ 13))
        = some (.vec .exp { ga := 1, sfmt := 0, dfmt := 0, round := false, cf := false, s2s := false, count := 1, word := 0,
                            cola := false, cold := false }) := by
  decide +kernel

/-- R157, R161. -/
theorem test_decode_moves_and_channels :
    decodeT (long (9 + 7 * 2 ^ 12 + 3 * 2 ^ 24) (0xB8 + 1 * 2 ^ 8 + 1 * 2 ^ 13 + 2 * 2 ^ 15 + 1 * 2 ^ 17))
        = some (.move true { ga := 1, red := 2, cola := true, dcc := 9, lcc := 7, word := 3 })
      ∧ decodeT (long (9 + 7 * 2 ^ 12 + 3 * 2 ^ 24) (0xB9 + 1 * 2 ^ 8 + 200 * 2 ^ 13 + 1 * 2 ^ 21 + 1 * 2 ^ 23))
        = some (.movec { ga := 1, circ := 200, red := 1, cola := true, dcc := 9, lcc := 7, word := 3 })
      ∧ decodeT (long 1024 (0xBC + 1 * 2 ^ 8 + 2 * 2 ^ 13 + 3 * 2 ^ 18 + 1 * 2 ^ 23))
        = some (.send { gd := 1, ga := 2, gb := 3, ny := true, len := 1024 })
      ∧ decodeT (0x3D + 1 * 2 ^ 8 + 2 * 2 ^ 13 + 3 * 2 ^ 18 + 1 * 2 ^ 23)
        = some (.recv { gd := 1, ga := 2, gb := 3, wait := true, discard := false }) := by
  decide +kernel

/-- The tables before R164. -/
theorem test_decode_waits_and_control :
    decodeT (0x40 + 1 * 2 ^ 8 + 2 * 2 ^ 13 + 4095 * 2 ^ 18 + 1 * 2 ^ 30) = some (.waitc 1 2 4095 true)
      ∧ decodeT (0x41 + 3 * 2 ^ 8 + 1 * 2 ^ 13) = some (.tidewait 3 true) ∧ decodeT 0x42 = some .fence
      ∧ decodeT (0x43 + 255 * 2 ^ 8 + 7 * 2 ^ 16 + 4095 * 2 ^ 19) = some (.pilot 255 7 4095)
      ∧ decodeT (0x44 + 0xABCD * 2 ^ 8) = some (.step 0xABCD) ∧ decodeT (0x45 + 0xFFFF * 2 ^ 8) = some (.halt 0xFFFF) := by
  decide +kernel

/-- R140, R147, R157: the zero word, a reserved opcode, a bit [7] that does not match, a reserved function code, reserved
bits that are not zero, RED 3, DIR 2, a VOP and a SYS function that no table lists. -/
theorem test_decode_reserved :
    [0, 0x7F, formG 0x01 1 2 3 0x010, formG 0x01 1 2 3 0 + 0x80, long 5 (0x0B + 7 * 2 ^ 8), formI 0x08 1 2 64,
      long 5 (0x8B + 7 * 2 ^ 8 + 2 ^ 13), formG 0x28 1 0 0 0, formG 0x28 0 0 0 1,
      long 0 (0xB8 + 1 * 2 ^ 8 + 3 * 2 ^ 15), long 0 (0xB8 + 1 * 2 ^ 8 + 2 * 2 ^ 13), long 0 (0xB9 + 1 * 2 ^ 8 + 3 * 2 ^ 21),
      long 1 (0xB4 + 1 * 2 ^ 8 + 0x0A * 2 ^ 13), long (2 ^ 31) 0x00816AB1, 0x42 + 2 ^ 8, 0x45 + 2 ^ 24].all
        (fun w => (decodeT w).isNone) = true := by
  decide +kernel

/-! ### Well-formedness: a command with a unit or a field at its bound is refused, one below it is not -/

/-- Each command of the list is well formed below the bound and ill formed at it. -/
def bounded (b : Nat) (fs : List (Nat → Instr)) : Bool := fs.all (fun f => (f (b - 1)).wf && !(f b).wf)

theorem test_wf_pairs :
    bounded (2)
      (([fun x => .recordExportTimeout x, fun x => .clockGlitch x 0, fun x => .temperature x 0] : List (Nat → Instr))) = true := by
  decide +kernel

theorem test_wf_speeds :
    bounded (3)
      (([fun x => .ucieRetraining 0 false x] : List (Nat → Instr))) = true := by
  decide +kernel

theorem test_wf_modules_and_edges :
    bounded (4)
      (([fun x => .vhioFault x, fun x => .commandWrite x false [], fun x => .ucieModuleLost x,
    fun x => .ucieRetraining x false 0] : List (Nat → Instr))) = true := by
  decide +kernel

theorem test_wf_ports :
    bounded (7)
      (([fun x => .routerPacketArrival 0 x default] : List (Nat → Instr))) = true := by
  decide +kernel

theorem test_wf_links_and_contexts :
    bounded (8)
      (([fun x => .beacon x default, fun x => .linkFlit x default, fun x => .linkControlFlit x default,
    fun x => .linkTraining x default, fun x => .linkRetrain x default, fun x => .peerAddressExchange x 0,
    fun x => .launchStart 0 x, fun x => .launchCompletion 0 x, fun x => .lidMesh x 0, fun x => .cableInsertion x] : List (Nat → Instr))) = true := by
  decide +kernel

theorem test_wf_phases :
    bounded (16)
      (([fun x => .phaseFailed 0 x] : List (Nat → Instr))) = true := by
  decide +kernel

theorem test_wf_banks :
    bounded (17)
      (([fun x => .reservoirRecharged 0 x] : List (Nat → Instr))) = true := by
  decide +kernel

theorem test_wf_regions_and_partitions :
    bounded (20)
      (([fun x => .oscFailed x, fun x => .droopDetectorTrip x default, fun x => .vlogSwitchOff x,
    fun x => .quantumExpiry x, fun x => .contextSwitch x, fun x => .contextSwitched x, fun x => .zeroingComplete x,
    fun x => .launchStart x 0, fun x => .launchCompletion x 0, fun x => .reservoirRecharged x 0] : List (Nat → Instr))) = true := by
  decide +kernel

theorem test_wf_stacks :
    bounded (24)
      (([fun x => .patrolScrub x 0, fun x => .hbmPhyFailure x] : List (Nat → Instr))) = true := by
  decide +kernel

theorem test_wf_rails :
    bounded (45)
      (([fun x => .railShort x, fun x => .phaseFailed x 0, fun x => .pwrVminRead x, fun x => .voltageGlitch x 0] : List (Nat → Instr))) = true := by
  decide +kernel

theorem test_wf_bytes :
    bounded (256)
      (([fun x => .circuitFlit 0 x, fun x => .supplyFatal x, fun x => .readFaultlog default 0 0 x 0,
    fun x => .salvage default x 0, fun x => .drainCommand default x 0, fun x => .release default x,
    fun x => .setPair default x 0 0, fun x => .setOppoint default x 0, fun x => .setOppoint default 0 x,
    fun x => .pilotCommand default x 0 0, fun x => .pilotCommand default 0 x 0,
    fun x => .setTelemetry default x 0 0 0, fun x => .setCheckLevel default x,
    fun x => .loadKey default x 0 0 default, fun x => .setAlarmPolicy default x 0,
    fun x => .setAlarmPolicy default 0 x, fun x => .setDebugMode default x, fun x => .peekQueue default 0 x 0,
    fun x => .readAccumulator default 0 x 0 0 0, fun x => .readAccumulator default 0 0 x 0 0,
    fun x => .trace default x 0 0 0, fun x => .trace default 0 x 0 0, fun x => .setServiceFmax default 0 x] : List (Nat → Instr))) = true := by
  decide +kernel

theorem test_wf_sites :
    bounded (480)
      (([fun x => .add x 0 0 0, fun x => .sub x 0 0 0, fun x => .andR x 0 0 0, fun x => .orR x 0 0 0,
    fun x => .xorR x 0 0 0, fun x => .sll x 0 0 0, fun x => .srl x 0 0 0, fun x => .sra x 0 0 0,
    fun x => .slt x 0 0 0, fun x => .sltu x 0 0 0, fun x => .mul x 0 0 0, fun x => .mulhu x 0 0 0,
    fun x => .divu x 0 0 0, fun x => .remu x 0 0 0, fun x => .minS x 0 0 0, fun x => .maxS x 0 0 0,
    fun x => .addi x 0 0 0, fun x => .andi x 0 0 0, fun x => .ori x 0 0 0, fun x => .xori x 0 0 0,
    fun x => .slti x 0 0 0, fun x => .sltiu x 0 0 0, fun x => .slli x 0 0 0, fun x => .srli x 0 0 0,
    fun x => .srai x 0 0 0, fun x => .li x 0 0, fun x => .lih x 0 0, fun x => .lb x 0 0 0, fun x => .lbu x 0 0 0,
    fun x => .lh x 0 0 0, fun x => .lhu x 0 0 0, fun x => .lw x 0 0 0, fun x => .lwu x 0 0 0, fun x => .ld x 0 0 0,
    fun x => .sb x 0 0 0, fun x => .sh x 0 0 0, fun x => .sw x 0 0 0, fun x => .sd x 0 0 0,
    fun x => .pendingStoreWrite x, fun x => .beq x 0 0 0] : List (Nat → Instr))
      ++ ([fun x => .bne x 0 0 0, fun x => .blt x 0 0 0, fun x => .bge x 0 0 0, fun x => .bltu x 0 0 0,
    fun x => .bgeu x 0 0 0, fun x => .jal x 0 0, fun x => .jalr x 0 0 0, fun x => .hret x,
    fun x => .wload x default, fun x => .stream x default, fun x => .streamRowWrite x, fun x => .drain x default,
    fun x => .drainRowOutput x, fun x => .vecMovb x default, fun x => .vecCvt x default,
    fun x => .vecAdd x default, fun x => .vecSub x default, fun x => .vecMul x default, fun x => .vecFma x default,
    fun x => .vecMax x default, fun x => .vecMin x default, fun x => .vecAbs x default, fun x => .vecNeg x default,
    fun x => .vecExp2 x default, fun x => .vecLog2 x default, fun x => .vecRsqrt x default,
    fun x => .vecRecip x default, fun x => .vecExp x default, fun x => .vecRsum x default,
    fun x => .vecRmax x default, fun x => .vecRmin x default, fun x => .vecRsumsq x default,
    fun x => .movePush x default, fun x => .moveFetch x default, fun x => .movec x default,
    fun x => .send x default, fun x => .sendOutcome x, fun x => .parkedSendAccept x, fun x => .fullTimeout x,
    fun x => .recv x default] : List (Nat → Instr))
      ++ ([fun x => .recvWaitEnd x, fun x => .waitc x 0 0 0 false, fun x => .waitcComplete x, fun x => .tidewait x 0 false,
    fun x => .tidewaitComplete x, fun x => .fence x, fun x => .fenceComplete x, fun x => .pilot x 0 0 0,
    fun x => .step x 0, fun x => .stepCommit x, fun x => .halt x 0, fun x => .haltStop x,
    fun x => .issueAfterHold x, fun x => .handlerDispatch x, fun x => .replay x, fun x => .checkCopy x,
    fun x => .checkPass x, fun x => .routerPacketArrival x 0 default, fun x => .circuitFlit x 0,
    fun x => .write x default, fun x => .writeAdd32 x default, fun x => .writeAdd16 x default,
    fun x => .read x default, fun x => .readData x default, fun x => .ack x default, fun x => .ackTimeout x,
    fun x => .message x default, fun x => .gapSkipped x 0 0, fun x => .gapSkipped 0 0 x,
    fun x => .credit x default, fun x => .lost x 0, fun x => .channelEntryRead x 0, fun x => .host x default,
    fun x => .mgmt x default, fun x => .stop x, fun x => .resumePacket x, fun x => .hbmWrite x default,
    fun x => .hbmRead x default, fun x => .tsCompletionWrite x 0 0, fun x => .routerFailed x] : List (Nat → Instr))
      ++ ([fun x => .scratchpadZeroingComplete x] : List (Nat → Instr))) = true := by
  decide +kernel

theorem test_wf_counters :
    bounded (4096)
      (([fun x => .tsCompletionWrite 0 x 0] : List (Nat → Instr))) = true := by
  decide +kernel

theorem test_wf_halfwords :
    bounded (65536)
      (([fun x => .gapSkipped 0 x 0, fun x => .lost 0 x, fun x => .channelEntryRead 0 x,
    fun x => .hostTransactionTimeout x, fun x => .readFaultlog default 0 0 0 x, fun x => .setQuantum default x,
    fun x => .setCap default x, fun x => .pilotCommand default 0 0 x, fun x => .setTelemetry default 0 0 0 x,
    fun x => .readTallyLog default x, fun x => .peekQueue default x 0 0,
    fun x => .readAccumulator default x 0 0 0 0, fun x => .retireTile default x,
    fun x => .setServiceFmax default x 0] : List (Nat → Instr))) = true := by
  decide +kernel

theorem test_wf_words :
    bounded (2 ^ 32)
      (([fun x => .patrolScrub 0 x, fun x => .readFloorplan default 0 x, fun x => .readFaultlog default 0 x 0 0,
    fun x => .installLicence default 0 x default, fun x => .setChannelTable default 0 x,
    fun x => .invalidateChannels default x 0, fun x => .invalidateChannels default 0 x,
    fun x => .drainCommand default 0 x, fun x => .setTelemetry default 0 0 x 0, fun x => .attest default [] 0 x,
    fun x => .loadKey default 0 0 x default, fun x => .readAccumulator default 0 0 0 0 x,
    fun x => .trace default 0 0 0 x] : List (Nat → Instr))) = true := by
  decide +kernel

theorem test_wf_long_words :
    bounded (2 ^ 64)
      (([fun x => .readFloorplan default x 0, fun x => .readFaultlog default x 0 0 0,
    fun x => .installLicence default x 0 default, fun x => .fill default x 0 0, fun x => .fill default 0 x 0,
    fun x => .salvage default 0 x, fun x => .launch default x 0 0, fun x => .setChannelTable default x 0,
    fun x => .setPair default 0 x 0, fun x => .setPair default 0 0 x, fun x => .setTelemetry default 0 x 0 0,
    fun x => .attest default [] x 0, fun x => .loadKey default 0 x 0 default, fun x => .peekQueue default 0 0 x,
    fun x => .readAccumulator default 0 0 0 x 0, fun x => .trace default 0 0 x 0] : List (Nat → Instr))) = true := by
  decide +kernel

/-- The numbers inside the records of a command (R208, R376, R387, R421, R439, R440, R443, R455). -/
theorem test_wf_records :
    bounded 20 ([fun x => .tideMark { (default : MarkData) with regions := [{ (default : RegionMark) with region := x }] },
          fun x => .riseCancelled [x], fun x => .slackWater (.part x), fun x => .drainTimeout (.ctx x 0),
          fun x => .clocksNetComplete ⟨true, true, [x], []⟩,
          fun x => .memoriesComplete ⟨[], [x], true, [], []⟩, fun x => .computeComplete ⟨[], [], [(x, 0)]⟩] : List (Nat → Instr))
        = true
      ∧ bounded 8 ([fun x => .slackWater (.ctx 0 x), fun x => .darkComplete ⟨true, true, [(x, 100)], []⟩] : List (Nat → Instr)) = true
      ∧ bounded 480 ([fun x => .runStressTest default 0 0 ⟨[(x, 1)]⟩, fun x => .clocksNetComplete ⟨true, true, [], [x]⟩,
          fun x => .memoriesComplete ⟨[x], [], true, [], []⟩, fun x => .computeComplete ⟨[x], [], []⟩,
          fun x => .computeComplete ⟨[], [x], []⟩] : List (Nat → Instr)) = true
      ∧ bounded 24 ([fun x => .tideMark { (default : MarkData) with stackTemps := [(x, 0)] },
          fun x => .memoriesComplete ⟨[], [], true, [x], []⟩, fun x => .memoriesComplete ⟨[], [], true, [], [(x, 1)]⟩]
          : List (Nat → Instr)) = true
      ∧ bounded 45 ([fun x => .tideMark { (default : MarkData) with drops := [(x, 0)] },
          fun x => .tideMark { (default : MarkData) with currents := [(x, 0)] }] : List (Nat → Instr)) = true
      ∧ bounded 496 ([fun x => .sensorReading [(x, 0)], fun x => .darkComplete ⟨true, true, [], [(x, 0)]⟩] : List (Nat → Instr)) = true
      ∧ bounded 5 ([fun x => .mainbandTrainingComplete (List.replicate x default)] : List (Nat → Instr)) = true := by
  decide +kernel

/-- The numbers of a packet's lists (R438 to R443). -/
theorem test_wf_lists :
    bounded (2 ^ 16) ([fun x => .setConfig default [(x, 0)], fun x => .getConfig default [x],
          fun x => .writeCircuits default [⟨x, 0, 0, 0⟩], fun x => .createPartition default { grant1 with firstBand := x },
          fun x => .setInterleave default { grant1 with bandCount := x }] : List (Nat → Instr)) = true
      ∧ bounded (2 ^ 64) ([fun x => .setConfig default [(0, x)], fun x => .copyIn default (copy0 x),
          fun x => .copyOut default { copy0 0 with host := x }, fun x => .copyIn default { copy0 0 with len := x }]
          : List (Nat → Instr)) = true
      ∧ bounded (2 ^ 8) ([fun x => .writeCircuits default [⟨0, x, 0, 0⟩], fun x => .createPartition default { grant1 with c0 := x },
          fun x => .createPartition default { grant1 with c1 := x }, fun x => .createPartition default { grant1 with r0 := x },
          fun x => .createPartition default { grant1 with r1 := x }, fun x => .createPartition default { grant1 with flags := x },
          fun x => .createPartition default { grant1 with level := x }, fun x => .writeRoutes default { torus with sxM1 := x },
          fun x => .writeRoutes default { torus with syM1 := x }, fun x => .writeRoutes default { torus with szM1 := x },
          fun x => .writeRoutes default { torus with flags := x }] : List (Nat → Instr)) = true
      ∧ bounded (2 ^ 12) ([fun x => .createPartition default { grant1 with runs := [(x, 0)] },
          fun x => .createPartition default { grant1 with runs := [(0, x)] }] : List (Nat → Instr)) = true := by
  decide +kernel

/-- R144, R157: a shift of 64, and RED 3. -/
theorem test_wf_tile_instructions :
    (TInstr.imm .slli 1 2 63).wf = true ∧ (TInstr.imm .slli 1 2 64).wf = false ∧ (TInstr.move false { moveF with red := 3 }).wf = false
      ∧ (TInstr.movec { movecF with red := 3 }).wf = false ∧ (TInstr.movec movecF).wf = true := by
  decide +kernel

/-! ### Single operations -/

/-- R143: ADD wraps, a shift takes gb[5:0], SRA fills with the sign, DIVU and REMU by zero, MULHU. -/
theorem test_alu :
    aluOp .add 0xFFFFFFFFFFFFFFFF 2 = 1 ∧ aluOp .sll 1 65 = 2 ∧ aluOp .sra 0x8000000000000000 63 = 0xFFFFFFFFFFFFFFFF
      ∧ aluOp .divu 7 0 = 0xFFFFFFFFFFFFFFFF ∧ aluOp .remu 7 0 = 7 ∧ aluOp .mulhu 0xFFFFFFFFFFFFFFFF 2 = 1
      ∧ aluOp .slt 0xFFFFFFFFFFFFFFFF 0 = 1 ∧ aluOp .sltu 0xFFFFFFFFFFFFFFFF 0 = 0 := by
  decide +kernel

/-- R144: LI, then LIH, load a 64-bit constant. -/
theorem test_li_lih :
    (match exec (.li 17 3 0x80000001) (on tile0) with
      | .next s => match exec (.lih 17 3 0x12345678) s with
        | .next u => ((s.tile 17).greg 3, (u.tile 17).greg 3, (u.tile 17).seq.pc)
        | _ => (0, 0, 0)
      | _ => (0, 0, 0)) = (0xFFFFFFFF80000001, 0x1234567880000001, 16) := by
  decide +kernel

/-- R146: JALR reads its base before it writes the link. -/
theorem test_jalr_base_is_link :
    (match exec (.jalr 17 1 1 8) (on (based 64)) with
      | .next s => ((s.tile 17).greg 1, (s.tile 17).seq.pc)
      | _ => (0, 0)) = (4, 72) := by
  decide +kernel

/-- The check values of R293, for the bytes of "123456789". -/
theorem test_check_codes :
    crc32c [0x31, 0x32, 0x33, 0x34, 0x35, 0x36, 0x37, 0x38, 0x39] = 0xE3069283
      ∧ crc64 [0x31, 0x32, 0x33, 0x34, 0x35, 0x36, 0x37, 0x38, 0x39] = 0x995DC9BBDF1939FA := by
  decide +kernel

/-- The worked example of the LN8 product (02). -/
theorem test_ln8_product : product32 0 0x3D 0x79 0 0x85 0x7C = 0xBF1837F0 := by decide +kernel

/-- The worked example of a block into LN8 (02): the elements 3.0, −0.75, 0.001 and 0. -/
theorem test_ln8_block :
    ((convertRow 0 none 1 0 [0x40400000, 0xBF400000, 0x3A83126F, 0]).1,
      (convertRow 0 none 1 0 [0x40400000, 0xBF400000, 0x3A83126F, 0]).2.map (fun x => x.1))
      = ([0x79], [0x3D, 0xAD, 0x60, 0x40]) := by
  decide +kernel

/-- The worked example of stochastic rounding (02): 3.0 rounds up exactly when the draw is below 43,923. -/
theorem test_ln8_stochastic :
    (convertElem 0 121 (some 43922) 0x40400000).1 = 0x3D ∧ (convertElem 0 121 (some 43923) 0x40400000).1 = 0x3C := by
  decide +kernel

/-- The worked example of an address in an interleaved grant (10). -/
theorem test_interleaved_address :
    (Grant.home { Grant.none with hbmStacks := List.range 24, first := 100, count := 1000 } 0x001234567800,
      stackEdge 7 6613256192) = ((7, 6613256192), (336, 5)) := by
  decide +kernel

/-- The worked example of cycle skipping (12): with SKIP 7 the first group of 64 cycles has 57 active ones, and at bin 64
with SKIP 4 the first 1,024 counts have 15,360 (11). -/
theorem test_active_cycles :
    ranAt 7 0 64 = 57 ∧ ranAt 4 0 (regionCycles 64 1024 0) = 15360
      ∧ (({ (default : ClkRegion) with skipNow := 0 }).runTo 7 64).ran = 57
      ∧ ({ (default : ClkRegion) with cycles := 10, ran := 10, skipNow := 0 }.runTo 7 128).ran = 64 + 57 := by
  decide +kernel

/-- The worked example of a cap of 9,200 W (12): the least k that meets the logic share is 1, and the memory arrays' 7; at
10,000 W both are 0. -/
theorem test_skip_power :
    effectiveCap 9200 50000 = 9200
      ∧ (List.range 57).find? (fun k => !drawOver 60000 280000 64 64 (9200 * 940 * 64) k) = some 1
      ∧ (List.range 57).find? (fun k => !drawOver 22000 55000 64 64 (9200 * 940 * 12) k) = some 7
      ∧ drawOver 60000 280000 64 64 (10000 * 940 * 64) 0 = false ∧ drawOver 22000 55000 64 64 (10000 * 940 * 12) 0 = false := by
  decide +kernel

/-- R16: region (2, 4) holds site (9, 24), and the regions are numbered row by row. -/
theorem test_regions : regionOf (16 * 24 + 9) = 4 * 4 + 2 ∧ regionOf 0 = 0 ∧ regionOf 479 = 19 := by decide +kernel

/-- The empty queue of the statement about a step. -/
theorem wit_StepTakesTheFrontCommand : State.reset.pending = [] := by decide +kernel

/-- The memory of the reset state is in its canonical form. -/
theorem reset_memory_wf : Memory.wf State.reset.hbm.mem = true ∧ Memory.wf (State.reset.tile 0).spad.mem = true := by
  decide +kernel

/-- The table gives no bits: no word spells a command. -/
theorem test_no_table_word : decodeTableWord 32 0x00816AB1 = none := by decide

end Sys2Proof.Tests
end

section
/-! SUPPORT. The rows of STREAM and DRAIN (R75 to R79, R83, R89): what the write of a streamed row's sums leaves in the
accumulator, what one row of each instruction does to its tile, and the statement about both. -/

namespace Sys2Proof.Machine

/-! ### WLOADs whose turn has come (R76, R95) -/

@[simp] theorem loadsDone_seq (t : Tile) : (loadsDone t).seq = t.seq := by
  unfold loadsDone; split <;> rfl
@[simp] theorem loadsDone_spad (t : Tile) : (loadsDone t).spad = t.spad := by
  unfold loadsDone; split <;> rfl
@[simp] theorem loadsDone_integ (t : Tile) : (loadsDone t).integ = t.integ := by
  unfold loadsDone; split <;> rfl
@[simp] theorem loadsDone_chan (t : Tile) : (loadsDone t).chan = t.chan := by
  unfold loadsDone; split <;> rfl
@[simp] theorem loadsDone_acc (t : Tile) : (loadsDone t).arr.acc = t.arr.acc := by
  unfold loadsDone; split <;> rfl

/-! ### The sums of a row in the accumulator (R79, R83) -/

/-- Elements before and after the sums of a row stay (R79). -/
theorem writeSums_other (accMode : Bool) (sums : List Nat) :
    ∀ (m : SMap (BitVec 32)) (key k : Nat), k < key ∨ key + sums.length ≤ k →
      SMap.get 0 (writeSums accMode key m sums).1 k = SMap.get 0 m k := by
  induction sums with
  | nil => intros; rfl
  | cons x xs ih =>
    intro m key k hk
    rw [List.length_cons] at hk
    simp only [writeSums]
    rw [ih _ (key + 1) k (by omega), SMap.get_set_other _ _ _ _ _ (by omega)]

/-- A sum replaces its element, and with ACC it is added to it (R79, R83). -/
theorem writeSums_at (accMode : Bool) (sums : List Nat) :
    ∀ (m : SMap (BitVec 32)) (key n : Nat), n < sums.length →
      SMap.get 0 (writeSums accMode key m sums).1 (key + n) = BitVec.ofNat 32
        (if accMode then add32 (SMap.get 0 m (key + n)).toNat (sums.getD n 0) else sums.getD n 0) := by
  induction sums with
  | nil => intro m key n hn; simp at hn
  | cons x xs ih =>
    intro m key n hn
    simp only [writeSums]
    cases n with
    | zero =>
      rw [writeSums_other _ _ _ (key + 1) (key + 0) (by omega)]
      simp
    | succ n =>
      have hne : key + 1 + n ≠ key := by omega
      have hn' : n < xs.length := by simpa using hn
      rw [show key + (n + 1) = key + 1 + n by omega, ih _ (key + 1) n hn', SMap.get_set_other _ _ _ _ _ hne]
      simp

/-! ### One row -/

/-- The pass sums of a STREAM's next row (R81). -/
def StreamOp.nextSums (o : StreamOp) : List Nat :=
  passSums o.w o.fmt o.half (o.rows.getD o.next []) (o.scales.getD o.next [])

/-- The checksum comparison of a STREAM's next row, as `checksumFails` answers; it does not fail where the operand has no
checksum column (R300). -/
def StreamOp.nextCheck (o : StreamOp) : Option Bool :=
  if o.w.checked then checksumFails o.w o.fmt o.half (o.rows.getD o.next []) (o.scales.getD o.next []) o.nextSums
  else some false

@[simp] theorem StreamOp.nextSums_length (o : StreamOp) : o.nextSums.length = o.w.ncount := by
  simp [StreamOp.nextSums, passSums]

theorem StreamOp.nextCheck_agrees (o : StreamOp) (h : o.w.checked = true → checksumFails o.w o.fmt o.half
    (o.rows.getD o.next []) (o.scales.getD o.next []) o.nextSums ≠ some true) : o.nextCheck ≠ some true := by
  unfold StreamOp.nextCheck
  split
  · next hc => exact h hc
  · simp

/-- A streamed row whose checksum comparison does not fail writes its sums, goes on to the next row, and detects no
error (R75, R79, R300). -/
theorem streamRow_agrees (env : TileEnv) (t : Tile) (before : List ArrayOp) (o : StreamOp) (after : List ArrayOp)
    (h : o.nextCheck ≠ some true) :
    ∃ u, streamRow env t before o after = TOut.pure u
      ∧ u.arr.acc
          = (writeSums o.accMode (accKey (o.slot + o.next / 32) (o.next % 32) 0) t.arr.acc o.nextSums).1
      ∧ u.arr.queue = before ++ (if o.next + 1 < o.count then [.stream { o with next := o.next + 1 }] else []) ++ after
      ∧ u.arr.hold = t.arr.hold ∧ u.seq = t.seq ∧ u.spad = t.spad ∧ u.chan = t.chan
      ∧ u.integ.stepSeq = t.integ.stepSeq ∧ u.integ.replayPending = t.integ.replayPending := by
  refine ⟨(streamRow env t before o after).tile, ?_⟩
  simp only [StreamOp.nextCheck, StreamOp.nextSums] at h
  simp only [streamRow, h, decide_false, TOut.andIf, Bool.false_eq_true, if_false]
  exact ⟨rfl, rfl, rfl, rfl, rfl, rfl, rfl, rfl, rfl⟩

/-- Scratchpad bytes that all have good parity give no parity error (R128). -/
theorem parityHit_good (sp : Spad) (a n : Nat) (h : sp.parityBad = []) : sp.parityHit a n = false := by
  simp [Spad.parityHit, h]

/-- A drained row writes its bytes and goes on to the next row; where no byte has bad parity it detects no error (R89,
R128). -/
theorem drainRow_clean (env : TileEnv) (t : Tile) (before : List ArrayOp) (o : DrainOp) (after : List ArrayOp)
    (h : t.spad.parityBad = []) :
    ∃ u, drainRow env t before o after = TOut.pure u
      ∧ u.spad.mem = (t.spad.putAll (drainWrites t o).1).mem
      ∧ (∃ left, u.arr.queue = before ++ left ++ after ∧ (left = [] ↔ o.rows ≤ o.next + 1))
      ∧ u.arr.acc = t.arr.acc ∧ u.arr.hold = t.arr.hold ∧ u.seq = t.seq ∧ u.chan = t.chan ∧ u.integ = t.integ := by
  refine ⟨(drainRow env t before o after).tile, ?_⟩
  simp only [drainRow, parityHit_good t.spad _ _ h, Bool.and_false, TOut.andIf, Bool.false_eq_true, if_false]
  refine ⟨rfl, (touchBlocks_mem _ _ _ _).1, ⟨_, rfl, ?_⟩, rfl, rfl, rfl, rfl, rfl⟩
  split
  · exact iff_of_false (List.cons_ne_nil _ _) (by omega)
  · exact iff_of_true rfl (by omega)

/-! ### The two rows as commands -/

theorem exec_streamRowWrite (t : Nat) (s : State) : exec (.streamRowWrite t) s = s.tileStep t tileStreamRow :=
  rfl

theorem exec_drainRowOutput (t : Nat) (s : State) : exec (.drainRowOutput t) s = s.tileStep t tileDrainRow :=
  rfl

/-- The oldest STREAM, its WLOADs done and no earlier DRAIN in its way, has its next row written (R75 to R77). -/
theorem tileStreamRow_next (env : TileEnv) (t : Tile) {before : List ArrayOp} {o : StreamOp} {after : List ArrayOp}
    (hq : splitStream (loadsDone t).arr.queue = some (before, o, after))
    (hb : drainBlocks before (o.slot + o.next / 32) = false) :
    tileStreamRow env t = streamRow env (loadsDone t) before o after := by
  simp [tileStreamRow, hq, hb]

/-- The oldest DRAIN, with no earlier STREAM in its way, has its next row output (R76, R77, R89). -/
theorem tileDrainRow_next (env : TileEnv) (t : Tile) {before : List ArrayOp} {o : DrainOp} {after : List ArrayOp}
    (hq : splitDrain t.arr.queue = some (before, o, after))
    (hb : streamBlocks before (o.slot + o.next / 32) = false) :
    tileDrainRow env t = drainRow env t before o after := by
  simp [tileDrainRow, hq, hb]

/-- Settles O14: a row of a STREAM or a DRAIN is its tile's step alone, and the laws of the row say what it leaves. -/
theorem arrayRows : Obligations.ArrayRows := by
  unfold Obligations.ArrayRows
  intro s t hlive
  refine ⟨fun before o after hq hb hchk => ?_, fun before o after hq hb hpar => ?_⟩
  · obtain ⟨u, hrow, hacc, hqueue, hhold, hseq, hspad, hchan, hstep, hreplay⟩ :=
      streamRow_agrees (s.envOf t) (loadsDone (s.tile t)) before o after (o.nextCheck_agrees hchk)
    rw [loadsDone_seq] at hseq
    rw [loadsDone_integ] at hstep hreplay
    have hrun : exec (.streamRowWrite t) s = .next (s.setTile t u) := by
      rw [exec_streamRowWrite]
      refine s.tileStep_pure t _ u hlive ?_ (traceOf_quiet _ _ (by rw [hseq]) hstep (by rw [hseq]) hreplay)
      rw [tileStreamRow_next _ _ hq hb, hrow]
    rw [loadsDone_acc] at hacc
    refine ⟨u, hrun, fun n hn => ?_, fun k hk => ?_, hqueue, hseq, by simpa using hspad, by simpa using hchan, hhold⟩
    · rw [hacc]
      exact writeSums_at _ _ _ _ n (by simpa using hn)
    · rw [hacc]
      exact writeSums_other _ _ _ _ k (by simpa using hk)
  · obtain ⟨u, hrow, hmem, hleft, hacc, hhold, hseq, hchan, hinteg⟩ :=
      drainRow_clean (s.envOf t) (s.tile t) before o after hpar
    have hrun : exec (.drainRowOutput t) s = .next (s.setTile t u) := by
      rw [exec_drainRowOutput]
      refine s.tileStep_pure t _ u hlive ?_
        (traceOf_quiet _ _ (by rw [hseq]) (by rw [hinteg]) (by rw [hseq]) (by rw [hinteg]))
      rw [tileDrainRow_next _ _ hq hb, hrow]
    refine ⟨u, hrun, hmem, fun b hout => ?_, hleft, hacc, hseq, hchan, hhold⟩
    rw [hmem]
    exact Spad.putAll_other _ _ b hout

end Sys2Proof.Machine
end

section
/-! SUPPORT. The scalar instructions that write a register (R143, R144): the instruction of each operation, what it
writes by the spec's own expression, and the statements about the register and the immediate operations. -/

namespace Sys2Proof.Machine

/-! ### Results of the register operations (R143) -/

theorem aluOp_slt (a b : Word) : aluOp .slt a b = if a.toInt < b.toInt then 1 else 0 := by
  simp only [aluOp, slt_int, decide_eq_true_eq]

theorem aluOp_sltu (a b : Word) : aluOp .sltu a b = if a.toNat < b.toNat then 1 else 0 := by
  simp only [aluOp, ult_nat, decide_eq_true_eq]

theorem aluOp_min (a b : Word) : aluOp .min_ a b = if b.toInt < a.toInt then b else a := by
  simp only [aluOp, slt_int, decide_eq_true_eq]

theorem aluOp_max (a b : Word) : aluOp .max_ a b = if a.toInt < b.toInt then b else a := by
  simp only [aluOp, slt_int, decide_eq_true_eq]

theorem aluOp_divu (a b : Word) :
    aluOp .divu a b = if b = 0 then BitVec.allOnes 64 else BitVec.ofNat 64 (a.toNat / b.toNat) := by
  have hd : a / b = BitVec.ofNat 64 (a.toNat / b.toNat) := by
    rw [← BitVec.toNat_udiv, BitVec.ofNat_toNat, BitVec.setWidth_eq]
  simp only [aluOp, hd]

theorem aluOp_remu (a b : Word) : aluOp .remu a b = if b = 0 then a else BitVec.ofNat 64 (a.toNat % b.toNat) := by
  have hm : a % b = BitVec.ofNat 64 (a.toNat % b.toNat) := by
    rw [← BitVec.toNat_umod, BitVec.ofNat_toNat, BitVec.setWidth_eq]
  simp only [aluOp, hm]

/-- Function codes past those of R143 are reserved. -/
theorem aluOfFn_reserved (fn : Nat) (h : 16 ≤ fn) : aluOfFn fn = none := by
  obtain ⟨n, rfl⟩ := Nat.exists_eq_add_of_le' h
  rfl

/-! ### Operands of the immediate operations (R144) -/

theorem sext14_toInt (v : BitVec 14) : (sext14 v).toInt = v.toInt :=
  BitVec.toInt_signExtend_of_le (by decide)

/-- A shift amount that R144 admits is the immediate itself. -/
theorem sext14_shift (v : BitVec 14) (h : v.toNat < 64) : (sext14 v).toNat % 64 = v.toNat := by
  have hmsb : v.msb = false := by rw [BitVec.msb_eq_decide]; simp; omega
  rw [sext14, BitVec.signExtend_eq_setWidth_of_msb_false hmsb, BitVec.toNat_setWidth]
  omega

theorem aluOp_slt_sext14 (a : Word) (v : BitVec 14) :
    aluOp .slt a (sext14 v) = if a.toInt < v.toInt then 1 else 0 := by
  rw [aluOp_slt, sext14_toInt]

theorem aluOp_shift_sext14 (a : Word) (v : BitVec 14) (h : v.toNat < 64) :
    aluOp .sll a (sext14 v) = a <<< v.toNat ∧ aluOp .srl a (sext14 v) = a >>> v.toNat
      ∧ aluOp .sra a (sext14 v) = BitVec.ofInt 64 (a.toInt >>> v.toNat) := by
  have hs := sext14_shift v h
  exact ⟨congrArg (a <<< ·) hs, congrArg (a >>> ·) hs, congrArg (BitVec.sshiftRight a) hs⟩

/-! ### The instructions as commands -/

/-- The command of a register operation at a tile. -/
def aluInstr (op : AluOp) (t : Nat) (gd ga gb : BitVec 5) : Instr :=
  match op with
  | .add => .add t gd ga gb | .sub => .sub t gd ga gb | .and_ => .andR t gd ga gb | .or_ => .orR t gd ga gb
  | .xor_ => .xorR t gd ga gb | .sll => .sll t gd ga gb | .srl => .srl t gd ga gb | .sra => .sra t gd ga gb
  | .slt => .slt t gd ga gb | .sltu => .sltu t gd ga gb | .mul => .mul t gd ga gb | .mulhu => .mulhu t gd ga gb
  | .divu => .divu t gd ga gb | .remu => .remu t gd ga gb | .min_ => .minS t gd ga gb | .max_ => .maxS t gd ga gb

/-- The command of an immediate operation at a tile. -/
def immInstr (op : ImmOp) (t : Nat) (gd ga : BitVec 5) (v : BitVec 14) : Instr :=
  match op with
  | .addi => .addi t gd ga v | .andi => .andi t gd ga v | .ori => .ori t gd ga v | .xori => .xori t gd ga v
  | .slti => .slti t gd ga v | .sltiu => .sltiu t gd ga v | .slli => .slli t gd ga v | .srli => .srli t gd ga v
  | .srai => .srai t gd ga v

theorem exec_aluInstr (op : AluOp) (t : Nat) (gd ga gb : BitVec 5) (s : State) :
    exec (aluInstr op t gd ga gb) s = s.tileStep t (fun env tl => tileIssue env (.alu op gd ga gb) tl) := by
  cases op <;> rfl

theorem exec_immInstr (op : ImmOp) (t : Nat) (gd ga : BitVec 5) (v : BitVec 14) (s : State) :
    exec (immInstr op t gd ga v) s = s.tileStep t (fun env tl => tileIssue env (.imm op gd ga v) tl) := by
  cases op <;> rfl

theorem exec_li (t : Nat) (gd : BitVec 5) (w : BitVec 32) (s : State) :
    exec (.li t gd w) s = s.tileStep t (fun env tl => tileIssue env (.li gd w) tl) := rfl

theorem exec_lih (t : Nat) (gd : BitVec 5) (w : BitVec 32) (s : State) :
    exec (.lih t gd w) s = s.tileStep t (fun env tl => tileIssue env (.lih gd w) tl) := rfl

/-- A register operation that issues writes its result to gd and nothing else (R143). -/
theorem exec_alu_wrote {s : State} {t : Nat} (h : s.issues t 4) (op : AluOp) (gd ga gb : BitVec 5) {x : Word}
    (hx : aluOp op ((s.tile t).greg ga) ((s.tile t).greg gb) = x) :
    exec (aluInstr op t gd ga gb) s = .next (s.wrote t gd x 4) := by
  rw [exec_aluInstr, ← hx]
  exact s.issue_reg t _ 4 gd _ (lengthT_alu _ _ _ _) h rfl

/-- An immediate operation that issues, with an amount below 64 where it is a shift, writes its result to gd and
nothing else (R144). -/
theorem exec_imm_wrote {s : State} {t : Nat} (h : s.issues t 4) (op : ImmOp) (gd ga : BitVec 5) (v : BitVec 14)
    {x : Word} (hs : immIsShift op = true → v.toNat < 64)
    (hx : aluOp (immAlu op) ((s.tile t).greg ga) (sext14 v) = x) :
    exec (immInstr op t gd ga v) s = .next (s.wrote t gd x 4) := by
  have hgood : ¬(immIsShift op && decide (64 ≤ v.toNat)) = true := by
    simpa only [Bool.and_eq_true, decide_eq_true_eq, not_and, Nat.not_le] using hs
  rw [exec_immInstr, ← hx]
  exact s.issue_reg t _ 4 gd _ (lengthT_imm _ _ _ _) h (by rw [tryInstr, if_neg hgood])

/-! ### The decoder on the words of the immediate operations (R141, R142, R144) -/

theorem bitsOf_div (x lo w : Nat) : bitsOf x lo w = x / 2 ^ lo % 2 ^ w := by
  rw [bitsOf, Nat.shiftRight_eq_div_pow]

theorem immOfOp_opOfImm (op : ImmOp) : immOfOp (opOfImm op) = some op := by cases op <;> rfl

theorem opOfImm_range (op : ImmOp) : 2 ≤ opOfImm op ∧ opOfImm op ≤ 10 := by cases op <;> decide

theorem opIsLong_opOfImm (op : ImmOp) : opIsLong (opOfImm op) = false := by cases op <;> rfl

/-- The word of an immediate operation decodes to it, and to no instruction where it is a shift with IMM14[13:6] not
zero. -/
theorem decodeT_imm (op : ImmOp) (gd ga : BitVec 5) (v : BitVec 14) :
    decodeT (encodeT (.imm op gd ga v))
      = if immIsShift op = true ∧ 64 ≤ v.toNat then none else some (.imm op gd ga v) := by
  obtain ⟨hlo, hhi⟩ := opOfImm_range op
  have hlong := opIsLong_opOfImm op
  have hof := immOfOp_opOfImm op
  generalize hw : encodeT (.imm op gd ga v) = w
  have hop : bitsOf w 0 7 = opOfImm op := by rw [bitsOf_div, ← hw, encodeT]; omega
  have h7 : bitOf w 7 = false := by rw [bitOf_7, ← hw, encodeT]; simp; omega
  have hgd : fld w 8 5 = gd := by
    apply BitVec.eq_of_toNat_eq
    rw [fld, bitsOf_div, ← hw, encodeT, BitVec.toNat_ofNat]; omega
  have hga : fld w 13 5 = ga := by
    apply BitVec.eq_of_toNat_eq
    rw [fld, bitsOf_div, ← hw, encodeT, BitVec.toNat_ofNat]; omega
  have hv : fld w 18 14 = v := by
    apply BitVec.eq_of_toNat_eq
    rw [fld, bitsOf_div, ← hw, encodeT, BitVec.toNat_ofNat]; omega
  have hamt : bitsOf w 24 8 ≠ 0 ↔ 64 ≤ v.toNat := by rw [bitsOf_div, ← hw, encodeT]; omega
  have hnot1 : opOfImm op ≠ 1 := by omega
  simp only [decodeT, hop, h7, hlong, hgd, hga, hv, hof, hamt, hlo, hhi, hnot1, ne_eq, not_true_eq_false, if_false,
    and_self, if_true]

/-! ### The statements -/

/-- Settles O3: every register operation issues alike, and its result is what R143's table says. -/
theorem registerOperations : Obligations.RegisterOperations := by
  unfold Obligations.RegisterOperations
  intro s t gd ga gb h
  have run {x : Word} (op : AluOp) := exec_alu_wrote h op gd ga gb (x := x)
  exact ⟨run .add rfl, run .sub rfl, run .and_ rfl, run .or_ rfl, run .xor_ rfl, run .sll rfl, run .srl rfl,
    run .sra rfl, run .slt (aluOp_slt _ _), run .sltu (aluOp_sltu _ _), run .mul rfl, run .mulhu rfl,
    run .divu (aluOp_divu _ _), run .remu (aluOp_remu _ _), run .min_ (aluOp_min _ _), run .max_ (aluOp_max _ _),
    aluOfFn_reserved⟩

/-- Settles O4: every immediate operation is its register operation on the sign-extended immediate, and a shift's
word decodes only where the amount is below 64. -/
theorem immediateOperations : Obligations.ImmediateOperations := by
  unfold Obligations.ImmediateOperations
  intro s t gd ga v w
  refine ⟨fun h => ?_, fun h => ⟨?_, ?_⟩, fun op hs hv => ?_⟩
  · have run {x : Word} (op : ImmOp) := exec_imm_wrote h op gd ga v (x := x)
    have plain {op : ImmOp} (hop : immIsShift op = false) (hs : immIsShift op = true) : v.toNat < 64 := by
      rw [hop] at hs; cases hs
    refine ⟨run .addi (plain rfl) rfl, run .andi (plain rfl) rfl, run .ori (plain rfl) rfl,
      run .xori (plain rfl) rfl, run .slti (plain rfl) (aluOp_slt_sext14 _ _),
      run .sltiu (plain rfl) (aluOp_sltu _ _), fun hv => ?_⟩
    obtain ⟨hsll, hsrl, hsra⟩ := aluOp_shift_sext14 ((s.tile t).greg ga) v hv
    exact ⟨run .slli (fun _ => hv) hsll, run .srli (fun _ => hv) hsrl, run .srai (fun _ => hv) hsra⟩
  · rw [exec_li]
    exact s.issue_reg t _ 8 gd _ (lengthT_li _ _) h rfl
  · rw [exec_lih]
    exact s.issue_reg t _ 8 gd _ (lengthT_lih _ _) h rfl
  · rw [decodeT_imm, if_pos ⟨hs, hv⟩]

end Sys2Proof.Machine
end

section
/-! SUPPORT. Control flow of a tile program (R146, R172): where each instruction goes on, what the end of a handler
releases, and the statement about both. -/

namespace Sys2Proof.Machine

/-! ### Going on elsewhere (R146) -/

/-- The conditions of R146, by the spec's own comparisons. -/
theorem branchTaken_eq (a b : Word) :
    branchTaken .beq a b = decide (a = b) ∧ branchTaken .bne a b = decide (a ≠ b)
      ∧ branchTaken .blt a b = decide (a.toInt < b.toInt) ∧ branchTaken .bge a b = decide (b.toInt ≤ a.toInt)
      ∧ branchTaken .bltu a b = decide (a.toNat < b.toNat) ∧ branchTaken .bgeu a b = decide (b.toNat ≤ a.toNat) := by
  refine ⟨rfl, rfl, rfl, ?_, rfl, ?_⟩
  · rw [branchTaken, slt_int, ← decide_not, decide_eq_decide, Int.not_lt]
  · rw [branchTaken, ult_nat, ← decide_not, decide_eq_decide, Nat.not_lt]

/-- The command of a branch at a tile. -/
def branchInstr (op : BranchOp) (t : Nat) (ga gb : BitVec 5) (v : BitVec 14) : Instr :=
  match op with
  | .beq => .beq t ga gb v | .bne => .bne t ga gb v | .blt => .blt t ga gb v | .bge => .bge t ga gb v
  | .bltu => .bltu t ga gb v | .bgeu => .bgeu t ga gb v

theorem exec_branchInstr (op : BranchOp) (t : Nat) (ga gb : BitVec 5) (v : BitVec 14) (s : State) :
    exec (branchInstr op t ga gb v) s = s.tileStep t (fun env tl => tileIssue env (.branch op ga gb v) tl) := by
  cases op <;> rfl

theorem exec_jal (t : Nat) (gd : BitVec 5) (w : BitVec 19) (s : State) :
    exec (.jal t gd w) s = s.tileStep t (fun env tl => tileIssue env (.jal gd w) tl) := rfl

theorem exec_jalr (t : Nat) (gd ga : BitVec 5) (v : BitVec 14) (s : State) :
    exec (.jalr t gd ga v) s = s.tileStep t (fun env tl => tileIssue env (.jalr gd ga v) tl) := rfl

theorem exec_hret (t : Nat) (s : State) : exec (.hret t) s = s.tileStep t (fun env tl => tileIssue env .hret tl) := rfl

/-- An instruction that only goes on elsewhere, on a tile that differs from the one before in its registers alone. -/
theorem State.issue_wentTo (s : State) (t : Nat) (i : TInstr) (u : Tile) (pc : Word) (hl : lengthT i = 4)
    (h : s.issues t 4)
    (hd : tryInstr (s.envOf t) (s.tile t) i (markAfter (s.envOf t))
      = .done (TOut.pure { u with seq := { u.seq with pc := pc, cur := none } }))
    (hh : u.seq.handler = (s.tile t).seq.handler) (hm : u.seq.mode = (s.tile t).seq.mode)
    (hi : u.integ = (s.tile t).integ) :
    s.tileStep t (fun env tl => tileIssue env i tl) = .next (s.wentTo t u pc) :=
  s.issue_pure t i 4 _ hl h hd (traceOf_quiet _ _ (by simpa using hh) (by simp [hi]) (by simpa using hm) (by simp [hi]))

/-- A branch that issues goes to its target where its condition holds, and past itself where it does not (R146). -/
theorem exec_branch_wentTo {s : State} {t : Nat} (h : s.issues t 4) (op : BranchOp) (ga gb : BitVec 5) (v : BitVec 14)
    {c : Prop} [Decidable c] (hc : branchTaken op ((s.tile t).greg ga) ((s.tile t).greg gb) = decide c) :
    exec (branchInstr op t ga gb v) s = .next (s.wentTo t (s.tile t)
      (if c then (s.tile t).seq.pc + 4 * v.signExtend 64 else (s.tile t).seq.pc + 4)) := by
  rw [exec_branchInstr]
  refine s.issue_wentTo t _ _ _ (lengthT_branch _ _ _ _) h ?_ rfl rfl rfl
  by_cases hct : c
  · simp only [tryInstr, hc, hct, decide_true, if_true, sext14]
  · simp only [tryInstr, hc, hct, decide_false, if_false, Bool.false_eq_true]
    rfl

/-! ### The end of a handler (R172) -/

/-- The tile back in its main program: at TS_HANDLER_PC, its hold or wait entered afresh. -/
def leaveHandler (t : Tile) : Tile :=
  { t with seq := { t.seq with
      handler := false, handlerTaken := false, pc := t.seq.handlerPc, cur := t.seq.mainCur, mainCur := none } }

/-- HRET in handler mode: the head message is released unless it was taken, and the main program goes on. -/
theorem tryHret_inHandler (env : TileEnv) (t : Tile) (h : t.seq.handler = true) :
    tryHret env t
      = .done ((if t.seq.handlerTaken then TOut.pure t else releaseHead env t t.seq.handlerQ).map leaveHandler) := by
  rw [tryHret, h]
  rfl

/-- The tile after the head message of queue `q` was released, `m` being the head and `ms` the others. -/
def released (t : Tile) (q : Nat) (m : QMsg) (ms : List QMsg) : Tile :=
  { t.outside with chan := { t.chan with
      queues := SMap.set Queue.empty t.chan.queues q ⟨((t.chan.queue q).head + m.slots) % 32, ms⟩ } }

/-- The release of a head message frees its slots and sends their CREDIT (R236). -/
theorem releaseHead_head (env : TileEnv) (t : Tile) (q : Nat) (m : QMsg) (ms : List QMsg)
    (h : (t.chan.queue q).msgs = m :: ms) :
    releaseHead env t q
      = ⟨released t q m ms, [.inject (creditPacket env t m.sender m.seq m.chan m.slots false)]⟩ := by
  simp only [releaseHead, h, released]

theorem released_queue (t : Tile) (q : Nat) (m : QMsg) (ms : List QMsg) :
    (released t q m ms).chan.queue q = ⟨((t.chan.queue q).head + m.slots) % 32, ms⟩ := by
  simp [released, Chan.queue]

/-- The return from a handler makes no trace record (R447). -/
theorem traceOf_leaveHandler (t u : Tile) (hq : u.seq = t.seq) (hs : u.integ.stepSeq = t.integ.stepSeq)
    (hr : t.integ.replayPending = none) : traceOf t (settlePause (leaveHandler u)) = [] :=
  traceOf_none _ _ (by simp [leaveHandler]) (by simpa [leaveHandler] using hs)
    (.inl (by simp [leaveHandler, hq])) (by simp [hr])

/-- HRET that issues in handler mode: what it releases goes out after the tile is back in its main program. -/
theorem exec_hret_inHandler {s : State} {t : Nat} (h : s.issues t 4) (hh : (s.tile t).seq.handler = true) {o : TOut}
    (ho : (if (s.tile t).seq.handlerTaken then TOut.pure (s.tile t)
      else releaseHead (s.envOf t) (s.tile t) (s.tile t).seq.handlerQ) = o)
    (hq : o.tile.seq = (s.tile t).seq) (hs : o.tile.integ.stepSeq = (s.tile t).integ.stepSeq) :
    exec (.hret t) s
      = .next (o.effs.foldl (fun s e => s.applyEff t e) (s.setTile t (settlePause (leaveHandler o.tile)))) := by
  have hrun : tileIssue (s.envOf t) .hret (s.tile t) = (o.map leaveHandler).map settlePause := by
    rw [s.issues_try t .hret (by rw [lengthT_hret]; exact h), tryInstr, tryHret_inHandler _ _ hh, ho]
    rfl
  obtain ⟨_, _, hreplay⟩ := mayIssue_running h.1.2.2.1
  rw [exec_hret]
  exact s.tileStep_effs t _ ((o.map leaveHandler).map settlePause) h.live hrun (traceOf_leaveHandler _ _ hq hs hreplay)

/-! ### The statement -/

/-- Settles O6: branches and jumps change pc and at most gd; HRET goes back to the main program, and what it releases
is the head message that the handler left. -/
theorem controlFlow : Obligations.ControlFlow := by
  unfold Obligations.ControlFlow
  intro s t gd ga gb v w h
  have run {c : Prop} [Decidable c] (op : BranchOp) := exec_branch_wentTo h op ga gb v (c := c)
  obtain ⟨hbeq, hbne, hblt, hbge, hbltu, hbgeu⟩ := branchTaken_eq ((s.tile t).greg ga) ((s.tile t).greg gb)
  refine ⟨run .beq hbeq, run .bne hbne, run .blt hblt, run .bge hbge, run .bltu hbltu, run .bgeu hbgeu, ?_, ?_,
    fun hh => ⟨fun htaken => ?_, fun m ms hleft hhead => ?_⟩⟩
  · rw [exec_jal]
    exact s.issue_wentTo t _ _ _ (lengthT_jal _ _) h rfl (by simp) (by simp) rfl
  · rw [exec_jalr]
    exact s.issue_wentTo t _ _ _ (lengthT_jalr _ _ _) h rfl (by simp) (by simp) rfl
  · exact exec_hret_inHandler h hh (if_pos htaken) rfl rfl
  · have hrel := releaseHead_head (s.envOf t) (s.tile t) _ m ms hhead
    exact ⟨_, exec_hret_inHandler h hh ((if_neg (by rw [hleft]; decide)).trans hrel) rfl rfl,
      released_queue _ _ m ms, rfl, rfl, rfl, rfl⟩

end Sys2Proof.Machine
end

section
/-! SUPPORT. The records of the reply ring (R404 to R406, R432): the room of the ring, what the entries of a record and
its interrupt change, where a record goes that is produced, and the statement about it. -/

namespace Sys2Proof.Machine

/-! ### The room and the entries of the ring (R404, R405, R432) -/

theorem Rec.bytes_length (r : Rec) (seq : Nat) : (r.bytes seq).length = 24 + r.body.length := by
  simp only [Rec.bytes, leBytes, zeroBytes, List.length_append, List.length_cons, List.length_nil,
    List.length_replicate]

/-- A record is of one entry where its header of 24 bytes and its body fit in 63 bytes (R432). -/
theorem Rec.entries_one (r : Rec) (h : r.body.length ≤ 39) : r.entries = 1 := by
  unfold Rec.entries ceilDiv
  omega

/-- The room is the expression of R405, which the model writes without a negative number. -/
theorem Uci.room_eq_int (u : Uci) (hp : u.producer < u.size) :
    (u.room : Int) = ((u.consumer : Int) - u.producer - 1) % u.size := by
  have hsum : ((u.consumer + 2 * u.size - u.producer - 1 : Nat) : Int)
      = (u.consumer : Int) - u.producer - 1 + u.size * 2 := by omega
  rw [Uci.room, Int.natCast_emod, hsum, Int.add_mul_emod_self_left]

/-- The attachment with the producer on by one entry: PHASE turns over at the end of the ring (R404). -/
def Uci.advanced (u : Uci) : Uci :=
  if u.producer + 1 = u.size then { u with producer := 0, phase := !u.phase } else { u with producer := u.producer + 1 }

theorem Uci.advanced_producer (u : Uci) :
    u.advanced.producer = if u.producer + 1 = u.size then 0 else u.producer + 1 := by
  unfold Uci.advanced; split <;> rfl
theorem Uci.advanced_phase (u : Uci) :
    u.advanced.phase = if u.producer + 1 = u.size then !u.phase else u.phase := by
  unfold Uci.advanced; split <;> rfl
@[simp] theorem Uci.advanced_backlog (u : Uci) : u.advanced.backlog = u.backlog := by
  unfold Uci.advanced; split <;> rfl

/-- Each entry takes the producer on by one. -/
theorem ringEntries_succ_fst (base n : Nat) (u : Uci) (bs : List Byte) :
    (ringEntries base (n + 1) u bs).1 = (ringEntries base n u.advanced (bs.drop 63)).1 := rfl

/-- The write of a content that one entry holds: zeros to byte 62, then PHASE with no entry to follow (R404). -/
theorem ringEntries_one_snd (base : Nat) (u : Uci) (bs : List Byte) (h : bs.length ≤ 63) :
    (ringEntries base 1 u bs).2 = [.hostWrite (base + u.producer * 64)
      (bs ++ zeroBytes (63 - bs.length) ++ [if u.phase then 0x80 else 0])] := by
  have hlast : leBytes (0 + fieldAt (flagNat u.phase) 7 1) 1 = [if u.phase then (0x80 : Byte) else 0] := by
    cases u.phase <;> rfl
  simp only [ringEntries, List.take_of_length_le h, hlast]

/-- The entries of a record leave the backlog alone. -/
theorem ringEntries_backlog (base n : Nat) : ∀ (u : Uci) (bs : List Byte),
    (ringEntries base n u bs).1.backlog = u.backlog := by
  induction n with
  | zero => intros; rfl
  | succ n ih => intro u bs; rw [ringEntries_succ_fst, ih, Uci.advanced_backlog]

/-! ### A record that is written (R404, R406) -/

/-- The interrupt after a record is sent where the moderation interval has passed, and is due otherwise (R406). -/
theorem State.interrupt_moderated (s : State) (b : Bool) : s.interrupt b =
    if (!s.uci.irqEnable || b) = true then s
    else if s.moderated = true then
      { s with
        uci := { s.uci with irqDue := false, irqAt := some s.clk.tide }
        out := s.out ++ [.interrupt s.uci.irqAddr.toNat s.uci.irqData] }
    else { s with uci := { s.uci with irqDue := true } } := rfl

/-- The interrupt after a record changes what is due, the time of the last one, and what leaves the device (R406). -/
theorem State.interrupt_eq (s : State) (b : Bool) : ∃ due time more,
    s.interrupt b = { s with uci := { s.uci with irqDue := due, irqAt := time }, out := s.out ++ more } := by
  rw [State.interrupt_moderated]
  split
  · exact ⟨s.uci.irqDue, s.uci.irqAt, [], by rw [List.append_nil]⟩
  · split
    · exact ⟨false, some s.clk.tide, _, rfl⟩
    · exact ⟨true, s.uci.irqAt, [], by rw [List.append_nil]⟩

/-- A written record is its entries, a number of the sequence, and its interrupt. -/
theorem State.putRecord_eq (s : State) (r : Rec) : ∃ due time more,
    let res := ringEntries (s.uci.ringBase * 4096) r.entries s.uci (r.bytes s.uci.recSeq)
    s.putRecord r = { s with
      uci := { res.1 with recSeq := (s.uci.recSeq + 1) % 65536, irqDue := due, irqAt := time }
      out := s.out ++ res.2 ++ more } :=
  State.interrupt_eq _ _

/-- A written record counts in the sequence and leaves the backlog alone. -/
theorem State.putRecord_counts (s : State) (r : Rec) :
    (s.putRecord r).uci.backlog = s.uci.backlog ∧ (s.putRecord r).uci.recSeq = (s.uci.recSeq + 1) % 65536 := by
  obtain ⟨due, time, more, h⟩ := s.putRecord_eq r
  rw [h]
  exact ⟨ringEntries_backlog _ _ _ _, rfl⟩

/-- A record of one entry is written at the producer's place, and the producer goes on by one (R404, R432). -/
theorem State.putRecord_one (s : State) (r : Rec) (hr : r.body.length ≤ 39) :
    (∃ more, (s.putRecord r).out = s.out ++ .hostWrite (s.uci.ringBase * 4096 + s.uci.producer * 64)
        (r.bytes s.uci.recSeq ++ zeroBytes (39 - r.body.length) ++ [if s.uci.phase then 0x80 else 0]) :: more)
      ∧ (s.putRecord r).uci.producer = s.uci.advanced.producer ∧ (s.putRecord r).uci.phase = s.uci.advanced.phase := by
  obtain ⟨due, time, more, h⟩ := s.putRecord_eq r
  have hlen := r.bytes_length s.uci.recSeq
  rw [h, r.entries_one hr]
  refine ⟨⟨more, ?_⟩, rfl, rfl⟩
  rw [ringEntries_one_snd _ _ _ (by omega), hlen, show 63 - (24 + r.body.length) = 39 - r.body.length by omega,
    List.append_assoc, List.singleton_append]

/-! ### Where a record goes (R405, R506) -/

theorem State.ringTakes_iff (s : State) (r : Rec) :
    s.ringTakes r = true ↔ s.uci.enable = true ∧ r.entries ≤ s.uci.room := by
  rw [State.ringTakes, Bool.and_eq_true, decide_eq_true_eq]

theorem State.ringTakes_eq_false_iff (s : State) (r : Rec) :
    s.ringTakes r = false ↔ s.uci.enable = false ∨ s.uci.room < r.entries := by
  rw [State.ringTakes, Bool.and_eq_false_iff, decide_eq_false_iff_not, Nat.not_le]

/-- A silent harbour master writes nothing (R506). -/
theorem State.record_silent (s : State) (r : Rec) (h : s.hm.silent = true) : s.record r = s := if_pos h

/-- A record that has room, with no other waiting, is written (R405). -/
theorem State.record_written (s : State) (r : Rec) (h : s.hm.silent = false) (hb : s.uci.backlog = [])
    (ht : s.ringTakes r = true) : s.record r = s.putRecord r := by
  simp [State.record, h, hb, ht]

/-- A record that has no room, or finds others waiting, waits behind them; a ring that is enabled shows RING_FULL
(R405). -/
theorem State.record_waits (s : State) (r : Rec) (h : s.hm.silent = false)
    (hw : s.uci.backlog ≠ [] ∨ s.ringTakes r = false) (hl : s.uci.backlog.length < 256) :
    s.record r = { s with uci := { s.uci with
      ringFull := s.uci.ringFull || s.uci.enable, backlog := s.uci.backlog ++ [r] } } := by
  have hno : (decide (s.uci.backlog = []) && s.ringTakes r) = false := by
    rwa [Bool.and_eq_false_iff, decide_eq_false_iff_not]
  simp [State.record, h, hno, hl]

theorem exec_intakeTake (s : State) : exec .intakeTake s = execIntakeTake s := rfl

/-- While the harbour master takes no commands, intake keeps its packets (R403, R405). -/
theorem exec_intakeTake_closed (s : State) (h : s.canTake = false) : exec .intakeTake s = .next s := by
  rw [exec_intakeTake, execIntakeTake]
  split
  · rfl
  · simp [h]

/-- Settles O28: a record with room is written by `putRecord`, one without waits by `record_waits`, and a full backlog
closes intake. -/
theorem records : Obligations.Records := by
  unfold Obligations.Records
  intro s r hr
  have hone := r.entries_one hr
  refine ⟨s.record_silent r, fun hs hb he hroom => ?_, fun hs hw hl => ?_, fun _ hp => s.uci.room_eq_int hp,
    fun q hs he hb => ⟨fun hroom => ?_, fun hroom => ?_⟩, fun hfull => ?_⟩
  · obtain ⟨hout, hprod, hphase⟩ := s.putRecord_one r hr
    obtain ⟨hback, hseq⟩ := s.putRecord_counts r
    rw [s.record_written r hs hb ((s.ringTakes_iff r).2 ⟨he, hone ▸ hroom⟩)]
    exact ⟨hout, hseq, hprod.trans s.uci.advanced_producer, hphase.trans s.uci.advanced_phase, hback.trans hb⟩
  · have hfull : s.uci.enable = false ∨ s.uci.room = 0 → s.ringTakes r = false := fun h =>
      (s.ringTakes_eq_false_iff r).2 (h.imp_right (by omega))
    rw [s.record_waits r hs (hw.imp_right hfull) hl]
    exact ⟨rfl, rfl, rfl⟩
  · rw [s.record_waits q hs (.inr ((s.ringTakes_eq_false_iff q).2 (.inr hroom))) (by simp [hb])]
    exact ⟨rfl, by simp [hb], by simp [he]⟩
  · obtain ⟨hback, hseq⟩ := s.putRecord_counts q
    rw [s.record_written q hs hb ((s.ringTakes_iff q).2 ⟨he, hroom⟩)]
    exact ⟨hback.trans hb, hseq⟩
  · exact exec_intakeTake_closed s (by simp [State.canTake, Nat.not_lt.2 hfull])

end Sys2Proof.Machine
end
